-- ==== Sys2Proof/Word.lean ====
section
/-! DEFINITION. Bytes, local time and clamping: the plainest values the rules use. -/

namespace Sys2Proof

/-- A byte of a frame or of a stored record; also a half number or a mode stamp, which count modulo 256. -/
abbrev Byte := BitVec 8

/-- A local time or a length of time, in ticks of 4 microseconds from reset: the unit of the capture
counter (R47). DESIGN CHOICE, log 1: 25000 ticks are one tenth of a second. -/
abbrev Time := Nat

/-- `n` tenths of a second. -/
abbrev tenths (n : Nat) : Time := 25000 * n

/-- `n` seconds. -/
abbrev seconds (n : Nat) : Time := 250000 * n

/-- `n` minutes. -/
abbrev minutes (n : Nat) : Time := 15000000 * n

/-- `n` milliseconds. -/
abbrev millis (n : Nat) : Time := 250 * n

/-- "Clamped to lo..hi" of section 0.5.2. -/
def clampNat (lo hi x : Nat) : Nat := if x < lo then lo else if hi < x then hi else x

/-- "Clamped to lo..hi" of section 0.5.2. -/
def clampInt (lo hi x : Int) : Int := if x < lo then lo else if hi < x then hi else x

end Sys2Proof
end

