-- ==== Sys2Proof/Syntax.lean ====
section
/-! DEFINITION. The commands: one constructor of `Instr` for each of the 41 rows of
spec/opcode_table.json, with the value its event brings and the local time `t` at which it takes place. -/

namespace Sys2Proof

/-- A control line's level: the five inputs are active low (section 11.1). -/
inductive Level where
  | high | low
  deriving DecidableEq, Repr

/-- The five inputs of the wall control (section 11.1). -/
inductive ControlLine where
  | boost | filter | mode1 | mode0 | summer
  deriving DecidableEq, Repr

/-- One level for each of the five lines. -/
structure LineLevels where
  boost  : Level
  filter : Level
  mode1  : Level
  mode0  : Level
  summer : Level
  deriving DecidableEq, Repr

/-- The sources of override entries (section 7.2). -/
inductive Source where
  | localBoost | humidity | houseBoost
  deriving DecidableEq, Repr

/-- What a read of the serial memory brings (R169, R170): no acknowledgement at the address or at
some byte, or every byte of the record. -/
inductive MemoryReply where
  | silent
  | bytes (bs : List Byte)
  deriving DecidableEq, Repr

/-- What the stop bits of a frame's characters read (R155): all recessive; an earlier character's dominant and the
last one's recessive; the last one's dominant. -/
inductive StopBits where
  | recessive | earlierDominant | lastDominant
  deriving DecidableEq, Repr

/-- R151: the local time of a collision, and the time at which the last dominant bit of the frame that the other sender
completes has passed (DESIGN CHOICE, log 40). -/
structure CollisionTimes where
  time    : Time
  restEnd : Time
  deriving DecidableEq, Repr

/-- The steps of spec/opcode_table.json, in the table's order. -/
inductive Instr where
  /-- RESET (R167): the cause of reset is removed and the loader reads ST3..ST0, LANE and CL1..CL0. -/
  | reset (index : BitVec 4) (lane : BitVec 1) (roomClass : BitVec 2)
  /-- CONFIGURATION_RECORD_READ (R169). -/
  | configurationRecordRead (reply : MemoryReply) (t : Time)
  /-- FILTER_RECORD_READ (R170), with the raw levels of the five lines at the end of STARTING. -/
  | filterRecordRead (reply : MemoryReply) (raw : LineLevels) (t : Time)
  /-- LISTEN_END (R17). -/
  | listenEnd (t : Time)
  /-- HALF_BOUNDARY (R3). -/
  | halfBoundary (t : Time)
  /-- RUNDOWN_END (R22). -/
  | rundownEnd (t : Time)
  /-- SWITCH_DEAD_TIME_END (R23). -/
  | switchDeadTimeEnd (t : Time)
  /-- SPINUP_HOLD_END (R45). -/
  | spinupHoldEnd (t : Time)
  /-- SPINUP_LIMIT (R24). -/
  | spinupLimit (t : Time)
  /-- TACH_CAPTURE (R48): one counted tach edge. -/
  | tachCapture (t : Time)
  /-- CAPTURE_OVERFLOW (R49). -/
  | captureOverflow (t : Time)
  /-- STALL_REPORT (R51). -/
  | stallReport (t : Time)
  /-- STALL_HISTORY_AGEING (R35). -/
  | stallHistoryAgeing (t : Time)
  /-- PAUSE_END (R36). -/
  | pauseEnd (t : Time)
  /-- SAMPLE (R55): the three 12-bit codes. -/
  | sample (inner outer humidity : BitVec 12) (t : Time)
  /-- RUN_SECOND (R123). -/
  | runSecond (t : Time)
  /-- CONTENTION_WINDOW_END (R80). -/
  | contentionWindowEnd (t : Time)
  /-- MELT_STEP_END (R85). -/
  | meltStepEnd (t : Time)
  /-- DEFROST_TIME_LIMIT (R86). -/
  | defrostTimeLimit (t : Time)
  /-- BLIND_DEFROST_LIMIT (R90). -/
  | blindDefrostLimit (t : Time)
  /-- LOCKOUT_END (R88). -/
  | lockoutEnd (t : Time)
  /-- BOOST_CAP (R99). -/
  | boostCap (t : Time)
  /-- REST_CHECK (R102). -/
  | restCheck (t : Time)
  /-- OVERRIDE_EXPIRY (R108) of the entry with this source and origin. -/
  | overrideExpiry (source : Source) (origin : Nat) (t : Time)
  /-- FRAME_START (R149). -/
  | frameStart (t : Time)
  /-- LOST_CONTENTION (R150): the header as read back. -/
  | lostContention (header : Byte) (t : Time)
  /-- COLLISION (R151), with the local time at which the last dominant bit of the frame that the other sender
  completes has passed. -/
  | collision (x : CollisionTimes)
  /-- FRAME_SENT (R152). -/
  | frameSent (t : Time)
  /-- FRAME_RECEIVED (R155): the characters taken in since the receive assembly's present content,
  what the stop bits of the frame's characters read, and the local time of the frame's first start bit. -/
  | frameReceived (chars : List Byte) (stops : StopBits) (arrival : Time) (t : Time)
  /-- PEER_STALE (R137) for one station number. -/
  | peerStale (station : Nat) (t : Time)
  /-- PEER_REMOVED (R137) for one station number. -/
  | peerRemoved (station : Nat) (t : Time)
  /-- CONTENDING_FALLBACK (R138) for one station number. -/
  | contendingFallback (station : Nat) (t : Time)
  /-- STATUS_PERIOD_END (R154). -/
  | statusPeriodEnd (t : Time)
  /-- LINE_FAULT_RAISED (R157): how long the line has been continuously dominant. -/
  | lineFaultRaised (dominant : Time) (t : Time)
  /-- LINE_FAULT_CLEARED (R157): how long the line has been continuously recessive. -/
  | lineFaultCleared (recessive : Time) (t : Time)
  /-- DEBOUNCE (R158): the raw level of a line has stood for 50 ms. -/
  | debounce (line : ControlLine) (level : Level) (t : Time)
  /-- HOLD (R161). -/
  | hold (t : Time)
  /-- FILTER_RESET (R133, R162). -/
  | filterReset (t : Time)
  /-- MODE_POSITION_TAKEN (R159): the raw pair SW_MODE1, SW_MODE0 has shown this for 50 ms. -/
  | modePositionTaken (mode1 mode0 : Level) (t : Time)
  /-- WRITE_COMPLETE (R171). -/
  | writeComplete (t : Time)
  /-- WRITE_FAILED (R172). -/
  | writeFailed (t : Time)
  deriving DecidableEq, Repr

end Sys2Proof
end

