-- ==== Sys2Proof/Decode.lean ====
section
/-! DEFINITION. The command that a word of spec/opcode_table.json spells. No row of this block's table
gives any bits ("fields" is empty in all 41 rows), so no word spells a command. -/

namespace Sys2Proof

/-- The table gives its rows no bits: every word is turned away. -/
def decodeTableWord (_nbits _w : Nat) : Option Instr := none

end Sys2Proof
end

