-- ==== Sys2Proof/Config.lean ====
section
/-! DEFINITION. The configuration record (section 12.3): what the installer fixes for one station.
The spec leaves no result undefined, so there is no free value beside it. -/

namespace Sys2Proof

/-- Byte 10 of the configuration record. -/
inductive CyclePolicy where
  | tracked | fixed
  deriving DecidableEq, Repr

/-- Byte 12 of the configuration record: the five wake sources (R163). -/
structure WakeSet where
  boostGesture    : Bool
  modeSwitch      : Bool
  houseModeCall   : Bool
  houseBoostCall  : Bool
  humidityCeiling : Bool
  deriving DecidableEq, Repr

/-- The fields of the configuration record (section 12.3), in its units. -/
structure ConfigRecord where
  /-- Q_nom in m³/h. -/
  qNom            : Nat
  allowance       : Nat
  awayLevel       : Nat
  normalLevel     : Nat
  highLevel       : Nat
  /-- Units of 0.05 g/m³. -/
  humidityStep    : Nat
  /-- Percent. -/
  rhCeiling       : Nat
  /-- Units of 100 h. -/
  serviceInterval : Nat
  dueRise         : Nat
  blockedRise     : Nat
  policy          : CyclePolicy
  /-- Seconds. -/
  fixedLength     : Nat
  wake            : WakeSet
  /-- Whole degrees Celsius. -/
  summerThreshold : Nat
  /-- Minutes. -/
  houseBoost      : Nat
  /-- Minutes. -/
  localBoost      : Nat
  deriving DecidableEq, Repr

/-- The defaults of section 12.3. -/
def ConfigRecord.defaults : ConfigRecord where
  qNom := 30
  allowance := 1
  awayLevel := 30
  normalLevel := 55
  highLevel := 80
  humidityStep := 30
  rhCeiling := 85
  serviceInterval := 44
  dueRise := 60
  blockedRise := 120
  policy := .tracked
  fixedLength := 60
  wake := ⟨true, true, true, true, true⟩
  summerThreshold := 12
  houseBoost := 30
  localBoost := 20

end Sys2Proof
end

