-- ==== Sys2Proof/Machine/State.lean ====
section
/-! DEFINITION. The state of the block: one structure for each block of section 0.3, plain data, with
the values after reset. INVENTORY.md gives each field's rule. -/

namespace Sys2Proof.Machine

/-! ## Names of values -/

/-- A direction of the fan (section 2.1). -/
inductive Dir where
  | supply | extract
  deriving DecidableEq, Repr

/-- Section 0.5.4. -/
inductive Lane where
  | A | B
  deriving DecidableEq, Repr

/-- Section 0.5.4. -/
inductive RoomClass where
  | dry | wet | kitchen
  deriving DecidableEq, Repr

/-- The modes of the house mode record (R143). -/
inductive Mode where
  | away | normal | high
  deriving DecidableEq, Repr

/-- The ten sequencer states (section 2.1). -/
inductive SeqState where
  | starting | listen | supply | extract | reversing | defrost | through | rest | paused | stopped
  deriving DecidableEq, Repr

/-- The reversal phases (R19). -/
inductive Phase where
  | rundown | switch | spinup
  deriving DecidableEq, Repr

/-- The reversal targets (R19). -/
inductive Target where
  | supply | extract | defrost | through
  deriving DecidableEq, Repr

/-- How a rest ends (R34). -/
inductive Rejoin where
  | fast | deep
  deriving DecidableEq, Repr

/-- The frost stages (section 5.3). -/
inductive FrostStage where
  | clear | limiting | contending | deferred | defrosting | lockout | blind
  deriving DecidableEq, Repr

/-- The actions of a DEFROST notice (section 10.1.1). -/
inductive NoticeAction where
  | enter | withdraw | leave
  deriving DecidableEq, Repr

/-- The humidity monitor's states (R93). -/
inductive HumidState where
  | disabled | seeding | watching | boosting | rearming
  deriving DecidableEq, Repr

/-- The filter probe's states (R122). -/
inductive ProbeState where
  | idle | waiting | firstHalf | secondHalf
  deriving DecidableEq, Repr

/-- The filter states (R130). -/
inductive FilterState where
  | clean | due | blocked
  deriving DecidableEq, Repr

/-- A peer's standing in defrost contention (R138). -/
inductive Standing where
  | none | contending | defrosting
  deriving DecidableEq, Repr

/-- The four frame kinds, in the order of their contention rank (R146). -/
inductive FrameKind where
  | defrost | mode | boost | status
  deriving DecidableEq, Repr

/-- The actions of a BOOST call that have an effect (section 10.1.1). -/
inductive BoostAction where
  | start | cancel
  deriving DecidableEq, Repr

/-- The stages of a button gesture (R161). -/
inductive GestureStage where
  | waitRelease | released | pressed | taken
  deriving DecidableEq, Repr

/-- The lamp patterns (R164). -/
inductive Pattern where
  | off | steady | flicker | blink | slowBlink | doubleBlink
  deriving DecidableEq, Repr

/-! ## Blocks -/

/-- The half-cycle clock (R1). -/
structure ClockRec where
  /-- c, the current half-cycle number. -/
  c           : Byte
  /-- E. -/
  endTime     : Option Time
  /-- S. -/
  startTime   : Option Time
  /-- L, in seconds. -/
  length      : Nat
  running     : Bool
  /-- The reference identity: a station number, or none. -/
  reference   : Option Nat
  heardLength : Option Nat
  listenEnd   : Option Time
  deriving DecidableEq, Repr

/-- The sequencer record (R19). -/
structure SeqRec where
  state         : SeqState
  phase         : Option Phase
  target        : Option Target
  phaseStart    : Option Time
  restHeld      : Bool
  restStart     : Option Time
  rejoin        : Option Rejoin
  defrostResume : Bool
  pauseEnd      : Option Time
  /-- Oldest first. -/
  stallHistory  : List Time
  settling      : Nat
  deriving DecidableEq, Repr

/-- The fan drive record (R39). `rampFrom` and `rampStart` are where R42's straight line begins. -/
structure FanRec where
  demandTarget   : Nat
  probeHold      : Bool
  driveOutput    : Nat
  rampFrom       : Nat
  rampStart      : Time
  holdEnd        : Option Time
  direction      : Dir
  captureCounter : BitVec 16
  lastCapture    : Option (BitVec 16)
  ticksSince     : Nat
  /-- The period ring, oldest first. -/
  periods        : List Nat
  speed          : Nat
  stallWatch     : Option Time
  deriving DecidableEq, Repr

/-- One input channel of the climate front end (R58). -/
structure Channel where
  fault    : Bool
  validRun : Nat
  held     : Option Int
  deriving DecidableEq, Repr

/-- One sample set (R55). -/
structure SampleSet where
  time       : Time
  inner      : Option Int
  outer      : Option Int
  rh         : Option Int
  innerFault : Bool
  outerFault : Bool
  rhFault    : Bool
  state      : SeqState
  /-- The direction tag; absent is the tag "none". -/
  tag        : Option Dir
  deriving DecidableEq, Repr

/-- The moisture part of a half record (R72). -/
structure Moisture where
  ah : Nat
  td : Int
  deriving DecidableEq, Repr

/-- One half record (R61). -/
structure HalfRecord where
  number      : Byte
  close       : Time
  endState    : SeqState
  /-- Absent is the direction NONE. -/
  direction   : Option Dir
  counted     : Nat
  inner       : Option Int
  outer       : Option Int
  rh          : Option Int
  moisture    : Option Moisture
  duration    : Nat
  flowPercent : Nat
  settled     : Bool
  valid       : Bool
  deriving DecidableEq, Repr

/-- The climate front end (R54). `stream` is the sample stream of R55 as far back as R85 and R102 read it. -/
structure ClimateRec where
  inner          : Channel
  outer          : Channel
  humidity       : Channel
  openTime       : Option Time
  /-- Oldest first. -/
  window         : List SampleSet
  lastCompletion : Option Time
  /-- Oldest first. -/
  ring           : List HalfRecord
  ownOutdoor     : Option Int
  ownOutdoorTime : Option Time
  outdoor        : Option Int
  band           : Nat
  bandFormed     : Bool
  /-- Oldest first. -/
  stream         : List SampleSet
  deriving DecidableEq, Repr

/-- The DEFROST notice most recently queued (R73). -/
structure Notice where
  action : NoticeAction
  forced : Bool
  deriving DecidableEq, Repr

/-- The frost guard (R73). -/
structure FrostRec where
  /-- A. -/
  account         : Nat
  stage           : FrostStage
  notice          : Option Notice
  contentionStart : Option Time
  entryAccount    : Option Nat
  windowEnd       : Option Time
  defrostStart    : Option Time
  meltStepEnd     : Option Time
  blindDefrost    : Bool
  lockoutEnd      : Option Time
  deriving DecidableEq, Repr

/-- The humidity monitor (R93). -/
structure HumidRec where
  state         : HumidState
  /-- B. -/
  baseline      : Option Nat
  boostStart    : Option Time
  falling       : Nat
  nextRestCheck : Option Time
  deriving DecidableEq, Repr

/-- An entry of the override stack (section 7.2). -/
structure Override where
  source : Source
  origin : Nat
  level  : Nat
  expiry : Option Time
  deriving DecidableEq, Repr

/-- The demand unit (R105). -/
structure DemandRec where
  /-- The override stack, top first. -/
  stack       : List Override
  requested   : Nat
  active      : Nat
  supply      : Nat
  extract     : Nat
  /-- d. -/
  signed      : Option Int
  /-- I. -/
  imbalance   : Int
  /-- t. -/
  trim        : Int
  /-- f. -/
  setFlow     : Option Int
  /-- p. -/
  flowPercent : Nat
  deriving DecidableEq, Repr

/-- The mean speed of the first probe half, with its direction (R122). -/
structure FirstSpeed where
  rpm : Nat
  dir : Dir
  deriving DecidableEq, Repr

/-- The filter monitor (R122). -/
structure FilterRec where
  runSeconds   : Nat
  runHours     : Nat
  countdown    : Nat
  probe        : ProbeState
  hoursToProbe : Nat
  abandonTime  : Option Time
  halfStart    : Option Time
  expected     : Option Dir
  holdPlaced   : Bool
  /-- The speed window, oldest first. -/
  speeds       : List Nat
  firstSpeed   : Option FirstSpeed
  firstClose   : Option Time
  /-- S0. -/
  baseline     : Nat
  load         : Nat
  state        : FilterState
  deriving DecidableEq, Repr

/-- The status part of a peer record (R135). An absent state is UNKNOWN. -/
structure StatusPart where
  state         : Option SeqState
  running       : Bool
  lane          : Lane
  half          : Byte
  halfLength    : Nat
  endEstimate   : Time
  row           : Nat
  supply        : Nat
  extract       : Nat
  frostAccount  : Nat
  stage         : FrostStage
  /-- Signed half-degrees, or the none value −128. -/
  outdoor       : Int
  deriving DecidableEq, Repr

/-- The defrost part of a peer record (R135, R138). -/
structure DefrostPart where
  standing : Standing
  account  : Nat
  forced   : Bool
  time     : Time
  deriving DecidableEq, Repr

/-- A peer record (R135). -/
structure PeerRec where
  number    : Nat
  lastHeard : Time
  fresh     : Bool
  status    : Option StatusPart
  defrost   : Option DefrostPart
  deriving DecidableEq, Repr

/-- The house mode record (R143). -/
structure HouseMode where
  mode   : Mode
  summer : Bool
  stamp  : Byte
  origin : Nat
  deriving DecidableEq, Repr

/-- One outgoing slot (R148). -/
structure Slot where
  pending   : Bool
  reRequest : Bool
  deriving DecidableEq, Repr

/-- The content of a BOOST call (section 10.1.1). -/
structure BoostCall where
  action : BoostAction
  level  : Nat
  duration : Nat
  deriving DecidableEq, Repr

/-- A frame being sent: its kind, its bytes with header and check, and the time of its start bit (R149, R150). -/
structure Transmission where
  kind  : FrameKind
  bytes : List Byte
  start : Time
  deriving DecidableEq, Repr

/-- The line interface (R148). -/
structure LineRec where
  defrostSlot     : Slot
  modeSlot        : Slot
  boostSlot       : Slot
  statusSlot      : Slot
  modeBody        : Option HouseMode
  boostBody       : Option BoostCall
  statusMark      : Bool
  transmission    : Option Transmission
  collisions      : Nat
  collisionKind   : Option FrameKind
  /-- The time the line has been recessive since its last dominant bit, in 24ths of a tick: one bit at
  9600 bit/s is 625 of them (log 11). -/
  idleTime        : Nat
  /-- After a collision: when the last dominant bit of the frame that the other sender completes has passed
  (R151, log 40). A time in the past says nothing. -/
  busyUntil       : Option Time
  /-- The characters of the receive assembly. -/
  assembly        : List Byte
  /-- The receive assembly's arrival time. -/
  arrival         : Time
  statusPeriodEnd : Option Time
  stuckTime       : Time
  /-- The LINE state. -/
  active          : Bool
  deriving DecidableEq, Repr

/-- A lamp output: its pattern and when its on phase began (R164). -/
structure Lamp where
  pattern    : Pattern
  phaseStart : Time
  deriving DecidableEq, Repr

/-- The local control interface (R158). The other four flags of the fault set are the channels' and the
line's own (log 13). -/
structure ControlRec where
  levels      : LineLevels
  /-- The mode position taken; absent is "none". -/
  modeTaken   : Option Mode
  fitted      : Bool
  summerOn    : Bool
  boostStage  : GestureStage
  boostStart  : Option Time
  filterStage : GestureStage
  filterStart : Option Time
  stall       : Bool
  duplicate   : Bool
  config      : Bool
  memory      : Bool
  amber       : Lamp
  green       : Lamp
  deriving DecidableEq, Repr

/-- The four values of the filter record (section 12.3). -/
structure FilterValues where
  baseline  : Nat
  countdown : Nat
  runHours  : Nat
  state     : FilterState
  deriving DecidableEq, Repr

/-- The start-up loader (R167). The load buffer is its first four fields. -/
structure LoaderRec where
  configBytes  : List Byte
  config       : Option ConfigRecord
  filterBytes  : List Byte
  filterValues : Option FilterValues
  writeEnabled : Bool
  /-- The write state: set is IN_FLIGHT, clear is IDLE. -/
  inFlight     : Bool
  /-- The bytes of the latest write, check included. -/
  writeBytes   : List Byte
  writePending : Bool
  deriving DecidableEq, Repr

/-- The whole block, and the queue of commands that wait. -/
structure State where
  now          : Time
  /-- A cause of reset stands: RESETN is low, or the supply is below its working level (R167). -/
  inReset      : Bool
  strapsRead   : Bool
  stationIndex : BitVec 4
  lane         : Lane
  roomClass    : RoomClass
  /-- The configuration in force (R170). -/
  cfg          : ConfigRecord
  clock        : ClockRec
  seq          : SeqRec
  fan          : FanRec
  climate      : ClimateRec
  frost        : FrostRec
  humid        : HumidRec
  demand       : DemandRec
  filter       : FilterRec
  /-- In rising order of station number. -/
  peers        : List PeerRec
  house        : HouseMode
  line         : LineRec
  ctl          : ControlRec
  loader       : LoaderRec
  /-- The commands that wait, first in, first out: the model's own field. -/
  pending      : List Instr
  deriving DecidableEq, Repr

/-! ## Outcomes -/

/-- Reasons for which the machine stops. The spec has none: a fault of the fault set (R166) is state and
the station runs on, so no command raises one. -/
inductive Fault where
  deriving DecidableEq, Repr

/-- Reasons for which a command has no meaning. -/
inductive Refusal where
  /-- Raised by an arm of `exec` whose command has no meaning yet: safe, since nothing is claimed of it.
  No arm of this model raises it. -/
  | notModelled (mnemonic : String)
  deriving DecidableEq, Repr

/-! ## Values after reset -/

/-- R1. -/
def ClockRec.reset : ClockRec where
  c := 0
  endTime := none
  startTime := none
  length := 60
  running := false
  reference := none
  heardLength := none
  listenEnd := none

/-- R19. -/
def SeqRec.reset : SeqRec where
  state := .starting
  phase := none
  target := none
  phaseStart := none
  restHeld := false
  restStart := none
  rejoin := none
  defrostResume := false
  pauseEnd := none
  stallHistory := []
  settling := 0

/-- R39; the ramp's origin is a DESIGN CHOICE (log 8). -/
def FanRec.reset : FanRec where
  demandTarget := 0
  probeHold := false
  driveOutput := 0
  rampFrom := 0
  rampStart := 0
  holdEnd := none
  direction := .supply
  captureCounter := 0
  lastCapture := none
  ticksSince := 0
  periods := []
  speed := 0
  stallWatch := none

/-- R54. -/
def Channel.reset : Channel := ⟨false, 0, none⟩

/-- R54. -/
def ClimateRec.reset : ClimateRec where
  inner := Channel.reset
  outer := Channel.reset
  humidity := Channel.reset
  openTime := none
  window := []
  lastCompletion := none
  ring := []
  ownOutdoor := none
  ownOutdoorTime := none
  outdoor := none
  band := 2
  bandFormed := false
  stream := []

/-- R73. -/
def FrostRec.reset : FrostRec where
  account := 0
  stage := .clear
  notice := none
  contentionStart := none
  entryAccount := none
  windowEnd := none
  defrostStart := none
  meltStepEnd := none
  blindDefrost := false
  lockoutEnd := none

/-- R93. -/
def HumidRec.reset : HumidRec where
  state := .disabled
  baseline := none
  boostStart := none
  falling := 0
  nextRestCheck := none

/-- R105. -/
def DemandRec.reset : DemandRec where
  stack := []
  requested := 55
  active := 55
  supply := 0
  extract := 0
  signed := none
  imbalance := 0
  trim := 0
  setFlow := none
  flowPercent := 0

/-- R122. -/
def FilterRec.reset : FilterRec where
  runSeconds := 0
  runHours := 0
  countdown := 0
  probe := .idle
  hoursToProbe := 24
  abandonTime := none
  halfStart := none
  expected := none
  holdPlaced := false
  speeds := []
  firstSpeed := none
  firstClose := none
  baseline := 0
  load := 0
  state := .clean

/-- R143; the origin before the straps are read is a DESIGN CHOICE (log 6). -/
def HouseMode.reset : HouseMode := ⟨.normal, false, 0, 1⟩

/-- R148. -/
def Slot.empty : Slot := ⟨false, false⟩

/-- R148. -/
def LineRec.reset : LineRec where
  defrostSlot := Slot.empty
  modeSlot := Slot.empty
  boostSlot := Slot.empty
  statusSlot := Slot.empty
  modeBody := none
  boostBody := none
  statusMark := false
  transmission := none
  collisions := 0
  collisionKind := none
  idleTime := 0
  busyUntil := none
  assembly := []
  arrival := 0
  statusPeriodEnd := none
  stuckTime := 0
  active := false

/-- R158. -/
def ControlRec.reset : ControlRec where
  levels := ⟨.high, .high, .high, .high, .high⟩
  modeTaken := none
  fitted := false
  summerOn := false
  boostStage := .waitRelease
  boostStart := none
  filterStage := .waitRelease
  filterStart := none
  stall := false
  duplicate := false
  config := false
  memory := false
  amber := ⟨.off, 0⟩
  green := ⟨.flicker, 0⟩

/-- R167; the bytes of a write before the first write are a DESIGN CHOICE (log 8). -/
def LoaderRec.reset : LoaderRec where
  configBytes := []
  config := none
  filterBytes := []
  filterValues := none
  writeEnabled := false
  inFlight := false
  writeBytes := []
  writePending := false

/-- The block while it is held in reset, before the cause is removed and the loader has read the straps (R167). The station index, lane,
room class, house mode origin and the configuration in force are DESIGN CHOICE here (logs 6, 7). -/
def State.reset : State where
  now := 0
  inReset := true
  strapsRead := false
  stationIndex := 0
  lane := .A
  roomClass := .dry
  cfg := ConfigRecord.defaults
  clock := ClockRec.reset
  seq := SeqRec.reset
  fan := FanRec.reset
  climate := ClimateRec.reset
  frost := FrostRec.reset
  humid := HumidRec.reset
  demand := DemandRec.reset
  filter := FilterRec.reset
  peers := []
  house := HouseMode.reset
  line := LineRec.reset
  ctl := ControlRec.reset
  loader := LoaderRec.reset
  pending := []

end Sys2Proof.Machine
end

