-- ==== Sys2Proof/Machine/Arith.lean ====
section
/-! DEFINITION. The arithmetic of the rules: conversion tables, moisture, frost growth, speed, ramp,
band, levels. Every division truncates toward zero (section 0.5.2). -/

namespace Sys2Proof.Machine

/-! ## Directions and counts -/

/-- The other direction. -/
def Dir.other : Dir → Dir
  | .supply => .extract
  | .extract => .supply

/-- The lane direction for c (section 0.5.4): lane A supplies in even halves. -/
def laneDirection : Lane → Byte → Dir
  | .A, c => if c.toNat % 2 = 0 then .supply else .extract
  | .B, c => if c.toNat % 2 = 0 then .extract else .supply

/-- The summer direction (R19). -/
def summerDirection : Lane → Dir
  | .A => .supply
  | .B => .extract

/-- The direction each reversal target names (R19). -/
def Target.direction (l : Lane) : Target → Dir
  | .supply => .supply
  | .extract => .extract
  | .defrost => .extract
  | .through => summerDirection l

/-- The state a reversal target names (R24). -/
def Target.state : Target → SeqState
  | .supply => .supply
  | .extract => .extract
  | .defrost => .defrost
  | .through => .through

/-- The target, and the state, that a direction of the alternating cycle names. -/
def Dir.target : Dir → Target
  | .supply => .supply
  | .extract => .extract

/-- SUPPLY or EXTRACT. -/
def Dir.state : Dir → SeqState
  | .supply => .supply
  | .extract => .extract

/-- The direction tag of a sample set (R55), which is also the direction of a half record with this end
state (R61). -/
def directionTag (l : Lane) : SeqState → Option Dir
  | .supply => some .supply
  | .extract => some .extract
  | .defrost => some .extract
  | .through => some (summerDirection l)
  | _ => none

/-- "y is newer than x" of section 0.5.3: the difference modulo 256 lies in 1..127. -/
def newer (x y : Byte) : Bool := 1 ≤ (y - x).toNat && (y - x).toNat ≤ 127

/-- The whole tenths of a second in a length of time (log 32). -/
def inTenths (d : Time) : Nat := d / 25000

/-- The mean of some readings: the sum divided by the number, truncated toward zero (R62, R85, R102). -/
def meanInt (xs : List Int) : Option Int :=
  if xs.isEmpty then none else some (xs.sum.tdiv (xs.length : Int))

/-! ## Conversion of codes (R56, R57) -/

/-- The table of R56: points at codes 0, 256, …, 4096. -/
def thermistorTable : List Int :=
  [1500, 960, 760, 630, 530, 450, 380, 310, 250, 190, 130, 70, 10, -60, -140, -250, -450]

/-- R56: a thermistor code is valid in 100..3995. -/
def thermistorValid (k : BitVec 12) : Bool := 100 ≤ k.toNat && k.toNat ≤ 3995

/-- R56: the temperature of a code, in tenths. -/
def thermistorTemp (k : BitVec 12) : Int :=
  let i := k.toNat / 256
  let f := k.toNat % 256
  let a := thermistorTable.getD i 0
  let b := thermistorTable.getD (i + 1) 0
  clampInt (-400) 600 (a + ((b - a) * (f : Int)).tdiv 256)

/-- R57: a humidity code is valid in 300..3700. -/
def humidityValid (k : BitVec 12) : Bool := 300 ≤ k.toNat && k.toNat ≤ 3700

/-- R57: the RH of a code, in per-mille. -/
def humidityRh (k : BitVec 12) : Int := clampInt 0 1000 ((((k.toNat : Int) - 400) * 1000).tdiv 3200)

/-! ## Moisture (R69 to R71) -/

/-- The table of R69: points every 5 °C from −30 °C. -/
def densityTable : List Nat :=
  [45, 71, 109, 165, 236, 341, 485, 680, 940, 1283, 1730, 2305, 3038, 3963, 5117]

/-- R69: the saturation density at a temperature in tenths. -/
def density (t : Int) : Nat :=
  let x := (clampInt (-300) 400 t + 300).toNat
  let i := x / 50
  let a := densityTable.getD i 0
  if i ≥ 14 then a else a + (densityTable.getD (i + 1) 0 - a) * (x % 50) / 50

/-- R70: absolute humidity from RH in per-mille and a room temperature in tenths. -/
def absoluteHumidity (rh : Nat) (room : Int) : Nat := rh * density room / 1000

/-- R71: the dew point of an absolute humidity, in tenths. -/
def dewPoint (ah : Nat) : Int :=
  if ah < 45 then (-300)
  else if 5117 ≤ ah then 400
  else
    let i := (densityTable.filter (· ≤ ah)).length - 1
    let a := densityTable.getD i 0
    let b := densityTable.getD (i + 1) 0
    (50 * (i : Int) - 300) + (((ah - a) * 50 / (b - a) : Nat) : Int)

/-! ## Outdoor band (R68) -/

/-- The row whose range holds T. -/
def bandDirect (t : Int) : Nat :=
  if 50 ≤ t then 0 else if -50 ≤ t then 1 else if -150 ≤ t then 2 else 3

/-- The lower boundary of a row, which is the upper boundary of the next colder row. -/
def bandBoundary : Nat → Int
  | 0 => 50
  | 1 => -50
  | _ => -150

/-- One step colder while T is below the row's lower boundary. -/
def bandColderStep (t : Int) (row : Nat) : Nat :=
  if row < 3 ∧ t < bandBoundary row then row + 1 else row

/-- One step warmer while T is at least the row's upper boundary plus 10. -/
def bandWarmerStep (t : Int) (row : Nat) : Nat :=
  if 0 < row ∧ bandBoundary (row - 1) + 10 ≤ t then row - 1 else row

/-- The band moved with hysteresis: at most three steps either way. -/
def bandMove (t : Int) (row : Nat) : Nat :=
  let colder := bandColderStep t (bandColderStep t (bandColderStep t row))
  bandWarmerStep t (bandWarmerStep t (bandWarmerStep t colder))

/-! ## Half length (R6) -/

/-- The band table of R6, in seconds. -/
def bandTable (row : Nat) (m : Mode) : Nat :=
  match row, m with
  | 0, .away => 90 | 0, .normal => 70 | 0, .high => 60
  | 1, .away => 80 | 1, .normal => 60 | 1, .high => 50
  | 2, .away => 60 | 2, .normal => 45 | 2, .high => 40
  | _, .away => 40 | _, .normal => 30 | _, .high => 25

/-! ## Fan (R42, R43, R50) -/

/-- R50: the speed from the period ring. -/
def speedOf (ring : List Nat) : Nat :=
  if ring.isEmpty then 0 else 7500000 / (ring.sum / ring.length)

/-- R42: the output at time `now` of a ramp from value `v` at time `start` toward `target`: 80 per
second are one per-mille in 3125 ticks, and the value is truncated to a whole per-mille. -/
def rampOutput (v target : Nat) (start now : Time) : Nat :=
  let d := now - start
  if v ≤ target then min target (v + d / 3125) else max target (v - (d + 3124) / 3125)

/-- R43: the flow percent of a set flow. -/
def flowPercentOf (f : Int) (qNom : Nat) : Nat := min 100 (f.natAbs * 100 / qNom)

/-- R43: the demand target of a flow percent. -/
def demandTargetOf (p : Nat) : Nat := if p = 0 then 0 else 200 + 8 * p

/-! ## Frost account (R74, R76, R77, R85) -/

/-- The account's upper end. -/
def accountMax : Nat := 4000

/-- R74: growth of the account from one record. -/
def frostGrowth (exh td : Int) (q d : Nat) : Nat := (clampInt 0 200 (td - exh)).toNat * q * d / 12000

/-- R74: melt of the account from one record. -/
def frostMelt (exh : Int) (q d : Nat) : Nat := exh.toNat * q * d / 600

/-- R74: the account after one valid EXTRACT record. -/
def accountAfterRecord (a : Nat) (exh td : Int) (q d : Nat) : Nat :=
  if exh < 0 then min accountMax (a + frostGrowth exh td q d)
  else if exh ≤ 9 then a
  else a - frostMelt exh q d

/-- R85: the account after a melt step whose mean exhaust temperature is `mean` (absent when no sample
was counted). -/
def accountAfterMeltStep (a : Nat) (mean : Option Int) : Nat :=
  match mean with
  | some x => if 10 ≤ x then a - x.toNat * 70 * 10 / 600 else a
  | none => a

/-- R76: the stage by account. -/
def stageByAccount (a : Nat) : FrostStage := if 600 ≤ a then .limiting else .clear

/-- R76: the stage after a change of the account. -/
def stageAfterChange (stage : FrostStage) (a : Nat) : FrostStage :=
  match stage with
  | .clear => if 800 ≤ a then .limiting else .clear
  | .limiting => if a < 600 then .clear else .limiting
  | .deferred => if a < 1600 then stageByAccount a else .deferred
  | other => other

/-- R77: the frost supply cap of a stage and an account. -/
def frostSupplyCap (stage : FrostStage) (a : Nat) : Nat :=
  match stage with
  | .clear => 100
  | .limiting | .contending => if 1200 ≤ a then 50 else 70
  | .deferred => 40
  | .defrosting => 0
  | .lockout => 50
  | .blind => 50

/-! ## Humidity (R96) -/

/-- R96: the baseline moves toward AH by a sixteenth of the difference. -/
def baselineToward (b ah : Nat) : Nat := ((b : Int) + ((ah : Int) - (b : Int)).tdiv 16).toNat

/-! ## Balance (R116, R117) -/

/-- An integer held to a magnitude. -/
def clampMagnitude (x : Int) (m : Nat) : Int := clampInt (-(m : Int)) (m : Int) x

/-- R116: the trim from d and the peers' derived signed demands. -/
def trimOf (d : Int) (peers : List Int) : Int :=
  let n := 1 + (peers.filter (· ≠ 0)).length
  if peers.any (fun x => x * d < 0) then
    clampMagnitude ((-(d + peers.sum)).tdiv (n : Int)) (d.natAbs / 2)
  else 0

/-- R117: the set flow of a direction from d, the trim, Q_min and the upper bound. The direction gives
the sign (log 20). -/
def setFlowOf (dir : Dir) (d t : Int) (qMin upper : Nat) : Int :=
  let m := clampNat qMin upper (d + t).natAbs
  match dir with
  | .supply => (m : Int)
  | .extract => -(m : Int)

/-! ## Filter (R129) -/

/-- R129: the load of a probe speed over the baseline. -/
def loadOf (sp s0 : Nat) : Nat := (clampInt 0 999 ((((sp : Int) - (s0 : Int)) * 1000).tdiv (s0 : Int))).toNat

end Sys2Proof.Machine
end

