-- ==== Sys2Proof/Machine/Views.lean ====
section
/-! DEFINITION. Values that the rules work out from the state and that no field holds: caps, rows,
lengths, the peer table's derived values, the drive target, the stall condition. -/

namespace Sys2Proof.Machine

/-- The own station number (section 0.5.4). -/
def ownNumber (s : State) : Nat := s.stationIndex.toNat + 1

/-- The local time a command carries; RESET, which starts local time again, carries none. -/
def timeOf : Instr → Option Time
  | .reset _ _ _ => none
  | .configurationRecordRead _ t => some t
  | .filterRecordRead _ _ t => some t
  | .listenEnd t => some t
  | .halfBoundary t => some t
  | .rundownEnd t => some t
  | .switchDeadTimeEnd t => some t
  | .spinupHoldEnd t => some t
  | .spinupLimit t => some t
  | .tachCapture t => some t
  | .captureOverflow t => some t
  | .stallReport t => some t
  | .stallHistoryAgeing t => some t
  | .pauseEnd t => some t
  | .sample _ _ _ t => some t
  | .runSecond t => some t
  | .contentionWindowEnd t => some t
  | .meltStepEnd t => some t
  | .defrostTimeLimit t => some t
  | .blindDefrostLimit t => some t
  | .lockoutEnd t => some t
  | .boostCap t => some t
  | .restCheck t => some t
  | .overrideExpiry _ _ t => some t
  | .frameStart t => some t
  | .lostContention _ t => some t
  | .collision x => some x.time
  | .frameSent t => some t
  | .frameReceived _ _ _ t => some t
  | .peerStale _ t => some t
  | .peerRemoved _ t => some t
  | .contendingFallback _ t => some t
  | .statusPeriodEnd t => some t
  | .lineFaultRaised _ t => some t
  | .lineFaultCleared _ t => some t
  | .debounce _ _ t => some t
  | .hold t => some t
  | .filterReset t => some t
  | .modePositionTaken _ _ t => some t
  | .writeComplete t => some t
  | .writeFailed t => some t

/-- The commands that wait for the present instant: those at the front of the queue whose time has come. -/
def dueNow (s : State) : List Instr := s.pending.takeWhile (fun c => (timeOf c).any (· ≤ s.now))

/-- The lane direction for the present c. -/
def laneDirectionNow (s : State) : Dir := laneDirection s.lane s.clock.c

/-- R16: an end, when present, that local time has reached. -/
def reached (e : Option Time) (now : Time) : Bool := e.any (· ≤ now)

/-! ## Clock (R2, R5 to R9) -/

/-- R2: the time remaining in tenths, as announced. -/
def timeRemaining (s : State) : Nat :=
  match s.clock.running, s.clock.endTime with
  | true, some e => inTenths (e - s.now)
  | _, _ => 0

/-- R2: the elapsed time in the current half. -/
def elapsed (s : State) : Time :=
  match s.clock.startTime with
  | some b => s.now - b
  | none => 0

/-- R5: the frost shift of a stage. -/
def frostShift : FrostStage → Nat
  | .clear => 0
  | _ => 1

/-- R5: the own preferred row. -/
def preferredRow (s : State) : Nat :=
  if s.frost.stage = .blind then 3 else min 3 (s.climate.band + frostShift s.frost.stage)

/-- R7, R139: a peer record that is FRESH, has a status part and announces a running clock. -/
def PeerRec.counts (p : PeerRec) : Bool := p.fresh && p.status.any (·.running)

/-- R7: the house row. -/
def houseRow (s : State) : Nat :=
  if s.line.active then preferredRow s
  else (s.peers.filterMap (fun p => if p.counts then p.status.map (·.row) else none)).foldl max (preferredRow s)

/-- R6, R8: the length the station chooses as its own reference, in seconds. -/
def ownLength (s : State) : Nat :=
  match s.cfg.policy with
  | .tracked => bandTable (houseRow s) (if s.house.summer then .normal else s.house.mode)
  | .fixed => s.cfg.fixedLength

/-- R6 to R9: the new L at a half boundary. -/
def nextLength (s : State) : Nat :=
  match s.clock.reference, s.clock.heardLength with
  | some r, some h => if r = ownNumber s then ownLength s else h
  | _, _ => ownLength s

/-! ## Peer table (R139 to R142) -/

/-- R139: the timing reference. -/
def timingReference (s : State) : Option Nat :=
  let own := if s.clock.running then [ownNumber s] else []
  let heard := if s.line.active then [] else (s.peers.filter (·.counts)).map (·.number)
  (own ++ heard).min?

/-- The signed flow of a direction. -/
def signedFlow (d : Dir) (supply extract : Nat) : Int :=
  match d with
  | .supply => (supply : Int)
  | .extract => -(extract : Int)

/-- R140: what a status part is taken to move in the own half number c. -/
def StatusPart.derived (st : StatusPart) (c : Byte) : Int :=
  match st.state with
  | some .defrost => -(st.extract : Int)
  | some .through => signedFlow (summerDirection st.lane) st.supply st.extract
  | some .supply | some .extract | some .reversing => signedFlow (laneDirection st.lane c) st.supply st.extract
  | _ => 0

/-- R140: the derived signed demand of a peer. -/
def derivedDemand (s : State) (p : PeerRec) : Int :=
  if s.line.active || !p.fresh then 0
  else match p.status with
    | some st => st.derived s.clock.c
    | none => 0

/-- R140 for every peer. -/
def derivedDemands (s : State) : List Int := s.peers.map (derivedDemand s)

/-- A FRESH record whose standing is CONTENDING or DEFROSTING (R141). -/
def PeerRec.usesPlace (p : PeerRec) : Bool := p.fresh && p.defrost.any (·.standing ≠ .none)

/-- R141: the places in use. -/
def placesInUse (s : State) : Nat :=
  if s.line.active then 0 else (s.peers.filter (·.usesPlace)).length

/-- R80: whether a defrost part of station `n` precedes the own station. An absent contention start or
entry account, which a window end never meets, is read as 0. -/
def DefrostPart.precedes (d : DefrostPart) (n own : Nat) (start : Time) (entry : Nat) : Bool :=
  match d.standing with
  | .defrosting => true
  | .contending => d.forced || d.time < start || entry < d.account || (d.account == entry && n < own)
  | .none => false

/-- R80, R141: the precedence count. -/
def precedenceCount (s : State) : Nat :=
  if s.line.active then 0
  else (s.peers.filter (fun p => p.fresh && p.defrost.any (fun d =>
    d.precedes p.number (ownNumber s) (s.frost.contentionStart.getD 0) (s.frost.entryAccount.getD 0)))).length

/-- R142: the outdoor fallback, in tenths. A peer's byte outside -80..+120 is taken as it stands, times 5
(DEDUCED, log 43). -/
def outdoorFallback (s : State) : Option Int :=
  if s.line.active then none
  else
    ((s.peers.filterMap (fun p => if p.fresh then p.status.map (·.outdoor) else none)).filter (· ≠ -128)).min?.map
      (· * 5)

/-- R67: the announced outdoor temperature in half-degrees. -/
def announcedOutdoor (s : State) : Int :=
  match s.climate.outdoor with
  | some t => t.tdiv 5
  | none => -128

/-! ## Demand unit (R77, R105, R111, R113) -/

/-- R77: the frost supply cap now. -/
def frostCap (s : State) : Nat := frostSupplyCap s.frost.stage s.frost.account

/-- R113: 60 while the filter state is BLOCKED. -/
def filterCap (s : State) : Nat := if s.filter.state = .blocked then 60 else 100

/-- R97: the supply-side limit is in force while the humidity monitor is in BOOSTING. -/
def humidityLimit (s : State) : Bool := s.humid.state = .boosting

/-- R111: the configured level of a mode. -/
def ConfigRecord.level (c : ConfigRecord) : Mode → Nat
  | .away => c.awayLevel
  | .normal => c.normalLevel
  | .high => c.highLevel

/-- R111: the house mode level. -/
def houseModeLevel (s : State) : Nat := ConfigRecord.level s.cfg s.house.mode

/-- R111: the level the top entry, or else the house mode, asks for. -/
def wantedLevel (s : State) : Nat :=
  match s.demand.stack with
  | e :: _ => e.level
  | [] => houseModeLevel s

/-- R114: a defrost motion stands. -/
def defrostMotion (s : State) : Bool :=
  s.seq.state = .defrost || (s.seq.state = .reversing && s.seq.target = some .defrost)

/-- R115: the direction in which the fan turns or is about to turn, absent where the station moves no air. -/
def motionDirection (s : State) : Option Dir :=
  match s.seq.state with
  | .reversing => s.seq.target.map (Target.direction s.lane)
  | st => directionTag s.lane st

/-! ## Fan drive (R39, R40, R51) -/

/-- R39: the drive target. -/
def FanRec.driveTarget (f : FanRec) : Nat := if f.probeHold then 600 else f.demandTarget

/-- The moving states of section 2.1: SUPPLY, EXTRACT, DEFROST, THROUGH and the SPINUP phase. -/
def SeqRec.moving (q : SeqRec) : Bool :=
  match q.state with
  | .supply | .extract | .defrost | .through => true
  | .reversing => q.phase = some .spinup
  | _ => false

/-- R40, R42: the output follows the drive target. -/
def following (s : State) : Bool := s.seq.moving && s.fan.holdEnd.isNone

/-- R51: the stall condition. -/
def stallCondition (s : State) : Bool := following s && 300 ≤ s.fan.driveOutput && s.fan.speed == 0

/-- The probe active flag (R122). -/
def FilterRec.probing (f : FilterRec) : Bool :=
  match f.probe with
  | .firstHalf | .secondHalf => true
  | _ => false

/-- Gestures, originations and wake requests are taken from the end of STARTING (R158). -/
def started (s : State) : Bool := s.seq.state ≠ .starting

/-- Sequencer states in which the forced test is skipped and a defrost order is refused (R30, R83). -/
def SeqState.refusesDefrost : SeqState → Bool
  | .rest | .starting | .listen | .stopped => true
  | _ => false

end Sys2Proof.Machine
end

