-- ==== Sys2Proof/Machine/Operands.lean ====
section
/-! DEFINITION. What commands carry: frames (R146, R147, section 10.1.1), stored records (section 12.3,
R169, R170), mode positions (section 11.1). Read and written here, once. -/

namespace Sys2Proof.Machine

/-- Byte `i` of a frame or record. -/
def byteAt (bs : List Byte) (i : Nat) : Nat := (bs.getD i 0).toNat

/-- A two-byte field, most significant byte first. -/
def wordAt (bs : List Byte) (i : Nat) : Nat := 256 * byteAt bs i + byteAt bs (i + 1)

/-- Bits `lo ..` of a byte, `n` of them. -/
def bitsOf (b lo n : Nat) : Nat := b / 2 ^ lo % 2 ^ n

/-- Whether bit `i` of a byte is set. -/
def bitOf (b i : Nat) : Bool := bitsOf b i 1 == 1

/-- A bit at position `i`. -/
def bitAt (b : Bool) (i : Nat) : Nat := if b then 2 ^ i else 0

/-- A number as a byte. -/
def byte (n : Nat) : Byte := BitVec.ofNat 8 n

/-- A number as two bytes, most significant first. -/
def word (n : Nat) : List Byte := [byte (n / 256), byte n]

/-- The sum of some bytes modulo 256. -/
def byteSum (bs : List Byte) : Byte := bs.foldl (· + ·) 0

/-- Bytes with the check byte that makes their sum 0 modulo 256 (R146, section 12.3). -/
def withCheck (bs : List Byte) : List Byte := bs ++ [0 - byteSum bs]

/-! ## Codes (section 10.1.1) -/

/-- The kind codes of R146. -/
def FrameKind.code : FrameKind → Nat
  | .defrost => 1
  | .mode => 2
  | .boost => 3
  | .status => 4

/-- R146: codes 0 and 5..15 name no kind. -/
def kindOfCode : Nat → Option FrameKind
  | 1 => some .defrost
  | 2 => some .mode
  | 3 => some .boost
  | 4 => some .status
  | _ => none

/-- The lengths of R146. -/
def FrameKind.length : FrameKind → Nat
  | .defrost => 5
  | .mode => 4
  | .boost => 5
  | .status => 18

/-- Byte 1 of STATUS. -/
def SeqState.code : SeqState → Nat
  | .starting => 0
  | .listen => 1
  | .supply => 2
  | .extract => 3
  | .reversing => 4
  | .defrost => 5
  | .through => 6
  | .rest => 7
  | .paused => 8
  | .stopped => 9

/-- R147: a state code of 10 or more is held as UNKNOWN. -/
def stateOfCode : Nat → Option SeqState
  | 0 => some .starting
  | 1 => some .listen
  | 2 => some .supply
  | 3 => some .extract
  | 4 => some .reversing
  | 5 => some .defrost
  | 6 => some .through
  | 7 => some .rest
  | 8 => some .paused
  | 9 => some .stopped
  | _ => none

/-- Byte 8 of STATUS, bits 2..0. -/
def FrostStage.code : FrostStage → Nat
  | .clear => 0
  | .limiting => 1
  | .contending => 2
  | .deferred => 3
  | .defrosting => 4
  | .lockout => 5
  | .blind => 6

/-- R147: a frost stage code of 7 is held as CLEAR. -/
def stageOfCode : Nat → FrostStage
  | 1 => .limiting
  | 2 => .contending
  | 3 => .deferred
  | 4 => .defrosting
  | 5 => .lockout
  | 6 => .blind
  | _ => .clear

/-- Modes as in byte 1 of a MODE call. -/
def Mode.code : Mode → Nat
  | .away => 0
  | .normal => 1
  | .high => 2

/-- Code 3 names no mode. -/
def modeOfCode : Nat → Option Mode
  | 0 => some .away
  | 1 => some .normal
  | 2 => some .high
  | _ => none

/-- Actions of a DEFROST notice; code 3 is no action. -/
def NoticeAction.code : NoticeAction → Nat
  | .enter => 0
  | .withdraw => 1
  | .leave => 2

/-- Code 3 is no action. -/
def noticeOfCode : Nat → Option NoticeAction
  | 0 => some .enter
  | 1 => some .withdraw
  | 2 => some .leave
  | _ => none

/-- Actions of a BOOST call. -/
def BoostAction.code : BoostAction → Nat
  | .start => 0
  | .cancel => 1

/-- Other values are no action. -/
def boostOfCode : Nat → Option BoostAction
  | 0 => some .start
  | 1 => some .cancel
  | _ => none

/-- Bits 4..3 of byte 3 of STATUS, and byte 6 of the filter record. -/
def FilterState.code : FilterState → Nat
  | .clean => 0
  | .due => 1
  | .blocked => 2

/-- R170: a filter state code of 3 is taken as BLOCKED; so is every code above it in the whole byte of the
filter record, which the spec does not name (DESIGN CHOICE, log 47). -/
def filterStateOfCode : Nat → FilterState
  | 0 => .clean
  | 1 => .due
  | _ => .blocked

/-- Bits 2..1 of byte 3 of STATUS. -/
def RoomClass.code : RoomClass → Nat
  | .dry => 0
  | .wet => 1
  | .kitchen => 2

/-- R168: the class straps CL1..CL0. -/
def classOfStraps (cl : BitVec 2) : RoomClass :=
  match cl.toNat with
  | 1 => .wet
  | 2 => .kitchen
  | _ => .dry

/-- R168: the LANE strap. -/
def laneOfStrap (l : BitVec 1) : Lane := if l = 1 then .B else .A

/-- Bit 0 of byte 3 of STATUS. -/
def Lane.code : Lane → Nat
  | .A => 0
  | .B => 1

/-! ## Frames -/

/-- R146: a frame of a kind from a station index, its check byte included. -/
def frameOf (k : FrameKind) (index : BitVec 4) (body : List Byte) : List Byte :=
  withCheck (byte (16 * k.code + index.toNat) :: body)

/-- The kind that a frame's header names. -/
def frameKind (bs : List Byte) : Option FrameKind := kindOfCode (byteAt bs 0 / 16)

/-- The station index that a frame's header names. -/
def frameIndex (bs : List Byte) : Nat := byteAt bs 0 % 16

/-- R155: whether a closed frame is valid. -/
def frameValid (bs : List Byte) (spoilt : Bool) : Bool :=
  match frameKind bs with
  | some k => bs.length == k.length && !spoilt && byteSum bs == 0
  | none => false

/-- An offer of a house mode record (R144); an absent mode is a code that names none. -/
structure Offer where
  mode   : Option Mode
  summer : Bool
  stamp  : Byte
  origin : Nat
  deriving DecidableEq, Repr

/-- The mode byte of a MODE call, also byte 14 of STATUS. -/
def modeByte (h : HouseMode) : Byte := byte (h.mode.code + bitAt h.summer 7)

/-- R144: the offer of a MODE call from a station. -/
def modeOffer (bs : List Byte) (sender : Nat) : Offer :=
  ⟨modeOfCode (bitsOf (byteAt bs 1) 0 2), bitOf (byteAt bs 1) 7, bs.getD 2 0, sender⟩

/-- R144: the offer of a STATUS. -/
def statusOffer (bs : List Byte) : Offer :=
  ⟨modeOfCode (bitsOf (byteAt bs 14) 0 2), bitOf (byteAt bs 14) 7, bs.getD 15 0, byteAt bs 16⟩

/-- R135: a half length limited to 20..120. -/
def heldLength (n : Nat) : Nat := clampNat 20 120 n

/-- R135: the status part of a STATUS frame whose header began to arrive at `arrival`. -/
def statusPartOf (bs : List Byte) (arrival : Time) : StatusPart where
  state := stateOfCode (byteAt bs 1)
  running := bitOf (byteAt bs 2) 0
  lane := if bitOf (byteAt bs 3) 0 then .B else .A
  half := bs.getD 4 0
  halfLength := heldLength (byteAt bs 5)
  endEstimate := arrival + tenths (min (wordAt bs 6) (10 * heldLength (byteAt bs 5)))
  row := min 3 (bitsOf (byteAt bs 8) 4 3)
  supply := byteAt bs 9
  extract := byteAt bs 10
  frostAccount := min accountMax (16 * byteAt bs 11)
  stage := stageOfCode (bitsOf (byteAt bs 8) 0 3)
  outdoor := (bs.getD 12 0).toInt

/-- The DEFROST notice that a frame carries, with an account above 4000 held as 4000 (R147). -/
structure HeardNotice where
  action  : Option NoticeAction
  forced  : Bool
  account : Nat
  deriving DecidableEq, Repr

/-- The DEFROST notice of a frame's bytes. -/
def noticeOf (bs : List Byte) : HeardNotice :=
  ⟨noticeOfCode (bitsOf (byteAt bs 1) 0 2), bitOf (byteAt bs 1) 7, min accountMax (wordAt bs 2)⟩

/-- The body of a DEFROST notice (R79, R149): action and forced flag of the notice state, then the
account. With no notice yet queued the action is code 3, no action (log 33). -/
def noticeBody (n : Option Notice) (account : Nat) : List Byte :=
  match n with
  | some m => byte (m.action.code + bitAt m.forced 7) :: word account
  | none => byte 3 :: word account

/-- The body of a MODE call. -/
def modeBody (h : HouseMode) : List Byte := [modeByte h, h.stamp]

/-- The body of a BOOST call. -/
def boostBody (b : BoostCall) : List Byte := [byte b.action.code, byte b.level, byte b.duration]

/-! ## Stored records (section 12.3) -/

/-- R169: the fields of a configuration record with a good check, each clamped to its range. -/
def configOf (bs : List Byte) : ConfigRecord :=
  let due := clampNat 20 200 (byteAt bs 8)
  { qNom := clampNat 10 60 (byteAt bs 0)
    allowance := clampNat 1 8 (byteAt bs 1)
    awayLevel := clampNat 20 100 (byteAt bs 2)
    normalLevel := clampNat 20 100 (byteAt bs 3)
    highLevel := clampNat 20 100 (byteAt bs 4)
    humidityStep := clampNat 10 100 (byteAt bs 5)
    rhCeiling := clampNat 70 95 (byteAt bs 6)
    serviceInterval := clampNat 10 80 (byteAt bs 7)
    dueRise := due
    blockedRise := max (clampNat 40 250 (byteAt bs 9)) (due + 20)
    policy := if bitOf (byteAt bs 10) 1 && !bitOf (byteAt bs 10) 0 then .fixed else .tracked
    fixedLength := clampNat 20 120 (byteAt bs 11)
    wake := ⟨bitOf (byteAt bs 12) 0, bitOf (byteAt bs 12) 1, bitOf (byteAt bs 12) 2,
      bitOf (byteAt bs 12) 3, bitOf (byteAt bs 12) 4⟩
    summerThreshold := clampNat 8 20 (byteAt bs 13)
    houseBoost := clampNat 5 60 (byteAt bs 14)
    localBoost := clampNat 5 60 (byteAt bs 15) }

/-- What a read of `n` bytes brought: fewer bytes than the record has are a read that was not
acknowledged at some byte (log 25). -/
def MemoryReply.record (n : Nat) : MemoryReply → Option (List Byte)
  | .silent => none
  | .bytes bs => if bs.length < n then none else some (bs.take n)

/-- R170: the values of a filter record with a good check. -/
def filterValuesOf (bs : List Byte) : FilterValues :=
  ⟨wordAt bs 0, wordAt bs 2, wordAt bs 4, filterStateOfCode (byteAt bs 6)⟩

/-- R170: the values that stand for a filter record that is bad or was not read. -/
def filterDefaults (c : ConfigRecord) : FilterValues := ⟨0, 100 * c.serviceInterval, 0, .clean⟩

/-- R171: the 8 bytes of a filter record. -/
def filterRecordBytes (f : FilterRec) : List Byte :=
  withCheck (word f.baseline ++ word f.countdown ++ word f.runHours ++ [byte f.state.code])

/-! ## Control lines (section 11.1) -/

/-- The mode position a pair of levels shows; absent is "none". -/
def positionOf : Level → Level → Option Mode
  | .high, .high => none
  | .high, .low => some .away
  | .low, .high => some .normal
  | .low, .low => some .high

/-- The level of one line. -/
def LineLevels.get (l : LineLevels) : ControlLine → Level
  | .boost => l.boost
  | .filter => l.filter
  | .mode1 => l.mode1
  | .mode0 => l.mode0
  | .summer => l.summer

/-- The levels with one line's level replaced. -/
def LineLevels.set (l : LineLevels) (c : ControlLine) (v : Level) : LineLevels :=
  match c with
  | .boost => { l with boost := v }
  | .filter => { l with filter := v }
  | .mode1 => { l with mode1 := v }
  | .mode0 => { l with mode0 := v }
  | .summer => { l with summer := v }

end Sys2Proof.Machine
end

