-- ==== Sys2Proof/Machine/Flags.lean ====
section
/-! DEFINITION. What the station shows: the fault set (R166), the lamps (R164, R165) and the announced
fields of STATUS (section 10.1.1). -/

namespace Sys2Proof.Machine

/-! ## Fault set (R166) -/

/-- The eight flags of R166, in the order of byte 13 of STATUS. -/
structure FaultSet where
  stall      : Bool
  outerProbe : Bool
  innerProbe : Bool
  humidity   : Bool
  line       : Bool
  duplicate  : Bool
  config     : Bool
  memory     : Bool
  deriving DecidableEq, Repr

/-- R166: the fault set. Four of its flags are the channels' fault flags (R58) and the LINE state (R157). -/
def faultSet (s : State) : FaultSet where
  stall := s.ctl.stall
  outerProbe := s.climate.outer.fault
  innerProbe := s.climate.inner.fault
  humidity := s.climate.humidity.fault
  line := s.line.active
  duplicate := s.ctl.duplicate
  config := s.ctl.config
  memory := s.ctl.memory

/-- Byte 13 of STATUS. -/
def FaultSet.code (f : FaultSet) : Nat :=
  bitAt f.stall 0 + bitAt f.outerProbe 1 + bitAt f.innerProbe 2 + bitAt f.humidity 3 + bitAt f.line 4
    + bitAt f.duplicate 5 + bitAt f.config 6 + bitAt f.memory 7

/-- Any fault raised. -/
def FaultSet.any (f : FaultSet) : Bool :=
  f.stall || f.outerProbe || f.innerProbe || f.humidity || f.line || f.duplicate || f.config || f.memory

/-! ## Lamps (R164, R165) -/

/-- R164: whether a pattern is on at a time since its phase start. -/
def Pattern.litAt (p : Pattern) (d : Time) : Bool :=
  match p with
  | .off => false
  | .steady => true
  | .flicker => d % tenths 2 < tenths 1
  | .blink => d % tenths 10 < tenths 5
  | .slowBlink => d % tenths 20 < tenths 10
  | .doubleBlink =>
    let x := d % tenths 20
    x < tenths 2 || (tenths 4 ≤ x && x < tenths 6)

/-- The level of a lamp output at a local time. -/
def Lamp.lit (l : Lamp) (now : Time) : Bool := l.pattern.litAt (now - l.phaseStart)

/-- R167: the lamp outputs are dark while the device is held in reset. -/
def lampOutput (s : State) (l : Lamp) : Bool := !s.inReset && l.lit s.now

/-- The inputs that the lamp selection reads (R165). -/
structure LampInputs where
  state      : SeqState
  faults     : FaultSet
  filter     : FilterState
  stage      : FrostStage
  stackEmpty : Bool
  deriving DecidableEq, Repr

/-- R165: the inputs as they stand. -/
def lampInputs (s : State) : LampInputs :=
  ⟨s.seq.state, faultSet s, s.filter.state, s.frost.stage, s.demand.stack.isEmpty⟩

/-- R165: the AMBER list. -/
def amberPattern (i : LampInputs) : Pattern :=
  if i.state = .stopped then .steady
  else if i.faults.any then .blink
  else match i.filter with
    | .blocked => .doubleBlink
    | .due => .slowBlink
    | .clean => .off

/-- R165: the GREEN list. -/
def greenPattern (i : LampInputs) : Pattern :=
  match i.state with
  | .rest | .stopped => .off
  | .starting | .listen => .flicker
  | _ => if i.stage = .defrosting then .slowBlink else if !i.stackEmpty then .blink else .steady

/-- R164: a new pattern starts at its on phase; the pattern already shown keeps its phase. -/
def Lamp.show (l : Lamp) (p : Pattern) (now : Time) : Lamp := if l.pattern = p then l else ⟨p, now⟩

/-- R165: the selection for both lamps. -/
def selectLamps (s : State) : State :=
  let i := lampInputs s
  { s with ctl := { s.ctl with
      amber := s.ctl.amber.show (amberPattern i) s.now
      green := s.ctl.green.show (greenPattern i) s.now } }

/-! ## STATUS (section 10.1.1) -/

/-- Bytes 1 to 16 of STATUS, with a given mark bit and time remaining. -/
def statusBody (s : State) (mark : Bool) (remaining : Nat) : List Byte :=
  [ byte s.seq.state.code,
    byte (bitAt s.clock.running 0 + bitAt mark 1 + bitAt (humidityLimit s) 2
      + bitAt (0 < s.seq.settling) 3 + bitAt s.filter.probing 4),
    byte (s.lane.code + 2 * s.roomClass.code + 8 * s.filter.state.code),
    s.clock.c,
    byte s.clock.length ] ++ word remaining ++
  [ byte (s.frost.stage.code + 16 * preferredRow s),
    byte s.demand.supply,
    byte s.demand.extract,
    byte (s.frost.account / 16),
    BitVec.ofInt 8 (announcedOutdoor s),
    byte (faultSet s).code,
    modeByte s.house,
    s.house.stamp,
    byte s.house.origin ]

/-- R154: the announced fields: every STATUS field except the time remaining and the mark bit. -/
def announced (s : State) : List Byte := statusBody s false 0

end Sys2Proof.Machine
end

