-- ==== Sys2Proof/Machine/Ops.lean ====
section
/-! DEFINITION. The shared operations over the state that every family uses: time, requests to the line
interface and the loader, the override stack and the levels, the recomputation, and what follows every
command. -/

namespace Sys2Proof.Machine

/-! ## Time -/

/-- The drive output when local time is `n` (R40, R42): it moves only while it follows the drive target. -/
def outputAt (s : State) (n : Time) : Nat :=
  if following s then rampOutput s.fan.rampFrom s.fan.driveTarget s.fan.rampStart n else s.fan.driveOutput

/-- The line is known to be idle: nothing is sent, no frame is being assembled, LINE is clear (log 11). -/
def LineRec.quiet (l : LineRec) : Bool := l.transmission.isNone && l.assembly.isEmpty && !l.active

/-- How long the line is recessive up to local time `n`, in the units of the idle time: none of it while the
frame that goes on after a collision still stands on the line (R148, R151). -/
def recessiveUntil (s : State) (n : Time) : Nat := 24 * (n - max s.now (s.line.busyUntil.getD 0))

/-- Local time moves to `t` (it only increases, section 1.1), and with it what runs with time alone: the
capture counter and the ticks since capture (R47, R49), the drive output (R42), the idle time (R148). -/
def moveTime (t : Time) (s : State) : State :=
  let n := max s.now t
  let d := n - s.now
  { s with
    now := n
    fan := { s.fan with
      driveOutput := outputAt s n
      captureCounter := s.fan.captureCounter + BitVec.ofNat 16 d
      ticksSince := if s.fan.lastCapture.isSome then min 65536 (s.fan.ticksSince + d) else s.fan.ticksSince }
    line := { s.line with idleTime := if s.line.quiet then s.line.idleTime + recessiveUntil s n else s.line.idleTime } }

/-- R51: when the stall condition changes while time alone moves, it is the ramp that passes 300: the time
at which it did so. -/
def rampPasses300 (s : State) : Time := max s.now (s.fan.rampStart + 3125 * (300 - s.fan.rampFrom))

/-- R51: the stall watch start after a change from `m` to `s`, beginning at `start` when the stall
condition begins to hold. -/
def watchAfter (m s : State) (start : Time) : Option Time :=
  match stallCondition m, stallCondition s with
  | false, true => some start
  | true, false => none
  | _, _ => s.fan.stallWatch

/-- The stall watch follows the stall condition from `m` to `s`. -/
def trackStall (m : State) (start : Time) (s : State) : State :=
  { s with fan := { s.fan with stallWatch := watchAfter m s start } }

/-- The state when local time is `t`, before the event of that time. -/
def advance (t : Time) (s : State) : State :=
  let m := moveTime t s
  trackStall s (rampPasses300 s) m

/-! ## Requests to the line interface (R153) -/

/-- The slot of a kind. -/
def LineRec.slot (l : LineRec) : FrameKind → Slot
  | .defrost => l.defrostSlot
  | .mode => l.modeSlot
  | .boost => l.boostSlot
  | .status => l.statusSlot

/-- The record with one slot replaced. -/
def LineRec.setSlot (l : LineRec) (k : FrameKind) (v : Slot) : LineRec :=
  match k with
  | .defrost => { l with defrostSlot := v }
  | .mode => { l with modeSlot := v }
  | .boost => { l with boostSlot := v }
  | .status => { l with statusSlot := v }

/-- Whether a frame of a kind is in transmission. -/
def LineRec.sending (l : LineRec) (k : FrameKind) : Bool := l.transmission.any (·.kind = k)

/-- R153: a request makes its slot pending, and sets the re-request flag while a frame of the kind is in
transmission. -/
def LineRec.request (l : LineRec) (k : FrameKind) : LineRec :=
  l.setSlot k ⟨true, (l.slot k).reRequest || l.sending k⟩

/-- A STATUS request, with or without the reversal mark (R153, R154). -/
def requestStatus (mark : Bool) (s : State) : State :=
  { s with line := { s.line.request .status with statusMark := s.line.statusMark || mark } }

/-- A request for a MODE call that carries the house mode record as it stands (R160). -/
def queueMode (s : State) : State :=
  { s with line := { s.line.request .mode with modeBody := some s.house } }

/-- A request for a BOOST call (R161). -/
def queueBoost (b : BoostCall) (s : State) : State :=
  { s with line := { s.line.request .boost with boostBody := some b } }

/-- The frost guard queues a DEFROST notice (R79): the notice state and a request in the slot. -/
def queueNotice (a : NoticeAction) (forced : Bool) (s : State) : State :=
  { s with
    frost := { s.frost with notice := some ⟨a, forced⟩ }
    line := s.line.request .defrost }

/-! ## Write-back (R171) -/

/-- R171: a write starts with the filter values of this instant. -/
def startWrite (s : State) : State :=
  { s with loader := { s.loader with inFlight := true, writeBytes := filterRecordBytes s.filter } }

/-- R171: a write-back request. -/
def requestWriteBack (s : State) : State :=
  if s.loader.writeEnabled then
    if s.loader.inFlight then { s with loader := { s.loader with writePending := true } } else startWrite s
  else s

/-- R171, R172: the end of a write, succeeded or failed. -/
def endWrite (s : State) : State :=
  let idle := { s with loader := { s.loader with inFlight := false, writePending := false } }
  if s.loader.writePending then startWrite idle else idle

/-! ## Filter probe: hold and abandonment (R44, R131) -/

/-- The monitor lifts the probe hold if it stands and clears hold placed. -/
def liftHold (s : State) : State :=
  { s with
    fan := { s.fan with probeHold := false }
    filter := { s.filter with holdPlaced := false } }

/-- R131: the steps of an abandonment. -/
def dropProbe (s : State) : State :=
  { liftHold s with filter := { s.filter with
      holdPlaced := false
      speeds := []
      firstSpeed := none
      firstClose := none
      halfStart := none
      expected := none
      abandonTime := some s.now
      probe := .waiting } }

/-- R131: an abandoning event acts while the probe state is FIRST_HALF or SECOND_HALF. -/
def abandonProbe (s : State) : State := if s.filter.probing then dropProbe s else s

/-! ## Override stack and levels (R106, R107, R111, R112) -/

/-- An entry of this source and origin. -/
def Override.is (e : Override) (src : Source) (origin : Nat) : Bool := e.source = src && e.origin = origin

/-- Whether an entry of this source and origin stands. -/
def stands (s : State) (src : Source) (origin : Nat) : Bool := s.demand.stack.any (·.is src origin)

/-- R106: the stack after a push. -/
def pushed (e : Override) (st : List Override) : List Override :=
  let rest := st.filter (fun x => !x.is e.source e.origin)
  e :: (if 4 ≤ rest.length then rest.take 3 else rest)

/-- R111, R112: the requested level is formed again, and a fall takes the active level with it. -/
def reformLevels (s : State) : State :=
  { s with demand := { s.demand with
      requested := wantedLevel s
      active := min s.demand.active (wantedLevel s) } }

/-- R106: a push, which is reported to the filter monitor. -/
def push (e : Override) (s : State) : State :=
  reformLevels (abandonProbe { s with demand := { s.demand with stack := pushed e s.demand.stack } })

/-- R107: a removal. -/
def removeEntry (src : Source) (origin : Nat) (s : State) : State :=
  reformLevels { s with demand := { s.demand with
    stack := s.demand.stack.filter (fun x => !x.is src origin) } }

/-- R112: at a half boundary the active level becomes the requested level. -/
def takeRise (s : State) : State := { s with demand := { s.demand with active := s.demand.requested } }

/-! ## Recomputation (R113 to R120) -/

/-- R113, R114, R119: the levels per direction, or the probe equivalent of 50. -/
def levelFor (s : State) : Dir → Nat
  | .supply =>
    if s.fan.probeHold then 50
    else if defrostMotion s then 0
    else
      let m := if humidityLimit s then min s.demand.active (houseModeLevel s) else s.demand.active
      min m (min (frostCap s) (filterCap s))
  | .extract =>
    if s.fan.probeHold then 50
    else if defrostMotion s then min 70 (filterCap s)
    else min s.demand.active (filterCap s)

/-- R113: the demand of a direction in m³/h. -/
def demandFor (s : State) (d : Dir) : Nat := levelFor s d * s.cfg.qNom / 100

/-- R117: Q_min. -/
def qMin (s : State) : Nat := s.cfg.qNom * 20 / 100

/-- R117: the upper bound of the set flow in a direction. -/
def upperBound (s : State) : Dir → Nat
  | .supply => s.cfg.qNom * min (frostCap s) (filterCap s) / 100
  | .extract =>
    if defrostMotion s then s.cfg.qNom * min 70 (filterCap s) / 100 else s.cfg.qNom * filterCap s / 100

/-- R115: the own signed demand d in a direction. -/
def signedDemandFor (s : State) (dir : Dir) : Int := signedFlow dir (demandFor s .supply) (demandFor s .extract)

/-- R116, R119: the imbalance I for a signed demand. -/
def imbalanceFor (s : State) (d : Int) : Int := d + (derivedDemands s).sum

/-- R116, R119: the trim for a signed demand; 0 while the probe hold stands. -/
def trimFor (s : State) (d : Int) : Int := if s.fan.probeHold then 0 else trimOf d (derivedDemands s)

/-- R117: the set flow in a direction. -/
def setFlowFor (s : State) (dir : Dir) : Int :=
  let d := signedDemandFor s dir
  setFlowOf dir d (trimFor s d) (qMin s) (upperBound s dir)

/-- R118: the flow percent in a direction. -/
def flowPercentFor (s : State) (dir : Dir) : Nat := flowPercentOf (setFlowFor s dir) s.cfg.qNom

/-- R120: a full recomputation, steps 1 to 9. The imbalance keeps its value where R115 and R119 say that
it is not formed (log 26). While the probe hold stands the demand target handed over is the probe equivalent's, as
R119 and R44 say; the worked sequence of 3.7.1 has the stored target stay as it was (DEDUCED, log 54). -/
def recompute (s : State) : State :=
  let dem := { s.demand with supply := demandFor s .supply, extract := demandFor s .extract }
  match motionDirection s with
  | some dir =>
    let d := signedDemandFor s dir
    { s with
      demand := { dem with
        signed := some d
        imbalance := if s.fan.probeHold then s.demand.imbalance else imbalanceFor s d
        trim := trimFor s d
        setFlow := some (setFlowFor s dir)
        flowPercent := flowPercentFor s dir }
      fan := { s.fan with demandTarget := demandTargetOf (flowPercentFor s dir) } }
  | none =>
    { s with
      demand := { dem with signed := none, trim := 0, setFlow := none, flowPercent := 0 }
      fan := { s.fan with demandTarget := 0 } }

/-- What the demand unit's recomputation reads (R120). -/
structure DemandInputs where
  active    : Nat
  modeLevel : Nat
  limit     : Bool
  frostCap  : Nat
  filterCap : Nat
  probeHold : Bool
  state     : SeqState
  target    : Option Target
  derived   : List Int
  qNom      : Nat
  lane      : Lane
  deriving DecidableEq, Repr

/-- The inputs as they stand. -/
def demandInputs (s : State) : DemandInputs where
  active := s.demand.active
  modeLevel := houseModeLevel s
  limit := humidityLimit s
  frostCap := frostCap s
  filterCap := filterCap s
  probeHold := s.fan.probeHold
  state := s.seq.state
  target := s.seq.target
  derived := derivedDemands s
  qNom := s.cfg.qNom
  lane := s.lane

/-! ## What follows every command (log 5) -/

/-- R120: a recomputation when one of its inputs has changed from `m` to `s`. -/
def trackDemand (m : State) (s : State) : State := if demandInputs m = demandInputs s then s else recompute s

/-- R154: a STATUS request without the mark when an announced field has changed. -/
def trackAnnounced (m : State) (s : State) : State := if announced m = announced s then s else requestStatus false s

/-- R165: a lamp selection when one of its inputs has changed. -/
def trackLamps (m : State) (s : State) : State := if lampInputs m = lampInputs s then s else selectLamps s

/-- A new ramp begins at the present output (R42). -/
def restartRamp (s : State) : State :=
  { s with fan := { s.fan with rampFrom := s.fan.driveOutput, rampStart := s.now } }

/-- R42: a new ramp begins when the drive target has changed. -/
def trackRamp (m : State) (s : State) : State := if m.fan.driveTarget = s.fan.driveTarget then s else restartRamp s

/-- R20, R77, R92, R165: a change of the sequencer's state or of the frost stage is announced, and shown by the
lamps, as it takes place: it is not lost where the same command brings the old value back. -/
def showChange (m : State) (s : State) : State := trackLamps m (trackAnnounced m s)

/-- What a command that took the state from `m` to `s` leads to in the blocks that read it. -/
def finish (m : State) (s : State) : State :=
  trackStall m s.now (trackRamp m (trackLamps m (trackAnnounced m (trackDemand m s))))

/-- R167: while the device is held in reset every block holds its reset value and local time does not run, so an
event changes nothing. -/
def unlessInReset (effect : State → State) (s : State) : State := if s.inReset then s else effect s

/-- A command at local time `t` whose event has this effect. -/
def command (t : Time) (effect : State → State) (s : State) : Host.Outcome State Fault Refusal :=
  .next (unlessInReset (fun m => finish (advance t m) (effect (advance t m))) s)

/-- An event takes place only where its condition holds (log 3). -/
def onlyIf (due : Bool) (effect : State → State) (s : State) : State := if due then effect s else s

/-- A command at local time `t` whose event takes place where `due` holds at that time, with this effect. -/
def event (t : Time) (due : State → Bool) (effect : State → State) (s : State) : Host.Outcome State Fault Refusal :=
  command t (fun m => onlyIf (due m) effect m) s

end Sys2Proof.Machine
end

