-- ==== Sys2Proof/Machine/FilterMonitor.lean ====
section
/-! DEFINITION. The filter monitor's operations: start test, hold placement, judgement of probe halves,
result, filter state, run hours, reset (chapter 8). -/

namespace Sys2Proof.Machine

/-- R131: the sequencer states whose entry abandons a probe, and the reversals that do. -/
def SeqRec.abandonsProbe (q : SeqRec) : Bool :=
  match q.state with
  | .rest | .paused | .stopped | .defrost | .through => true
  | .reversing => q.target = some .defrost || q.target = some .through
  | _ => false

/-- R131: the filter monitor takes a change of the sequencer's state or target. -/
def filterOnSequencer (s : State) : State := if s.seq.abandonsProbe then abandonProbe s else s

/-- R127: the probe hold is placed. -/
def placeHold (s : State) : State :=
  { s with
    fan := { s.fan with probeHold := true }
    filter := { s.filter with holdPlaced := true } }

/-- R127, R131: a reversal has completed toward a target. -/
def filterOnCompletion (g : Target) (s : State) : State :=
  if s.filter.probing then
    if s.filter.expected.any (fun d => d.target = g) then
      if s.filter.holdPlaced then s else placeHold s
    else dropProbe s
  else s

/-- R126: the start test, apart from the reversal that the boundary began. -/
def startTest (s : State) : Bool :=
  s.filter.probe = .waiting && !(s.filter.abandonTime.any (s.now ≤ ·)) && s.frost.stage = .clear
    && s.seq.settling == 0 && s.demand.stack.isEmpty && !s.climate.inner.fault && !s.climate.outer.fault

/-- R126: a probe starts toward a direction. -/
def startProbe (d : Dir) (s : State) : State :=
  { s with filter := { s.filter with
      probe := .firstHalf
      expected := some d
      halfStart := some s.now
      abandonTime := none
      holdPlaced := false
      speeds := [] } }

/-- The direction of a reversal target of the alternating cycle. -/
def Target.cycleDirection : Target → Option Dir
  | .supply => some .supply
  | .extract => some .extract
  | _ => none

/-- R126: the start test is made when the sequencer, in state `before` until this boundary, has entered
REVERSING toward SUPPLY or EXTRACT. -/
def startTestAtBoundary (before : SeqState) (s : State) : State :=
  if before ≠ .reversing ∧ s.seq.state = .reversing then
    match s.seq.target.bind Target.cycleDirection with
    | some d => if startTest s then startProbe d s else s
    | none => s
  else s

/-- R130: the filter state rises, which asks for a write-back (R134). -/
def raiseFilter (f : FilterState) (s : State) : State :=
  if s.filter.state = f then s
  else requestWriteBack { s with filter := { s.filter with state := f } }

/-- R130: the load raises the filter state. -/
def filterByLoad (s : State) : State :=
  if s.cfg.blockedRise ≤ s.filter.load then raiseFilter .blocked s
  else if s.cfg.dueRise ≤ s.filter.load then
    (if s.filter.state = .clean then raiseFilter .due s else s)
  else s

/-- R128, R129: what every accepted half asks of its record and of the speed window. -/
def halfAccepted (r : HalfRecord) (f : FilterRec) : Bool :=
  r.valid && f.expected.isSome && r.direction = f.expected && f.speeds.length == 10

/-- R128: the mean of the ten readings. -/
def windowSpeed (f : FilterRec) : Nat := f.speeds.sum / 10

/-- R128: the first half is accepted. -/
def acceptFirst (r : HalfRecord) (d : Dir) (s : State) : State :=
  { s with filter := { s.filter with
      firstSpeed := some ⟨windowSpeed s.filter, d⟩
      firstClose := some r.close
      halfStart := some r.close
      expected := some d.other
      speeds := []
      probe := .secondHalf } }

/-- R129: the end of a probe with a result. -/
def probeOver (f : FilterRec) : FilterRec :=
  { f with
    firstSpeed := none
    firstClose := none
    halfStart := none
    expected := none
    speeds := []
    holdPlaced := false
    probe := .idle
    hoursToProbe := 24 }

/-- R129: the result of a probe with probe speed `sp` above 0. -/
def probeResult (sp : Nat) (s : State) : State :=
  let s1 := { s with filter := probeOver s.filter }
  if s.filter.baseline = 0 then
    requestWriteBack { s1 with filter := { s1.filter with baseline := sp, load := 0 } }
  else
    filterByLoad { s1 with filter := { s1.filter with load := loadOf sp s.filter.baseline } }

/-- R129: the record with the first close time still stands in the ring and is still valid. -/
def firstStillValid (s : State) : Bool :=
  s.climate.ring.any (fun r => s.filter.firstClose = some r.close && r.valid)

/-- R129: the probe speed of the two halves. -/
def probeSpeed (f : FilterRec) : Nat := ((f.firstSpeed.map (·.rpm)).getD 0 + windowSpeed f) / 2

/-- R128, R129: the judgement of a record, after the hold has been lifted. -/
def judgeHalf (r : HalfRecord) (s : State) : State :=
  match s.filter.probe, s.filter.expected with
  | .firstHalf, some d => if halfAccepted r s.filter then acceptFirst r d s else dropProbe s
  | .secondHalf, some _ =>
    if halfAccepted r s.filter && firstStillValid s && 0 < probeSpeed s.filter then
      probeResult (probeSpeed s.filter) s
    else dropProbe s
  | .firstHalf, none | .secondHalf, none => dropProbe s
  | _, _ => s

/-- R128, R129: the filter monitor takes a record; it judges the first with a close time later than the
probe half start. -/
def filterTakesRecord (r : HalfRecord) (s : State) : State :=
  if s.filter.probing && s.filter.halfStart.all (· < r.close) then judgeHalf r (liftHold s) else s

/-- R127: a speed reading at a sample's instant, while the hold is placed and the output stands at 600. -/
def takeSpeedReading (s : State) : State :=
  if s.filter.holdPlaced && s.fan.driveOutput == 600 then
    let ws := s.filter.speeds ++ [min 65535 s.fan.speed]
    { s with filter := { s.filter with speeds := ws.drop (ws.length - 10) } }
  else s

/-- R123 step 3: hours to probe fall in IDLE, and the probe becomes due at 0. -/
def hourToProbe (f : FilterRec) : FilterRec :=
  if f.probe = .idle then
    { f with
      hoursToProbe := f.hoursToProbe - 1
      probe := if f.hoursToProbe - 1 = 0 then .waiting else .idle }
  else f

/-- R123, R124: the filter record after a run hour. -/
def hourPassed (f : FilterRec) : FilterRec :=
  let f1 := { f with
    runHours := f.runHours + 1
    countdown := f.countdown - 1
    state := if f.countdown = 1 ∧ f.state = .clean then .due else f.state }
  hourToProbe f1

/-- R123: a run hour. R134: one write-back request where the hours are a multiple of 24 or the state rose. -/
def runHour (s : State) : State :=
  if s.filter.runHours = 65535 then s
  else
    let f := hourPassed s.filter
    let s1 := { s with filter := f }
    if f.runHours % 24 = 0 ∨ f.state ≠ s.filter.state then requestWriteBack s1 else s1

/-- R123: one run second. -/
def countRunSecond (s : State) : State :=
  if s.fan.driveOutput = 0 then s
  else if s.filter.runSeconds + 1 < 3600 then
    { s with filter := { s.filter with runSeconds := s.filter.runSeconds + 1 } }
  else runHour { s with filter := { s.filter with runSeconds := 0 } }

/-- R133: a filter reset. -/
def resetFilter (s : State) : State :=
  let s1 := abandonProbe s
  requestWriteBack { s1 with filter := { s1.filter with
      state := .clean
      load := 0
      countdown := 100 * s.cfg.serviceInterval
      baseline := 0
      probe := .idle
      hoursToProbe := 1
      abandonTime := none } }

/-- R122: the monitor takes the four values of the filter record at the end of STARTING. -/
def takeFilterValues (v : FilterValues) (s : State) : State :=
  { s with filter := { s.filter with
      baseline := v.baseline
      countdown := v.countdown
      runHours := v.runHours
      state := if v.countdown = 0 ∧ v.state = .clean then .due else v.state
      probe := if v.baseline = 0 then .waiting else s.filter.probe } }

end Sys2Proof.Machine
end

