-- ==== Sys2Proof/Machine/FrostStage.lean ====
section
/-! DEFINITION. The frost guard's own record: changes of stage, and what changes of the sequencer's state
do to it (R82, R85, R87, R90). Tests and orders are in FrostGuard. -/

namespace Sys2Proof.Machine

/-- A change of stage, announced and shown at once; leaving CLEAR abandons a probe in progress (R77, R92, R131). -/
def setStage (st : FrostStage) (s : State) : State :=
  let s1 := showChange s { s with frost := { s.frost with stage := st } }
  if s.frost.stage = .clear ∧ st ≠ .clear then abandonProbe s1 else s1

/-- The contention fields of the present unforced ENTER become absent (R82). -/
def clearContention (s : State) : State :=
  { s with frost := { s.frost with windowEnd := none, contentionStart := none, entryAccount := none } }

/-- R80, R82, R89: a contention is given up: WITHDRAW is queued, with the forced flag clear (DESIGN CHOICE, log 55), and
the stage is the given one. -/
def withdraw (st : FrostStage) (s : State) : State :=
  setStage st (clearContention (queueNotice .withdraw false s))

/-- The defrost's own times become absent (R86, R87). -/
def clearDefrost (s : State) : State :=
  { s with frost := { s.frost with defrostStart := none, meltStepEnd := none } }

/-- R86: a LEAVE notice is queued and the defrost's times become absent. -/
def leaveDefrost (s : State) : State := clearDefrost (queueNotice .leave false s)

/-- R85: melt steps begin. -/
def startMelt (s : State) : State :=
  { s with frost := { s.frost with meltStepEnd := some (s.now + seconds 10) } }

/-- R85: the melt step in progress is discarded. -/
def dropMelt (s : State) : State := { s with frost := { s.frost with meltStepEnd := none } }

/-- R86, R87: the lockout end time is set 1800.0 s ahead. -/
def startLockout (s : State) : State :=
  { s with frost := { s.frost with lockoutEnd := some (s.now + seconds 1800) } }

/-- R90: blind defrost ends. -/
def clearBlindDefrost (s : State) : State :=
  { s with frost := { s.frost with blindDefrost := false, defrostStart := none } }

/-- R82, R87, R90: the sequencer enters STOPPED. The LEAVE of a blind defrost has the forced flag clear, as
R86's (DEDUCED, log 49). -/
def frostOnStopped (s : State) : State :=
  match s.frost.stage with
  | .contending => withdraw (stageByAccount s.frost.account) s
  | .defrosting => setStage .lockout (startLockout (leaveDefrost s))
  | .blind => if s.frost.blindDefrost then clearBlindDefrost (queueNotice .leave false s) else s
  | _ => s

/-- R85, R87: the guard takes a change of the sequencer's state from `old` while the stage is DEFROSTING.
REST ends the defrost from whatever state it is entered (DEDUCED, log 50). -/
def defrostOnSequencer (old : SeqState) (s : State) : State :=
  if s.seq.state = .defrost ∧ old ≠ .defrost then startMelt s
  else if s.seq.state = .rest ∧ old ≠ .rest then setStage (stageByAccount s.frost.account) (leaveDefrost s)
  else if s.seq.state ≠ .defrost ∧ old = .defrost then dropMelt s
  else s

/-- R20: the frost guard takes a change of the sequencer's state from `old`. -/
def frostOnSequencer (old : SeqState) (s : State) : State :=
  if s.seq.state = .stopped ∧ old ≠ .stopped then frostOnStopped s
  else if s.frost.stage = .defrosting then defrostOnSequencer old s
  else s

end Sys2Proof.Machine
end

