-- ==== Sys2Proof/Machine/HumidityMonitor.lean ====
section
/-! DEFINITION. The humidity monitor's operations (chapter 6). -/

namespace Sys2Proof.Machine

/-- R93: the rise step s, in hundredths of a g/m³. -/
def riseStep (s : State) : Nat := 5 * s.cfg.humidityStep

/-- R93: the RH ceiling, in per-mille. -/
def ceiling (s : State) : Int := 10 * (s.cfg.rhCeiling : Int)

/-- Below the ceiling less 50 (R98, R100, R102). -/
def dryRh (s : State) (rh : Int) : Bool := rh < ceiling s - 50

/-- R94, R95: the monitor runs at WET and KITCHEN stations. -/
def watchesHumidity (s : State) : Bool := s.roomClass ≠ .dry

/-- R97: a boost starts. -/
def startBoost (s : State) : State :=
  push ⟨.humidity, ownNumber s, 90, none⟩
    { s with humid := { s.humid with state := .boosting, boostStart := some s.now, falling := 0 } }

/-- R98: the end of a boost, into the given state. -/
def endBoost (next : HumidState) (s : State) : State :=
  removeEntry .humidity (ownNumber s)
    { s with humid := { s.humid with state := next, boostStart := none, falling := 0 } }

/-- R98: the boost, if one runs, ends; the state then is the given one. -/
def leaveBoost (next : HumidState) (s : State) : State :=
  if s.humid.state = .boosting then endBoost next s
  else { s with humid := { s.humid with state := next } }

/-- R101: SEEDING with the baseline absent, at STOPPED and at a deep exit. -/
def reseed (s : State) : State :=
  let s1 := leaveBoost .seeding s
  { s1 with humid := { s1.humid with baseline := none } }

/-- R101: entry to REST. -/
def humidOnRest (s : State) : State :=
  match s.humid.state with
  | .disabled => s
  | .boosting =>
    let s1 := endBoost .rearming s
    { s1 with humid := { s1.humid with nextRestCheck := some (s.now + seconds 60) } }
  | _ => { s with humid := { s.humid with nextRestCheck := some (s.now + seconds 60) } }

/-- R101: entry to STOPPED. -/
def humidOnStopped (s : State) : State := if s.humid.state = .disabled then s else reseed s

/-- R101: the monitor takes a change of the sequencer's state from `old`; leaving REST makes the next rest
check absent. -/
def humidOnSequencer (old : SeqState) (s : State) : State :=
  let s1 := if old = .rest ∧ s.seq.state ≠ .rest then
      { s with humid := { s.humid with nextRestCheck := none } } else s
  if s.seq.state = .rest ∧ old ≠ .rest then humidOnRest s1
  else if s.seq.state = .stopped ∧ old ≠ .stopped then humidOnStopped s1
  else s1

/-- R101: the end of a listen period. -/
def humidOnListenEnd (s : State) : State :=
  if s.humid.state = .disabled then s
  else
    let s1 := reseed s
    { s1 with humid := { s1.humid with boostStart := none, falling := 0 } }

/-- R101: a deep rest exit. -/
def humidOnDeepExit (s : State) : State :=
  match s.humid.state with
  | .disabled => s
  | .boosting => { s with humid := { s.humid with baseline := none, falling := 0 } }
  | _ => { s with humid := { s.humid with state := .seeding, baseline := none } }

/-- R95: the HUMIDITY fault is raised. -/
def humidFaultRaised (s : State) : State :=
  if watchesHumidity s then
    let s1 := leaveBoost .disabled s
    { s1 with humid := ⟨.disabled, none, none, 0, none⟩ }
  else s

/-- R95: the HUMIDITY fault is cleared. -/
def humidFaultCleared (s : State) : State :=
  if watchesHumidity s ∧ s.humid.state = .disabled then
    { s with humid := { s.humid with
        state := .seeding
        nextRestCheck := if s.seq.state = .rest then some (s.now + seconds 60) else s.humid.nextRestCheck } }
  else s

/-- R96: a record in WATCHING with baseline `b`. -/
def watchRecord (b ah : Nat) (rh : Int) (s : State) : State :=
  if (riseStep s : Int) ≤ (ah : Int) - (b : Int) ∨ ceiling s ≤ rh then startBoost s
  else { s with humid := { s.humid with baseline := some (baselineToward b ah) } }

/-- R98: the falling count after a record. -/
def fallingAfter (s : State) (ah : Nat) (rh : Int) : Nat :=
  match s.humid.baseline with
  | some b =>
    let rise := (ah : Int) - (b : Int)
    if (riseStep s : Int) ≤ rise then 0
    else if rise ≤ ((riseStep s / 2 : Nat) : Int) then min 2 (s.humid.falling + 1)
    else s.humid.falling
  | none =>
    if ceiling s ≤ rh then 0
    else if dryRh s rh then min 2 (s.humid.falling + 1)
    else s.humid.falling

/-- The state to watch from, by the baseline (R98, R102). -/
def restingState (s : State) : HumidState := if s.humid.baseline.isSome then .watching else .seeding

/-- R98: a record in BOOSTING. -/
def boostRecord (ah : Nat) (rh : Int) (s : State) : State :=
  let n := fallingAfter s ah rh
  if n = 2 ∧ dryRh s rh then endBoost (restingState s) s
  else { s with humid := { s.humid with falling := n } }

/-- R100: a record in REARMING, also one that comes at the instant of the cap and after it, although R99 ends
with the words that the baseline is unchanged by it (DEDUCED, log 44). -/
def rearmRecord (ah : Nat) (rh : Int) (s : State) : State :=
  match s.humid.baseline with
  | some b =>
    if (ah : Int) - (b : Int) ≤ ((riseStep s / 2 : Nat) : Int) then
      { s with humid := { s.humid with state := .watching, baseline := some (baselineToward b ah) } }
    else s
  | none =>
    if dryRh s rh then { s with humid := { s.humid with state := .watching, baseline := some ah } } else s

/-- R96: a record with AH and RH reaches the monitor. A WATCHING monitor has a baseline; without one it
would seed it. -/
def humidRecord (ah : Nat) (rh : Int) (s : State) : State :=
  match s.humid.state with
  | .disabled => s
  | .seeding => { s with humid := { s.humid with state := .watching, baseline := some ah } }
  | .watching =>
    match s.humid.baseline with
    | some b => watchRecord b ah rh s
    | none => { s with humid := { s.humid with baseline := some ah } }
  | .boosting => boostRecord ah rh s
  | .rearming => rearmRecord ah rh s

/-- R64: the monitor receives the valid EXTRACT records whose RH, and so moisture part, is present. -/
def humidTakesRecord (r : HalfRecord) (s : State) : State :=
  if r.valid ∧ r.direction = some .extract then
    match r.moisture, r.rh with
    | some m, some rh => humidRecord m.ah rh s
    | _, _ => s
  else s

end Sys2Proof.Machine
end

