-- ==== Sys2Proof/Machine/Sequencer.lean ====
section
/-! DEFINITION. The cycle sequencer's motions (chapter 2), with the fan drive's part in them (R40, R41,
R45, R46) and the notices of R20. -/

namespace Sys2Proof.Machine

/-! ## Fan drive orders -/

/-- R41: the drive output becomes 0 at once and a spin-up hold that is running is ended. -/
def zeroDrive (s : State) : State := { s with fan := { s.fan with driveOutput := 0, holdEnd := none } }

/-- R45: the spin-up hold ends and the ramp starts from the present output. -/
def endHold (s : State) : State :=
  if s.fan.holdEnd.isSome then
    { s with fan := { s.fan with holdEnd := none, rampFrom := s.fan.driveOutput, rampStart := s.now } }
  else s

/-- R23, R46: the sequencer orders a direction. -/
def orderDirection (d : Dir) (s : State) : State := { s with fan := { s.fan with direction := d } }

/-! ## Changes of the record (R20) -/

/-- R20: the blocks that a change of state or target is passed to take it; `old` is the state before. The
demand unit's part follows the command (log 5). -/
def notify (old : SeqState) (s : State) : State :=
  humidOnSequencer old (filterOnSequencer (frostOnSequencer old s))

/-- R20: the record becomes `q`; the change is announced, shown and passed on. -/
def changeSeq (q : SeqRec) (s : State) : State := notify s.seq.state (showChange s { s with seq := q })

/-- R10, R139: the reference identity is formed again; a changed identity discards the heard length. R1: the
clock's reset values hold through STARTING, the identity none among them (log 16). -/
def reformReference (s : State) : State :=
  if s.seq.state = .starting ∨ s.clock.reference = timingReference s then s
  else { s with clock := { s.clock with reference := timingReference s, heardLength := none } }

/-- R1: the clock stops. -/
def stopClock (s : State) : State :=
  reformReference { s with clock := { s.clock with
      running := false, endTime := none, startTime := none, heardLength := none } }

/-- R60: the collection closes without a record. -/
def closeCollection (s : State) : State :=
  { s with climate := { s.climate with openTime := none, window := [], lastCompletion := none } }

/-! ## Reversal (R21 to R25) -/

/-- R22, R23: SWITCH begins, with the direction output set to the target's direction. -/
def enterSwitch (g : Target) (s : State) : State :=
  orderDirection (g.direction s.lane) { s with seq := { s.seq with phase := some .switch, phaseStart := some s.now } }

/-- R22: RUNDOWN begins with the drive output at 0, and ends at once below 300 rpm. -/
def enterRundown (g : Target) (s : State) : State :=
  let s1 := zeroDrive { s with seq := { s.seq with phase := some .rundown, phaseStart := some s.now } }
  if s.fan.speed < 300 then enterSwitch g s1 else s1

/-- R21: REVERSING is entered toward a target. From a moving state the phase is RUNDOWN, which ends at
once below 300 rpm (R22); from a state with the drive at 0 it is SWITCH below 300 rpm and RUNDOWN
otherwise: the same two outcomes. -/
def beginReversing (g : Target) (s : State) : State :=
  enterRundown g (changeSeq { s.seq with state := .reversing, phase := none, target := some g, phaseStart := none } s)

/-- R33: REST is entered. -/
def enterRest (s : State) : State :=
  changeSeq { s.seq with
      state := .rest, phase := none, target := none, phaseStart := none, restHeld := false,
      restStart := some s.now, defrostResume := false, pauseEnd := none }
    (zeroDrive s)

/-- R24: the reversal toward `g` completes; R20: the completion time is handed on; R32: a held rest is taken
unless the target is DEFROST. -/
def completeReversal (g : Target) (s : State) : State :=
  let s1 := changeSeq { s.seq with state := g.state, phase := none, target := none, phaseStart := none } (endHold s)
  let s2 := { s1 with climate := { s1.climate with lastCompletion := some s.now } }
  let s3 := filterOnCompletion g s2
  if s3.seq.restHeld ∧ g ≠ .defrost then enterRest s3 else s3

/-- R24: SPINUP completes at once at 600 rpm or more, from its beginning on (log 39). -/
def completeAtSpeed (s : State) : State :=
  match s.seq.state, s.seq.phase, s.seq.target with
  | .reversing, some .spinup, some g => if 600 ≤ s.fan.speed then completeReversal g s else s
  | _, _, _ => s

/-- R24, R45: SPINUP begins, with the drive output at 350 and held for 1.0 s. -/
def enterSpinup (s : State) : State :=
  completeAtSpeed { s with
    seq := { s.seq with phase := some .spinup, phaseStart := some s.now }
    fan := { s.fan with driveOutput := 350, holdEnd := some (s.now + seconds 1) } }

/-- R22: RUNDOWN ends where the measured speed is below 300 rpm or 4.0 s have passed. -/
def endRundown (s : State) : State :=
  match s.seq.state, s.seq.phase, s.seq.target with
  | .reversing, some .rundown, some g =>
    if s.fan.speed < 300 ∨ reached (s.seq.phaseStart.map (· + seconds 4)) s.now then enterSwitch g s else s
  | _, _, _ => s

/-- R25: the target is replaced, and the change passed on. -/
def replaceTarget (g : Target) (s : State) : State := changeSeq { s.seq with target := some g } s

/-- R25: a retarget of a REVERSING, by phase. -/
def retarget (g : Target) (s : State) : State :=
  match s.seq.target with
  | none => s
  | some h =>
    if g = h then s
    else
      let s1 := replaceTarget g s
      if g.direction s.lane = h.direction s.lane then s1
      else match s.seq.phase with
        | some .switch => enterSwitch g s1
        | some .spinup => enterRundown g s1
        | _ => s1

/-! ## Other motions -/

/-- A moving state is entered directly, without a reversal (R28, R29, R30, R31). -/
def enterDirect (st : SeqState) (s : State) : State :=
  changeSeq { s.seq with state := st } s

/-- R16, R26: LISTEN is entered and the listen period begins. -/
def enterListen (s : State) : State :=
  let s1 := changeSeq { s.seq with state := .listen } s
  { s1 with clock := { s1.clock with listenEnd := some (s.now + seconds 130) } }

/-- R36: PAUSED is entered; a held rest is taken at once. -/
def enterPaused (resume : Bool) (s : State) : State :=
  let s1 := changeSeq { s.seq with
      state := .paused, phase := none, target := none, phaseStart := none,
      pauseEnd := some (s.now + seconds 30), defrostResume := resume, settling := 2 }
    (zeroDrive s)
  if s1.seq.restHeld then enterRest s1 else s1

/-- R37: STOPPED is entered, the clock stops (R1) and the collection closes (R60). -/
def enterStopped (s : State) : State :=
  let s1 := changeSeq { s.seq with
      state := .stopped, phase := none, target := none, phaseStart := none,
      restHeld := false, rejoin := none, defrostResume := false, pauseEnd := none, restStart := none,
      settling := 0 }
    (zeroDrive s)
  closeCollection (stopClock { s1 with ctl := { s1.ctl with stall := true } })

/-- R35: the history without the entries older than 60 min, with the present time added. -/
def historyWith (now : Time) (h : List Time) : List Time := h.filter (fun x => now ≤ x + minutes 60) ++ [now]

/-- R35: a stall is taken. -/
def takeStall (s : State) : State :=
  let h := historyWith s.now s.seq.stallHistory
  let s1 := { s with seq := { s.seq with stallHistory := h } }
  if 3 ≤ h.length then enterStopped s1 else enterPaused (defrostMotion s) s1

/-! ## Orders and requests -/

/-- R30: a defrost order, in the states that take it. -/
def takeDefrostOrder (s : State) : State :=
  match s.seq.state with
  | .extract => enterDirect .defrost s
  | .supply => beginReversing .defrost s
  | .through =>
    if summerDirection s.lane = .extract then enterDirect .defrost s else beginReversing .defrost s
  | .reversing => retarget .defrost s
  | .paused => { s with seq := { s.seq with defrostResume := true } }
  | _ => s

/-- R31: a defrost end order. -/
def takeDefrostEnd (s : State) : State :=
  match s.seq.state with
  | .defrost =>
    if s.seq.restHeld then enterRest s
    else if laneDirectionNow s = .extract then enterDirect .extract s
    else beginReversing .supply s
  | .reversing => if s.seq.target = some .defrost then retarget (laneDirectionNow s).target s else s
  | .paused => { s with seq := { s.seq with defrostResume := false } }
  | _ => s

/-- R34: a rest exit, by how long REST has lasted. -/
def restExit (s : State) : State :=
  if s.seq.state = .rest ∧ s.seq.rejoin = none then
    let lasted := s.now - s.seq.restStart.getD s.now
    { s with seq := { s.seq with rejoin := some (if lasted < minutes 30 then .fast else .deep) } }
  else s

/-- R32: the OFF toggle. -/
def offToggle (s : State) : State :=
  match s.seq.state with
  | .rest => if s.seq.rejoin = none then restExit s else { s with seq := { s.seq with rejoin := none } }
  | .stopped => s
  | st =>
    if s.seq.restHeld then { s with seq := { s.seq with restHeld := false } }
    else match st with
      | .supply | .extract | .through | .paused => enterRest s
      | _ => { s with seq := { s.seq with restHeld := true } }

/-- R37: the release from STOPPED. -/
def release (s : State) : State :=
  if s.seq.state = .stopped then
    enterListen { s with
      seq := { s.seq with stallHistory := [] }
      ctl := { s.ctl with stall := false } }
  else s

/-- R33: a wake request, which acts in REST as a rest exit. -/
def wake (s : State) : State := restExit s

/-- R14: a direction-change notice, to the sequencer. -/
def sequencerOnNotice (d : Dir) (s : State) : State :=
  match s.seq.state with
  | .supply | .extract => beginReversing d.target s
  | .reversing =>
    match s.seq.target with
    | some .supply | some .extract => retarget d.target s
    | _ => s
  | _ => s

/-! ## Half boundary (R27 to R29, R34, R38) -/

/-- R28: the entry test. -/
def entryTest (s : State) : Bool :=
  s.house.summer && s.climate.outdoor.any (10 * (s.cfg.summerThreshold : Int) ≤ ·)

/-- R29: the exit test. -/
def exitTest (s : State) : Bool :=
  !s.house.summer || !(s.climate.outdoor.any (10 * (s.cfg.summerThreshold : Int) - 20 ≤ ·))

/-- R38: the settling count at a half boundary. -/
def settleAtBoundary (s : State) : State :=
  { s with seq := { s.seq with
      settling := if s.seq.state = .rest ∧ s.seq.rejoin = some .deep then 2 else s.seq.settling - 1 } }

/-- R34: the rejoin of a rest exit at a half boundary; a deep exit is told to the humidity monitor. -/
def rejoinAtBoundary (s : State) : State :=
  match s.seq.rejoin with
  | none => s
  | some r =>
    let g := if entryTest s then Target.through else (laneDirectionNow s).target
    let s1 := beginReversing g { s with seq := { s.seq with rejoin := none, restStart := none } }
    if r = .deep then humidOnDeepExit s1 else s1

/-- R27, R28: a boundary in SUPPLY or EXTRACT, the fan turning in direction `d`. -/
def cycleAtBoundary (d : Dir) (s : State) : State :=
  if entryTest s then
    if summerDirection s.lane = d then enterDirect .through s else beginReversing .through s
  else if laneDirectionNow s = d then s
  else beginReversing (laneDirectionNow s).target s

/-- R27: the sequencer takes a half boundary; c is the new c, and the outdoor temperature is still the one
before the record closes (R28). -/
def sequencerAtBoundary (s : State) : State :=
  match s.seq.state with
  | .supply => cycleAtBoundary .supply s
  | .extract => cycleAtBoundary .extract s
  | .reversing =>
    match s.seq.target with
    | some .supply | some .extract =>
      retarget (if entryTest s then .through else (laneDirectionNow s).target) s
    | some .through => if exitTest s then retarget (laneDirectionNow s).target s else s
    | _ => s
  | .through =>
    if exitTest s then
      if laneDirectionNow s = summerDirection s.lane then enterDirect (laneDirectionNow s).state s
      else beginReversing (laneDirectionNow s).target s
    else s
  | .rest => rejoinAtBoundary s
  | _ => s

/-! ## Cycling begins (R26) and pause end (R36) -/

/-- R26: cycling begins. -/
def beginCycling (s : State) : State :=
  let s1 := { s with seq := { s.seq with settling := 2 } }
  if s1.seq.restHeld then enterRest s1 else beginReversing (laneDirectionNow s1).target s1

/-- R36: the pause ends. -/
def endPause (s : State) : State :=
  let g := if s.seq.defrostResume then Target.defrost else (laneDirectionNow s).target
  beginReversing g { s with seq := { s.seq with pauseEnd := none, defrostResume := false } }

/-- R24: the limit of SPINUP: completion with the speed above 0, otherwise a stall. -/
def spinupLimit (g : Target) (s : State) : State :=
  if 0 < s.fan.speed then completeReversal g s else takeStall s

end Sys2Proof.Machine
end

