-- ==== Sys2Proof/Machine/FrostGuard.lean ====
section
/-! DEFINITION. The frost guard's tests, orders, runs and ends (chapter 5). -/

namespace Sys2Proof.Machine

/-! ## The defrost order (R84) -/

/-- R84, R30, R80: defrost is ordered. An order that the sequencer refuses is handled as a window end in
REST: WITHDRAW is queued and the stage by account taken (log 22). -/
def orderDefrost (s : State) : State :=
  if s.seq.state.refusesDefrost then withdraw (stageByAccount s.frost.account) s
  else
    let s1 := clearContention (setStage .defrosting s)
    takeDefrostOrder { s1 with frost := { s1.frost with defrostStart := some s.now } }

/-! ## Forced test (R83) -/

/-- R83: the forced test holds and is not skipped. -/
def forcedHolds (s : State) : Bool :=
  3200 ≤ s.frost.account && s.frost.stage ≠ .defrosting && s.frost.stage ≠ .blind
    && !s.seq.state.refusesDefrost

/-- R83: the forced test. -/
def forcedTest (s : State) : State :=
  if forcedHolds s then
    let s1 := clearContention (queueNotice .enter true s)
    orderDefrost { s1 with frost := { s1.frost with lockoutEnd := none } }
  else s

/-- A change of stage, after which the forced test is made (R83). -/
def moveStage (st : FrostStage) (s : State) : State :=
  if s.frost.stage = st then s else forcedTest (setStage st s)

/-! ## Want test (R78) -/

/-- R78: sequencer states in which the want test is skipped. -/
def SeqState.skipsWant : SeqState → Bool
  | .rest | .starting | .listen | .stopped | .paused => true
  | _ => false

/-- R78: the want test holds and is not skipped. -/
def wantHolds (s : State) : Bool :=
  1600 ≤ s.frost.account && (s.frost.stage = .limiting || s.frost.stage = .deferred)
    && !s.seq.state.skipsWant && s.seq.settling == 0

/-- R78: an unforced ENTER is queued and the station contends. -/
def contend (s : State) : State :=
  let s1 := queueNotice .enter false s
  moveStage .contending { s1 with frost := { s1.frost with
      contentionStart := some s.now, entryAccount := none, windowEnd := none } }

/-- R78: the want test. -/
def wantTest (s : State) : State :=
  if wantHolds s then
    if s.line.active then orderDefrost s
    else if placesInUse s < s.cfg.allowance then contend s
    else moveStage .deferred s
  else s

/-! ## Changes of the account (R74, R75) -/

/-- R75: the tests that follow a change of the account: stage movement, forced test, want test. -/
def afterAccount (s : State) : State :=
  wantTest (forcedTest (moveStage (stageAfterChange s.frost.stage s.frost.account) s))

/-- The account becomes `a`, and the tests follow a change. -/
def setAccount (a : Nat) (s : State) : State := { s with frost := { s.frost with account := a } }

/-- R74: the account after a record; the dew point is 100 where the record has no moisture part. -/
def accountByRecord (a : Nat) (r : HalfRecord) : Nat :=
  match r.outer with
  | some exh => accountAfterRecord a exh ((r.moisture.map (·.td)).getD 100) r.flowPercent r.duration
  | none => a

/-- R74, R78: a valid EXTRACT record reaches the guard outside DEFROSTING and BLIND. Where it leaves the account as
it was, R83's test of the same half boundary comes before the want test, in the order of R75 (DEDUCED, log 52). -/
def frostRecord (r : HalfRecord) (s : State) : State :=
  let a := accountByRecord s.frost.account r
  if a ≠ s.frost.account then afterAccount (setAccount a s)
  else if s.frost.stage = .limiting then wantTest (forcedTest s)
  else s

/-- R64, R74: which records the guard takes. -/
def frostTakesRecord (r : HalfRecord) (s : State) : State :=
  if r.valid ∧ r.direction = some .extract ∧ s.frost.stage ≠ .defrosting ∧ s.frost.stage ≠ .blind then
    frostRecord r s
  else s

/-- R78, R81, R83: the tests at a half boundary. -/
def frostAtBoundary (s : State) : State :=
  let s1 := forcedTest s
  if s1.frost.stage = .deferred then wantTest s1 else s1

/-! ## Window end (R80) -/

/-- R80: the decision at the window end. -/
def decideWindow (s : State) : State :=
  let s1 := { s with frost := { s.frost with windowEnd := none } }
  if s.seq.state.refusesDefrost then withdraw (stageByAccount s.frost.account) s1
  else if precedenceCount s < s.cfg.allowance then orderDefrost s1
  else forcedTest (withdraw .deferred s1)

/-- R79: the report that a DEFROST frame has been sent to the end. -/
def noticeSent (bytes : List Byte) (s : State) : State :=
  let n := noticeOf bytes
  if n.action = some .enter ∧ n.forced = false ∧ s.frost.stage = .contending then
    { s with frost := { s.frost with
        entryAccount := some n.account
        windowEnd := some (s.now + seconds 2) } }
  else s

/-! ## The defrost run (R85, R86, R90) -/

/-- R86: a defrost ends, cleared or timed out: LEAVE, the end order, the new stage and its forced test. -/
def endDefrost (st : FrostStage) (s : State) : State :=
  forcedTest (takeDefrostEnd (leaveDefrost (setStage st s)))

/-- R85: the mean outer temperature of a step that closes at `e`. -/
def stepMean (s : State) (e : Time) : Option Int :=
  meanInt (s.climate.stream.filterMap (fun x =>
    if e ≤ x.time + seconds 10 ∧ x.time < e ∧ x.tag = some .extract ∧ x.outerFault = false then x.outer else none))

/-- R85: the melt step that closes at `e`. -/
def meltStep (e : Time) (s : State) : State :=
  let a := accountAfterMeltStep s.frost.account (stepMean s e)
  { s with frost := { s.frost with account := a, meltStepEnd := some (e + seconds 10) } }

/-- R85, R86: a melt step closes, and the end test is made. -/
def closeMeltStep (e : Time) (s : State) : State :=
  let s1 := meltStep e s
  if s1.frost.account ≤ 100 then endDefrost .clear (setAccount 0 s1) else s1

/-- R86: the defrost times out. -/
def timeOutDefrost (s : State) : State := endDefrost .lockout (startLockout s)

/-- R90: a blind defrost reaches its limit. Its LEAVE has the forced flag clear, as R86's (DEDUCED, log 49). -/
def endBlindDefrost (s : State) : State :=
  takeDefrostEnd (clearBlindDefrost (queueNotice .leave false (setAccount 0 s)))

/-- R88: the lockout ends. -/
def endLockout (s : State) : State :=
  let s1 := moveStage (stageByAccount s.frost.account) { s with frost := { s.frost with lockoutEnd := none } }
  if s1.frost.stage = .limiting then wantTest s1 else s1

/-! ## BLIND (R89, R91) -/

/-- R89: the OUTER_PROBE fault is raised. DEDUCED: an ENTER that is still pending in the slot, or being sent, when BLIND
is entered from DEFROSTING stays and is sent, as R92 keeps a queued notice until it is sent or replaced (log 56). -/
def enterBlind (s : State) : State :=
  match s.frost.stage with
  | .clear | .limiting | .deferred => setStage .blind s
  | .contending => withdraw .blind s
  | .lockout => setStage .blind { s with frost := { s.frost with lockoutEnd := none } }
  | .defrosting =>
    setStage .blind { s with frost := { s.frost with blindDefrost := true, meltStepEnd := none } }
  | .blind => s

/-- R91: the OUTER_PROBE fault is cleared. -/
def leaveBlind (s : State) : State :=
  if s.frost.stage = .blind then
    if s.frost.blindDefrost then
      let s1 := setStage .defrosting { s with frost := { s.frost with blindDefrost := false } }
      if s.seq.state = .defrost then startMelt s1 else s1
    else
      let s1 := forcedTest (setStage (stageByAccount s.frost.account) s)
      if s1.frost.stage = .limiting then wantTest s1 else s1
  else s

/-! ## LINE (R82) -/

/-- R82: the LINE fault is raised; a contention whose ENTER has not been sent is decided alone. -/
def frostOnLineRaised (s : State) : State :=
  if s.frost.stage = .contending ∧ s.frost.windowEnd = none then orderDefrost s else s

end Sys2Proof.Machine
end

