-- ==== Sys2Proof/Machine/ClimateFrontEnd.lean ====
section
/-! DEFINITION. The climate front end's operations: channels, samples, half records, outdoor temperature
and band (chapter 4). -/

namespace Sys2Proof.Machine

/-! ## Outdoor temperature and band (R65, R66, R68) -/

/-- R66: the outdoor temperature as evaluated now. -/
def outdoorNow (s : State) : Option Int :=
  if s.climate.outer.fault then none
  else if s.climate.ownOutdoorTime.any (fun x => s.now ≤ x + seconds 1800) then s.climate.ownOutdoor
  else match outdoorFallback s with
    | some t => some t
    | none => s.climate.outdoor

/-- R68: the band is re-formed by an outdoor temperature. -/
def reformBand (t : Int) (c : ClimateRec) : ClimateRec :=
  if c.bandFormed then { c with band := bandMove t c.band }
  else { c with band := bandDirect t, bandFormed := true }

/-- R66, R68: the outdoor temperature is evaluated; a new value re-forms the band. -/
def evaluateOutdoor (s : State) : State :=
  let v := outdoorNow s
  let c := { s.climate with outdoor := v }
  match v with
  | some t => if s.climate.outdoor = some t then s else { s with climate := reformBand t c }
  | none => { s with climate := c }

/-- R65: a valid SUPPLY record sets the own outdoor value. -/
def outdoorTakesRecord (r : HalfRecord) (s : State) : State :=
  if r.valid ∧ r.direction = some .supply then
    evaluateOutdoor { s with climate := { s.climate with ownOutdoor := r.outer, ownOutdoorTime := some r.close } }
  else s

/-! ## Half records (R60 to R64, R72) -/

/-- R62: a sample set counts for a record of a direction. -/
def SampleSet.countsFor (x : SampleSet) (d : Option Dir) : Bool :=
  d.isSome && x.tag = d && !x.innerFault && !x.outerFault

/-- R61: the duration in whole seconds, from the later of the open time and the last completion time. R2 speaks
of the elapsed time since S here; after a resync the two differ, and R61 is followed (DEDUCED, log 42). -/
def durationOf (c : ClimateRec) (now : Time) : Nat :=
  match c.openTime, c.lastCompletion with
  | some o, some l => min 600 ((now - max o l) / seconds 1)
  | some o, none => min 600 ((now - o) / seconds 1)
  | none, some l => min 600 ((now - l) / seconds 1)
  | none, none => 0

/-- R72: the moisture part of an EXTRACT record whose RH is present. -/
def moistureOf (d : Option Dir) (inner rh : Option Int) : Option Moisture :=
  match d, inner, rh with
  | some .extract, some t, some h => some ⟨absoluteHumidity h.toNat t, dewPoint (absoluteHumidity h.toNat t)⟩
  | _, _, _ => none

/-- R62: the mean RH, present when eight samples are counted and none carries the HUMIDITY flag. -/
def recordRh (counted : List SampleSet) : Option Int :=
  if counted.length = 8 ∧ counted.all (fun x => !x.rhFault) then meanInt (counted.filterMap (·.rh)) else none

/-- R61 to R63, R72: the record of the half that ends now; it reads the values that applied to that half. -/
def formRecord (s : State) : HalfRecord :=
  let d := directionTag s.lane s.seq.state
  let counted := s.climate.window.filter (·.countsFor d)
  let inner := meanInt (counted.filterMap (·.inner))
  let rh := recordRh counted
  { number := s.clock.c
    close := s.now
    endState := s.seq.state
    direction := d
    counted := counted.length
    inner := inner
    outer := meanInt (counted.filterMap (·.outer))
    rh := rh
    moisture := moistureOf d inner rh
    duration := if d.isSome then durationOf s.climate s.now else 0
    flowPercent := if d.isSome then (if s.fan.probeHold then 50 else s.demand.flowPercent) else 0
    settled := s.seq.settling == 0
    valid := counted.length == 8 && s.seq.settling == 0 }

/-- R60: the collection opens. -/
def openCollection (s : State) : State :=
  { s with climate := { s.climate with openTime := some s.now, window := [], lastCompletion := none } }

/-- R64: the record joins the ring, which keeps four. -/
def ringWith (r : HalfRecord) (ring : List HalfRecord) : List HalfRecord := (ring ++ [r]).drop (ring.length + 1 - 4)

/-- R60, R64: the record of the ended half joins the ring and the collection opens again. -/
def closeRecord (r : HalfRecord) (s : State) : State :=
  openCollection { s with climate := { s.climate with ring := ringWith r s.climate.ring } }

/-! ## Channels (R58, R59) -/

/-- What a sample did to a channel's fault. -/
inductive FaultChange where
  | kept | raised | cleared
  deriving DecidableEq, Repr

/-- R58: a channel acts on a code, converted where it is valid. -/
def Channel.step (c : Channel) (v : Option Int) : Channel :=
  match c.fault, v with
  | false, some x => { c with held := some x }
  | false, none => { c with fault := true, validRun := 0 }
  | true, some x =>
    if c.validRun + 1 = 10 then ⟨false, 0, some x⟩ else { c with validRun := c.validRun + 1 }
  | true, none => { c with validRun := 0 }

/-- R58: whether a step raised or cleared the fault. -/
def faultChange (before after : Channel) : FaultChange :=
  match before.fault, after.fault with
  | false, true => .raised
  | true, false => .cleared
  | _, _ => .kept

/-- R59: every record in the ring is marked invalid. -/
def spoilRing (s : State) : State :=
  { s with climate := { s.climate with ring := s.climate.ring.map (fun r => { r with valid := false }) } }

/-- R59: effects of the INNER channel's change. -/
def onInner (x : FaultChange) (s : State) : State :=
  match x with
  | .raised => abandonProbe (spoilRing s)
  | _ => s

/-- R59, R89, R91: effects of the OUTER channel's change. -/
def onOuter (x : FaultChange) (s : State) : State :=
  match x with
  | .raised =>
    let s1 := spoilRing s
    abandonProbe (enterBlind { s1 with climate := { s1.climate with
      ownOutdoor := none, ownOutdoorTime := none, outdoor := none } })
  | .cleared => leaveBlind s
  | .kept => s

/-- R59, R95: effects of the HUMIDITY channel's change. -/
def onHumidity (x : FaultChange) (s : State) : State :=
  match x with
  | .raised => humidFaultRaised s
  | .cleared => humidFaultCleared s
  | .kept => s

/-! ## The sample (R55) -/

/-- How many sample sets the model keeps of the sample stream: more than the ten seconds that R85 and
R102 read (log 8). -/
def streamLength : Nat := 16

/-- R55: the sample set formed from the channels, with the sequencer state in force at the sample. -/
def sampleSet (s : State) (st : SeqState) : SampleSet where
  time := s.now
  inner := s.climate.inner.held
  outer := s.climate.outer.held
  rh := s.climate.humidity.held
  innerFault := s.climate.inner.fault
  outerFault := s.climate.outer.fault
  rhFault := s.climate.humidity.fault
  state := st
  tag := directionTag s.lane st

/-- R55, R60: a sample set joins the sample stream, and the window while the collection is open. -/
def recordSample (x : SampleSet) (s : State) : State :=
  let c := s.climate
  let st := c.stream ++ [x]
  let w := c.window ++ [x]
  { s with climate := { c with
      stream := st.drop (st.length - streamLength)
      window := if c.openTime.isSome then w.drop (w.length - 8) else c.window } }

/-- R56: the conversion of a thermistor code, absent where it is invalid. -/
def convertThermistor (k : BitVec 12) : Option Int := if thermistorValid k then some (thermistorTemp k) else none

/-- R57: the conversion of a humidity code. -/
def convertHumidity (k : BitVec 12) : Option Int := if humidityValid k then some (humidityRh k) else none

/-- R58: the three channels act on their codes. -/
def stepChannels (i o h : BitVec 12) (c : ClimateRec) : ClimateRec :=
  { c with
    inner := c.inner.step (convertThermistor i)
    outer := c.outer.step (convertThermistor o)
    humidity := c.humidity.step (convertHumidity h) }

/-- R55: one sample of the three inputs. -/
def takeSample (i o h : BitVec 12) (s : State) : State :=
  let s1 := { s with climate := stepChannels i o h s.climate }
  let s2 := recordSample (sampleSet s1 s.seq.state) s1
  let s3 := onInner (faultChange s.climate.inner s1.climate.inner) s2
  let s4 := onOuter (faultChange s.climate.outer s1.climate.outer) s3
  let s5 := onHumidity (faultChange s.climate.humidity s1.climate.humidity) s4
  takeSpeedReading (evaluateOutdoor s5)

end Sys2Proof.Machine
end

