-- ==== Sys2Proof/Machine/HalfCycle.lean ====
section
/-! DEFINITION. The half-cycle clock's events: the half boundary and what every block does at it (R3), the
listen end (R17), the alignment to the reference (R11 to R14). -/

namespace Sys2Proof.Machine

/-! ## Half boundary (R3) -/

/-- R3: the clock's own part: c advances, S is the boundary time, L and E are the given ones. -/
def advanceClock (len : Nat) (e : Time) (s : State) : State :=
  { s with clock := { s.clock with
      c := s.clock.c + 1, startTime := some s.now, length := len, endTime := some e } }

/-- R27, R38, R126: the sequencer takes the boundary, and the start test follows its entry into a reversal. -/
def sequencerBoundary (s : State) : State :=
  startTestAtBoundary s.seq.state (sequencerAtBoundary (settleAtBoundary s))

/-- R59: a sample raises a thermistor fault. -/
def raisesThermistorFault (c : ClimateRec) : Instr → Bool
  | .sample i o _ _ => (!c.inner.fault && !thermistorValid i) || (!c.outer.fault && !thermistorValid o)
  | _ => false

/-- R59: a sample of this very instant, which waits behind the boundary, raises a thermistor fault (log 41). -/
def faultThisInstant (s : State) : Bool := (dueNow s).any (raisesThermistorFault s.climate)

/-- R59: the record as the frost guard and the humidity monitor receive it: not valid where a sample of the
boundary's instant raises a thermistor fault, whichever of the two is taken first. -/
def recordToMonitors (r : HalfRecord) (s : State) : HalfRecord := { r with valid := r.valid && !faultThisInstant s }

/-- R64: the readers take the record; the filter monitor judges before the frost guard (R132, log 4). -/
def handRecord (r : HalfRecord) (s : State) : State :=
  let m := recordToMonitors r s
  humidTakesRecord m (frostTakesRecord m (filterTakesRecord r (outdoorTakesRecord r (closeRecord r s))))

/-- R112, R120, R154: the level takes its rise, the demand unit recomputes, and a marked STATUS is asked for. -/
def closeBoundary (s : State) : State := requestStatus true (recompute (takeRise s))

/-- R3, R11: the half boundary event with a given new L and E. -/
def boundaryWith (len : Nat) (e : Time) (s : State) : State :=
  let r := formRecord s
  closeBoundary (frostAtBoundary (handRecord r (sequencerBoundary (advanceClock len e s))))

/-- R3, R4: the half boundary event with L and E by section 1.3, from the values in force when it is reached. -/
def boundary (s : State) : State := boundaryWith (nextLength s) (s.now + seconds (nextLength s)) s

/-- R3: local time has reached E while the running flag is set. -/
def boundaryDue (s : State) : Bool := s.clock.running && reached s.clock.endTime s.now

/-- R11, R13: a half boundary follows at once where local time has reached the new E. -/
def boundaryIfDue (s : State) : State := if boundaryDue s then boundary s else s

/-! ## Listen end (R17) -/

/-- R17: the FRESH running peer with the lowest station number. -/
def listenPeer (s : State) : Option StatusPart :=
  if s.line.active then none else ((s.peers.filter (·.counts)).head?).bind (·.status)

/-- R17: how many halves must be added before E is later than the present local time. -/
def halvesToAdd (now e : Time) (len : Nat) : Nat := if now < e then 0 else (now - e) / seconds len + 1

/-- R17: the count adopted from a peer's status part. -/
def adoptCount (p : StatusPart) (s : State) : State :=
  let k := halvesToAdd s.now p.endEstimate p.halfLength
  { s with clock := { s.clock with
      c := p.half + byte k
      endTime := some (p.endEstimate + k * seconds p.halfLength)
      startTime := some s.now
      length := p.halfLength
      heardLength := some p.halfLength } }

/-- R17: the count begun afresh. -/
def startCount (s : State) : State :=
  { s with clock := { s.clock with
      c := 0
      endTime := some (s.now + seconds (ownLength s))
      startTime := some s.now
      length := ownLength s } }

/-- R17, R26, R60, R101: the clock starts and cycling begins. -/
def startCycling (s : State) : State :=
  let s1 := match listenPeer s with
    | some p => adoptCount p s
    | none => startCount s
  let s2 := reformReference { s1 with clock := { s1.clock with listenEnd := none, running := true } }
  beginCycling (openCollection (humidOnListenEnd s2))

/-! ## Alignment (R11 to R14) -/

/-- R13, R14: a resync to the reference's h, E_ref and L_ref. Where E_ref is not later than local time as well, the
notice of a changed lane direction is taken before the half boundary (DESIGN CHOICE, log 48). -/
def resync (p : StatusPart) (s : State) : State :=
  let s1 := { s with clock := { s.clock with
      c := p.half, endTime := some p.endEstimate, length := p.halfLength, startTime := some s.now } }
  let s2 :=
    if laneDirectionNow s1 = laneDirectionNow s then s1
    else abandonProbe (sequencerOnNotice (laneDirectionNow s1) s1)
  boundaryIfDue s2

/-- R12: the station has been ahead for more than a quarter of its L, in whole tenths. -/
def aheadTooLong (s : State) : Bool := 10 * s.clock.length / 4 < inTenths (elapsed s)

/-- R11: the clock compares c with the reference's h. -/
def alignTo (p : StatusPart) (s : State) : State :=
  let s1 := { s with clock := { s.clock with heardLength := some p.halfLength } }
  if s.clock.c = p.half then
    boundaryIfDue { s1 with clock := { s1.clock with endTime := some p.endEstimate, length := p.halfLength } }
  else if s.clock.c + 1 = p.half then
    boundaryIfDue (boundaryWith p.halfLength p.endEstimate s1)
  else if s.clock.c = p.half + 1 then
    (if aheadTooLong s then resync p s1 else s1)
  else resync p s1

/-- R11: alignment acts on a STATUS from station `n` while the running flag is set and the sender is the
reference identity. -/
def alignment (n : Nat) (p : StatusPart) (s : State) : State :=
  if s.clock.running ∧ s.clock.reference = some n then alignTo p s else s

end Sys2Proof.Machine
end

