-- ==== Sys2Proof/Machine/PeerTable.lean ====
section
/-! DEFINITION. The peer table: entering frames, ageing, removal, house mode record (chapter 9). -/

namespace Sys2Proof.Machine

/-! ## Records (R135, R136) -/

/-- The record of a station number. -/
def findPeer (ps : List PeerRec) (n : Nat) : Option PeerRec := ps.find? (·.number = n)

/-- R135: a record joins in rising order of station number, in place of one with the same number. -/
def insertPeer (r : PeerRec) : List PeerRec → List PeerRec
  | [] => [r]
  | p :: ps =>
    if r.number < p.number then r :: p :: ps
    else if r.number = p.number then r :: ps
    else p :: insertPeer r ps

/-- The table with one record replaced or created. -/
def putPeer (r : PeerRec) (s : State) : State := { s with peers := insertPeer r s.peers }

/-- The record changed by `f` where it stands. -/
def updatePeer (n : Nat) (f : PeerRec → PeerRec) (s : State) : State :=
  { s with peers := s.peers.map (fun p => if p.number = n then f p else p) }

/-- R136 steps 1 and 2: the record of a frame's sender, created or refreshed. -/
def heardPeer (ps : List PeerRec) (n : Nat) (arrival : Time) : PeerRec :=
  match findPeer ps n with
  | some p => { p with lastHeard := arrival, fresh := true }
  | none => ⟨n, arrival, true, none, none⟩

/-! ## Defrost part (R138) -/

/-- R138: a STATUS that announces state DEFROST or frost stage DEFROSTING. -/
def StatusPart.defrosting (p : StatusPart) : Bool := p.state = some .defrost || p.stage = .defrosting

/-- R138: the defrost part after a STATUS. -/
def partAfterStatus (d : Option DefrostPart) (p : StatusPart) (arrival : Time) : Option DefrostPart :=
  if p.defrosting then
    match d with
    | some x => some { x with standing := .defrosting }
    | none => some ⟨.defrosting, p.frostAccount, false, arrival⟩
  else
    match d with
    | some x => if x.standing = .defrosting then some { x with standing := .none } else some x
    | none => none

/-- R138: the defrost part after a DEFROST notice. WITHDRAW and LEAVE leave an absent part absent (log 18). -/
def partAfterNotice (d : Option DefrostPart) (n : HeardNotice) (arrival : Time) : Option DefrostPart :=
  match n.action with
  | some .enter => some ⟨.contending, n.account, n.forced, arrival⟩
  | some _ => d.map (fun x => { x with standing := .none })
  | none => d

/-- The standing that a defrost part shows (R135: absent counts as NONE). -/
def standingOf (d : Option DefrostPart) : Standing := (d.map (·.standing)).getD .none

/-- R138: a standing has fallen to NONE. -/
def placeFreed (before after : Option DefrostPart) : Bool :=
  standingOf before ≠ .none && standingOf after = .none

/-! ## House mode record (R143 to R145) -/

/-- R144: an offer is adopted. -/
def adopts (h : HouseMode) (o : Offer) : Bool :=
  o.mode.isSome && 1 ≤ o.origin && o.origin ≤ 16 &&
    (newer h.stamp o.stamp || (o.stamp == h.stamp && o.origin < h.origin))

/-- R144: the record after an offer. -/
def offered (h : HouseMode) (o : Offer) : HouseMode :=
  match o.mode with
  | some m => if adopts h o then ⟨m, o.summer, o.stamp, o.origin⟩ else h
  | none => h

/-- R145: the record becomes `h`; a change of the mode forms the requested level again (R111). -/
def setHouse (h : HouseMode) (s : State) : State :=
  let s1 := { s with house := h }
  if s.house.mode = h.mode then s1 else reformLevels s1

/-- R144, R163: an offer is weighed; `call` says that it came in a MODE call, whose adoption may wake. -/
def weighOffer (o : Offer) (call : Bool) (s : State) : State :=
  let h := offered s.house o
  let s1 := setHouse h s
  if call ∧ s.cfg.wake.houseModeCall ∧ (h.mode ≠ s.house.mode ∨ h.summer ≠ s.house.summer) then wake s1 else s1

/-! ## Calls (R110, R163) -/

/-- R110: a BOOST call from station `n`. -/
def heardBoost (bs : List Byte) (n : Nat) (s : State) : State :=
  match boostOfCode (byteAt bs 1) with
  | some .start =>
    let s1 := push ⟨.houseBoost, n, clampNat 40 100 (byteAt bs 2),
      some (s.now + minutes (clampNat 5 60 (byteAt bs 3)))⟩ s
    if s.cfg.wake.houseBoostCall then wake s1 else s1
  | some .cancel => removeEntry .houseBoost n s
  | none => s

/-! ## Entering a frame (R136) -/

/-- R138: a report of a place freed leads to the want test (R78). -/
def reportPlace (freed : Bool) (s : State) : State := if freed then wantTest s else s

/-- R136: a valid STATUS from station `n`. -/
def enterStatus (bs : List Byte) (n : Nat) (arrival : Time) (s : State) : State :=
  let p := statusPartOf bs arrival
  let r := heardPeer s.peers n arrival
  let d := partAfterStatus r.defrost p arrival
  let s1 := reformReference (putPeer { r with status := some p, defrost := d } s)
  alignment n p (reportPlace (placeFreed r.defrost d) (weighOffer (statusOffer bs) false s1))

/-- R136: a valid DEFROST notice from station `n`. -/
def enterNotice (bs : List Byte) (n : Nat) (arrival : Time) (s : State) : State :=
  let r := heardPeer s.peers n arrival
  let d := partAfterNotice r.defrost (noticeOf bs) arrival
  reportPlace (placeFreed r.defrost d) (reformReference (putPeer { r with defrost := d } s))

/-- R136: a valid MODE call from station `n`. -/
def enterModeCall (bs : List Byte) (n : Nat) (arrival : Time) (s : State) : State :=
  weighOffer (modeOffer bs n) true (reformReference (putPeer (heardPeer s.peers n arrival) s))

/-- R136: a valid BOOST call from station `n`. -/
def enterBoostCall (bs : List Byte) (n : Nat) (arrival : Time) (s : State) : State :=
  heardBoost bs n (reformReference (putPeer (heardPeer s.peers n arrival) s))

/-- R136: the peer table enters a valid frame from station `n`. -/
def enterFrame (bs : List Byte) (n : Nat) (arrival : Time) (s : State) : State :=
  match frameKind bs with
  | some .status => enterStatus bs n arrival s
  | some .defrost => enterNotice bs n arrival s
  | some .mode => enterModeCall bs n arrival s
  | some .boost => enterBoostCall bs n arrival s
  | none => s

/-! ## Ageing and removal (R137, R138) -/

/-- R137: the age of a record is greater than a length of time. -/
def PeerRec.olderThan (p : PeerRec) (now d : Time) : Bool := p.lastHeard + d < now

/-- R137: the record of station `n` becomes STALE. -/
def makeStale (p : PeerRec) (s : State) : State :=
  reportPlace (standingOf p.defrost ≠ .none)
    (reformReference (updatePeer p.number (fun x => { x with fresh := false }) s))

/-- R110, R137: the record is removed, with its origin's HOUSE_BOOST entry. -/
def removePeer (p : PeerRec) (s : State) : State :=
  reportPlace (standingOf p.defrost ≠ .none)
    (removeEntry .houseBoost p.number
      (reformReference { s with peers := s.peers.filter (fun x => x.number ≠ p.number) }))

/-- R138: a CONTENDING standing falls to NONE; for a FRESH record a place freed is reported. -/
def fallBack (p : PeerRec) (s : State) : State :=
  reportPlace p.fresh
    (updatePeer p.number (fun x => { x with defrost := x.defrost.map (fun d => { d with standing := .none }) }) s)

/-- R138: the notice time of a CONTENDING standing is more than 5.0 s in the past. At exactly 5.0 s, where the
sequence of 9.6.2 lets it fall, it stands (DEDUCED, log 51). -/
def PeerRec.fallbackDue (p : PeerRec) (now : Time) : Bool :=
  p.defrost.any (fun d => d.standing = .contending && d.time + seconds 5 < now)

/-- R145: a local origination with the given mode and summer flag. -/
def originate (m : Mode) (summer : Bool) (s : State) : State :=
  setHouse ⟨m, summer, s.house.stamp + 1, ownNumber s⟩ s

end Sys2Proof.Machine
end

