-- ==== Sys2Proof/Machine/LineInterface.lean ====
section
/-! DEFINITION. The line interface's operations: beginning, losing, sending and receiving frames, the
stuck line (chapter 10). -/

namespace Sys2Proof.Machine

/-! ## Beginning a frame (R149) -/

/-- One bit at 9600 bit/s in the unit of the idle time, a 24th of a tick: 26.0417 ticks. -/
def bitTime : Nat := 625

/-- R149: the idle time has reached 3 character times, 30 bits. -/
def idleLongEnough (d : Nat) : Bool := 30 * bitTime ≤ d

/-- R155: a gap of more than 2 character times, 20 bits (520.83 ticks), in whole ticks. -/
def gapTime : Nat := 24 * 521

/-- R148: how long a character leaves the line recessive at its end: its stop bit, and the ones that end its
data bits, most significant first. -/
def recessiveTail (b : Byte) : Nat :=
  bitTime * (1 + ((List.range 8).takeWhile (fun i => b.getLsbD i)).length)

/-- The recessive end of the last of some characters. -/
def tailOf (bs : List Byte) : Nat := (bs.getLast?.map recessiveTail).getD 0

/-- R149: the pending slot with the lowest kind code. -/
def LineRec.lowestPending (l : LineRec) : Option FrameKind :=
  if l.defrostSlot.pending then some .defrost
  else if l.modeSlot.pending then some .mode
  else if l.boostSlot.pending then some .boost
  else if l.statusSlot.pending then some .status
  else none

/-- R148, R149: a frame may begin. -/
def mayBegin (s : State) : Bool := s.strapsRead && s.line.quiet && idleLongEnough s.line.idleTime

/-- R149: the body of a frame that begins now. A MODE slot without a stored body would send the house mode
record (log 33). -/
def frameBody (s : State) : FrameKind → List Byte
  | .defrost => noticeBody s.frost.notice s.frost.account
  | .mode => modeBody (s.line.modeBody.getD s.house)
  | .boost => (s.line.boostBody.map boostBody).getD []
  | .status => statusBody s s.line.statusMark (timeRemaining s)

/-- R149: a frame of a kind begins. -/
def beginFrame (k : FrameKind) (s : State) : State :=
  { s with line := { s.line with
      transmission := some ⟨k, frameOf k s.stationIndex (frameBody s k), s.now⟩
      idleTime := 0 } }

/-- R149: the lowest pending slot's frame begins. -/
def startFrame (s : State) : State :=
  match s.line.lowestPending with
  | some k => beginFrame k s
  | none => s

/-! ## Losing a frame (R150, R151) -/

/-- The header of the frame being sent. -/
def Transmission.header (x : Transmission) : Byte := x.bytes.getD 0 0

/-- R150: the header read back shows a lower header than the one sent. -/
def losesTo (h : Byte) (l : LineRec) : Bool := l.transmission.any (fun x => h < x.header)

/-- R150: contention is lost; the assembly takes the header as read back. -/
def loseContention (h : Byte) (s : State) : State :=
  match s.line.transmission with
  | some x => { s with line := { s.line with
      transmission := none, assembly := [h], arrival := x.start, idleTime := 0 } }
  | none => s

/-- R151: the collision count after a collision of a kind, before it is tested against 3. -/
def LineRec.collisionsWith (l : LineRec) (k : FrameKind) : Nat :=
  if l.collisionKind = some k then l.collisions + 1 else 1

/-- R151: a collision in the frame being sent; the third of a kind raises DUPLICATE. The other sender completes its
frame, whose last dominant bit has passed at `restEnd` (log 40). -/
def collide (restEnd : Time) (x : Transmission) (s : State) : State :=
  let k := x.kind
  let n := s.line.collisionsWith k
  let l := { s.line with transmission := none, idleTime := 0, busyUntil := some restEnd }
  if 3 ≤ n then
    { s with
      line := { l with collisions := 0, collisionKind := none }
      ctl := { s.ctl with duplicate := true } }
  else { s with line := { l with collisions := n, collisionKind := some k } }

/-- R151: a collision in the frame being sent. -/
def takeCollision (restEnd : Time) (s : State) : State :=
  match s.line.transmission with
  | some x => collide restEnd x s
  | none => s

/-! ## A frame sent (R152) -/

/-- R152: the stored content of a kind leaves with its slot. -/
def LineRec.dropContent (l : LineRec) : FrameKind → LineRec
  | .defrost => l
  | .mode => { l with modeBody := none }
  | .boost => { l with boostBody := none }
  | .status => { l with statusMark := false }

/-- R152: the slot of a kind after its frame has been sent. -/
def LineRec.sent (l : LineRec) (k : FrameKind) : LineRec :=
  if (l.slot k).reRequest then l.setSlot k ⟨true, false⟩ else (l.setSlot k Slot.empty).dropContent k

/-- R152: the sending is reported. -/
def reportSent (x : Transmission) (s : State) : State :=
  match x.kind with
  | .defrost => noticeSent x.bytes s
  | .status => { s with line := { s.line with statusPeriodEnd := some (s.now + seconds 20) } }
  | .mode | .boost => s

/-- R151, R152: the line interface's record after a frame has been sent; the line is recessive since the last
dominant bit of its check byte (R148). -/
def LineRec.afterSending (l : LineRec) (x : Transmission) : LineRec :=
  { l.sent x.kind with transmission := none, collisions := 0, collisionKind := none, idleTime := tailOf x.bytes }

/-- R152: the frame being sent has been sent to its end. -/
def completeFrame (s : State) : State :=
  match s.line.transmission with
  | some x => reportSent x { s with line := s.line.afterSending x }
  | none => s

/-! ## Receiving (R155, R156) -/

/-- R148, R157: frames are received once the straps have been read, while LINE is clear and nothing is sent. -/
def receives (s : State) : Bool := s.strapsRead && !s.line.active && s.line.transmission.isNone

/-- The arrival time of the frame being closed: the assembly's own, or the one of a frame that opened it. -/
def arrivalOf (l : LineRec) (arrival : Time) : Time := if l.assembly.isEmpty then arrival else l.arrival

/-- R151: a frame that began before the end of the frame that goes on after a collision is the rest of that
frame, which is not taken as a reception. -/
def restOfOtherFrame (arrival : Time) (l : LineRec) : Bool := l.busyUntil.any (arrivalOf l arrival < ·)

/-- R155: the assembly empties; the line has then been recessive for a gap and the given recessive end of the
last character. -/
def emptyAssembly (tail : Nat) (s : State) : State :=
  { s with line := { s.line with assembly := [], idleTime := gapTime + tail } }

/-- R156: a frame with the own index. -/
def hearOwnIndex (s : State) : State := { s with ctl := { s.ctl with duplicate := true } }

/-- R155, R156: a valid frame goes to the peer table, unless it carries the own index. -/
def passFrame (bs : List Byte) (arrival : Time) (s : State) : State :=
  if frameIndex bs = s.stationIndex.toNat then hearOwnIndex s
  else enterFrame bs (frameIndex bs + 1) arrival s

/-- R155: whether some character of the frame is spoilt. -/
def frameSpoilt : StopBits → Bool
  | .recessive => false
  | .earlierDominant | .lastDominant => true

/-- R148: the recessive end of a frame's last character: none of it where its stop bit reads dominant. -/
def tailAfter (bs : List Byte) : StopBits → Nat
  | .lastDominant => 0
  | .recessive | .earlierDominant => tailOf bs

/-- R155: the frame is closed and checked. -/
def closeFrame (chars : List Byte) (stops : StopBits) (arrival : Time) (s : State) : State :=
  let bs := s.line.assembly ++ chars
  let s1 := emptyAssembly (tailAfter bs stops) s
  if frameValid bs (frameSpoilt stops) then passFrame bs (arrivalOf s.line arrival) s1 else s1

/-! ## Status period (R154) -/

/-- R154: the period end becomes absent and a STATUS is requested. -/
def endStatusPeriod (s : State) : State :=
  requestStatus false { s with line := { s.line with statusPeriodEnd := none } }

/-! ## Stuck line (R157) -/

/-- R157: LINE becomes active. The collision kind goes with its count (DEDUCED, log 36). -/
def raiseLine (dominant : Time) (s : State) : State :=
  frostOnLineRaised (reformReference { s with line := { s.line with
    active := true, stuckTime := dominant, transmission := none, assembly := []
    collisions := 0, collisionKind := none, idleTime := 0, busyUntil := none } })

/-- R157: LINE becomes clear. -/
def clearLine (recessive : Time) (s : State) : State :=
  reformReference { s with line := { s.line with active := false, stuckTime := 0, idleTime := 24 * recessive } }

end Sys2Proof.Machine
end

