-- ==== Sys2Proof/Machine/LocalControls.lean ====
section
/-! DEFINITION. The local control interface's operations: debounced levels, gestures, originations
(chapter 11). -/

namespace Sys2Proof.Machine

/-! ## Boost gestures (R109, R161) -/

/-- R109: the level of the local boost. -/
def localBoostLevel (c : RoomClass) : Nat := if c = .kitchen then 100 else 80

/-- R163: the BOOST gesture's wake request. -/
def wakeByGesture (s : State) : State := if s.cfg.wake.boostGesture then wake s else s

/-- R161: the short press acts on the stack. -/
def toggleLocalBoost (s : State) : State :=
  if stands s .localBoost (ownNumber s) then removeEntry .localBoost (ownNumber s) s
  else push ⟨.localBoost, ownNumber s, localBoostLevel s.roomClass, some (s.now + minutes s.cfg.localBoost)⟩ s

/-- R161: the long press acts on the stack, and its call is queued. -/
def toggleHouseBoost (s : State) : State :=
  if stands s .houseBoost (ownNumber s) then
    queueBoost ⟨.cancel, 90, s.cfg.houseBoost⟩ (removeEntry .houseBoost (ownNumber s) s)
  else
    queueBoost ⟨.start, 90, s.cfg.houseBoost⟩
      (push ⟨.houseBoost, ownNumber s, 90, some (s.now + minutes s.cfg.houseBoost)⟩ s)

/-- R161, R163: a short press. -/
def shortPress (s : State) : State := wakeByGesture (toggleLocalBoost s)

/-- R161, R163: a long press. -/
def longPress (s : State) : State := wakeByGesture (toggleHouseBoost s)

/-- R161: the gesture of a release after a press of this length; from 5.0 s on it is none (log 28). -/
def pressOf (length : Time) (s : State) : State :=
  if length < seconds 2 then shortPress s
  else if length < seconds 5 then longPress s
  else s

/-- The BOOST gesture record takes a stage; a press start stands in PRESSED alone. -/
def setBoostStage (g : GestureStage) (start : Option Time) (s : State) : State :=
  { s with ctl := { s.ctl with boostStage := g, boostStart := start } }

/-- The FILTER gesture record takes a stage. -/
def setFilterStage (g : GestureStage) (start : Option Time) (s : State) : State :=
  { s with ctl := { s.ctl with filterStage := g, filterStart := start } }

/-- How long a press has lasted. -/
def pressLength (start : Option Time) (now : Time) : Time := now - start.getD now

/-- R161: the BOOST button's debounced level has changed. -/
def boostLevel (v : Level) (s : State) : State :=
  match s.ctl.boostStage, v with
  | .waitRelease, .high => setBoostStage .released none s
  | .released, .low => setBoostStage .pressed (some s.now) s
  | .pressed, .high => pressOf (pressLength s.ctl.boostStart s.now) (setBoostStage .released none s)
  | .taken, .high => setBoostStage .released none s
  | _, _ => s

/-- R162: the FILTER button's debounced level has changed. -/
def filterLevel (v : Level) (s : State) : State :=
  match s.ctl.filterStage, v with
  | .waitRelease, .high | .pressed, .high | .taken, .high => setFilterStage .released none s
  | .released, .low => setFilterStage .pressed (some s.now) s
  | _, _ => s

/-- R161: the hold goes to the sequencer. -/
def takeHold (s : State) : State :=
  let s1 := setBoostStage .taken none s
  if s1.seq.state = .stopped then release s1 else offToggle s1

/-- R162: the filter reset is taken. -/
def takeFilterReset (s : State) : State := resetFilter (setFilterStage .taken none s)

/-! ## Switches (R159, R160) -/

/-- R160: the mode of an origination. -/
def originMode (s : State) : Mode := if s.ctl.fitted then s.ctl.modeTaken.getD s.house.mode else s.house.mode

/-- R160: a mode origination, with its MODE call. -/
def originateHere (s : State) : State := queueMode (originate (originMode s) s.ctl.summerOn s)

/-- R160: the SW_SUMMER line's debounced level has changed. -/
def summerLevel (v : Level) (s : State) : State :=
  originateHere { s with ctl := { s.ctl with summerOn := v = .low } }

/-- R159, R160, R163: a new mode position is taken. -/
def takePosition (m : Mode) (s : State) : State :=
  let s1 := originateHere { s with ctl := { s.ctl with modeTaken := some m } }
  if s1.cfg.wake.modeSwitch then wake s1 else s1

/-- R159: the raw pair shows a new real position while a switch is fitted. -/
def newPosition (mode1 mode0 : Level) (s : State) : Option Mode :=
  if started s && s.ctl.fitted && positionOf mode1 mode0 ≠ s.ctl.modeTaken then positionOf mode1 mode0 else none

/-! ## Debounced levels (R158) -/

/-- R158: the debounced level of a line becomes its raw level. -/
def setLevel (c : ControlLine) (v : Level) (s : State) : State :=
  { s with ctl := { s.ctl with levels := LineLevels.set s.ctl.levels c v } }

/-- R158: what a changed debounced level leads to from the end of STARTING. -/
def levelChanged (c : ControlLine) (v : Level) (s : State) : State :=
  match c with
  | .boost => boostLevel v s
  | .filter => filterLevel v s
  | .summer => summerLevel v s
  | .mode1 | .mode0 => s

/-- R158: a raw level becomes the debounced level of its line. -/
def debounceLine (c : ControlLine) (v : Level) (s : State) : State :=
  let s1 := setLevel c v s
  if started s then levelChanged c v s1 else s1

/-! ## End of STARTING (R158, R159, R161, R162) -/

/-- R161, R162: WAIT_RELEASE is left where the line is high. -/
def releasedAt (v : Level) : GestureStage := if v = .high then .released else .waitRelease

/-- R143, R159: a fitted switch seeds the house mode record's mode. -/
def seedMode (mode1 mode0 : Level) (s : State) : State :=
  match positionOf mode1 mode0 with
  | some m =>
    setHouse { s.house with mode := m } { s with ctl := { s.ctl with fitted := true, modeTaken := some m } }
  | none => s

/-- R158, R159: the interface takes the lines at the end of STARTING (log 12). -/
def takeLines (raw : LineLevels) (s : State) : State :=
  seedMode raw.mode1 raw.mode0 { s with ctl := { s.ctl with
    levels := raw
    summerOn := raw.summer = .low
    boostStage := releasedAt raw.boost
    filterStage := releasedAt raw.filter } }

end Sys2Proof.Machine
end

