-- ==== Sys2Proof/Machine/Loader.lean ====
section
/-! DEFINITION. The start-up loader's operations: reset and straps, the two records, the end of STARTING
(chapter 12). -/

namespace Sys2Proof.Machine

/-! ## Reset and straps (R167, R168) -/

/-- R167, R168: the cause of reset is removed, and the straps are read and handed to their blocks (R94, R143,
R148, R154). -/
def readStraps (index : BitVec 4) (lane : BitVec 1) (cl : BitVec 2) (s : State) : State :=
  requestStatus false { s with
    strapsRead := true
    stationIndex := index
    lane := laneOfStrap lane
    roomClass := classOfStraps cl
    house := { s.house with origin := index.toNat + 1 }
    inReset := false
    humid := { s.humid with
      state := if classOfStraps cl = .dry ∨ s.climate.humidity.fault then .disabled else .seeding } }

/-- R167: every block takes its reset value; what waits in the queue is outside the block. -/
def resetBlocks (s : State) : State := { State.reset with pending := s.pending }

/-! ## The configuration record (R169) -/

/-- R169: the configuration bytes have been read, or not. -/
def takeConfig (r : Option (List Byte)) (s : State) : State :=
  match r with
  | none => { s with loader := { s.loader with config := some ConfigRecord.defaults } }
  | some bs =>
    let l := { s.loader with configBytes := bs, writeEnabled := true }
    if byteSum bs = 0 then { s with loader := { l with config := some (configOf bs) } }
    else { s with
      loader := { l with config := some ConfigRecord.defaults }
      ctl := { s.ctl with config := true } }

/-! ## The filter record (R170) -/

/-- R169, R170: the filter bytes have been read, or not; after a configuration read that was not
acknowledged they are not read. -/
def takeFilterBytes (c : ConfigRecord) (r : Option (List Byte)) (s : State) : State :=
  let dflt := { s.loader with filterValues := some (filterDefaults c), writeEnabled := false }
  if s.loader.writeEnabled then
    match r with
    | none => { s with loader := dflt }
    | some bs => { s with loader := { s.loader with
        filterBytes := bs
        filterValues := some (if byteSum bs = 0 then filterValuesOf bs else filterDefaults c) } }
  else { s with loader := dflt }

/-- R105: the starting levels. -/
def startLevels (s : State) : State :=
  { s with demand := { s.demand with requested := wantedLevel s, active := wantedLevel s } }

/-- R170: the end of STARTING: the values go to their owners and the sequencer passes to LISTEN. The mode
lines seed the house mode record before the starting levels are formed (DESIGN CHOICE, log 45). The clock
takes the reference identity that it has held at none through STARTING (R1, log 16). -/
def endStarting (c : ConfigRecord) (raw : LineLevels) (s : State) : State :=
  let v := s.loader.filterValues.getD (filterDefaults c)
  let s1 := takeLines raw (takeFilterValues v { s with cfg := c })
  reformReference (enterListen (recompute (startLevels s1)))

/-- R169, R170: the configuration values wait in the load buffer. -/
def awaitsFilterRecord (s : State) : Bool := !started s && s.loader.config.isSome

/-- R168, R169: the straps have been read and the configuration record has not. -/
def awaitsConfigRecord (s : State) : Bool := !started s && s.strapsRead && s.loader.config.isNone

/-- R170: the filter record is read or defaulted, and STARTING ends. -/
def takeFilterRecord (r : Option (List Byte)) (raw : LineLevels) (s : State) : State :=
  match s.loader.config with
  | some c => endStarting c raw (takeFilterBytes c r s)
  | none => s

/-! ## Write-back (R172) -/

/-- R172: a write fails. -/
def failWrite (s : State) : State := endWrite { s with ctl := { s.ctl with memory := true } }

end Sys2Proof.Machine
end

