-- ==== Sys2Proof/Machine/BoostCommands.lean ====
section
/-! DEFINITION. The commands of boosts: the cap (R99), the rest check (R102) and the expiry of an entry (R108). -/

namespace Sys2Proof.Machine

/-- R99: 3600.0 s have passed since the boost began. -/
def capReached (s : State) : Bool :=
  s.humid.state = .boosting && reached (s.humid.boostStart.map (· + seconds 3600)) s.now

/-- BOOST_CAP (R99). -/
def execBoostCap (t : Time) (s : State) : Host.Outcome State Fault Refusal :=
  event t capReached (endBoost .rearming) s

/-- R102: local time has reached the next rest check in REST. -/
def restCheckDue (s : State) : Bool := s.seq.state = .rest && reached s.humid.nextRestCheck s.now

/-- R102: the rest reading of a check at `e`. -/
def restReading (s : State) (e : Time) : Option Int :=
  meanInt (s.climate.stream.filterMap (fun x =>
    if e ≤ x.time + seconds 10 ∧ x.time < e ∧ x.rhFault = false then x.rh else none))

/-- R102: the monitor acts on a rest reading. -/
def takeRestReading (rh : Int) (s : State) : State :=
  match s.humid.state with
  | .seeding | .watching =>
    if ceiling s ≤ rh ∧ s.cfg.wake.humidityCeiling then startBoost (wake s) else s
  | .rearming => if dryRh s rh then { s with humid := { s.humid with state := restingState s } } else s
  | _ => s

/-- R102: a rest check at `e`. -/
def restCheckAt (e : Time) (s : State) : State :=
  let s1 := { s with humid := { s.humid with nextRestCheck := some (e + seconds 60) } }
  match restReading s e with
  | some rh => takeRestReading rh s1
  | none => s1

/-- R102: the rest check that stands. -/
def restCheck (s : State) : State :=
  match s.humid.nextRestCheck with
  | some e => restCheckAt e s
  | none => s

/-- REST_CHECK (R102). -/
def execRestCheck (t : Time) (s : State) : Host.Outcome State Fault Refusal := event t restCheckDue restCheck s

/-- R108: an entry of this source and origin has run out. -/
def runOut (src : Source) (origin : Nat) (s : State) : Bool :=
  s.demand.stack.any (fun e => e.is src origin && reached e.expiry s.now)

/-- OVERRIDE_EXPIRY (R108). -/
def execOverrideExpiry (src : Source) (origin : Nat) (t : Time) (s : State) : Host.Outcome State Fault Refusal :=
  event t (runOut src origin) (removeEntry src origin) s

end Sys2Proof.Machine
end

