-- ==== Sys2Proof/Machine/ControlCommands.lean ====
section
/-! DEFINITION. The commands of the wall control: chapter 11. -/

namespace Sys2Proof.Machine

/-- R158: the raw level differs from the debounced level of its line. -/
def levelDiffers (line : ControlLine) (level : Level) (s : State) : Bool := LineLevels.get s.ctl.levels line ≠ level

/-- DEBOUNCE (R158). -/
def execDebounce (line : ControlLine) (level : Level) (t : Time) (s : State) : Host.Outcome State Fault Refusal :=
  event t (levelDiffers line level) (debounceLine line level) s

/-- R161: the BOOST button has been down for 5.0 s. -/
def holdDue (s : State) : Bool := s.ctl.boostStage = .pressed && reached (s.ctl.boostStart.map (· + seconds 5)) s.now

/-- HOLD (R161). -/
def execHold (t : Time) (s : State) : Host.Outcome State Fault Refusal := event t holdDue takeHold s

/-- R162: the FILTER button has been down for 3.0 s. -/
def filterResetDue (s : State) : Bool :=
  s.ctl.filterStage = .pressed && reached (s.ctl.filterStart.map (· + seconds 3)) s.now

/-- FILTER_RESET (R133, R162). -/
def execFilterReset (t : Time) (s : State) : Host.Outcome State Fault Refusal :=
  event t filterResetDue takeFilterReset s

/-- R159: the raw pair's position is taken where it is a new real one. -/
def takePair (mode1 mode0 : Level) (s : State) : State :=
  match newPosition mode1 mode0 s with
  | some m => takePosition m s
  | none => s

/-- MODE_POSITION_TAKEN (R159). -/
def execModePositionTaken (mode1 mode0 : Level) (t : Time) (s : State) : Host.Outcome State Fault Refusal :=
  command t (takePair mode1 mode0) s

end Sys2Proof.Machine
end

