-- ==== Sys2Proof/Machine/CycleCommands.lean ====
section
/-! DEFINITION. The commands of the half-cycle clock: R3 and R17. -/

namespace Sys2Proof.Machine

/-- R16, R17: local time has reached the listen end time in LISTEN. -/
def listenOver (s : State) : Bool := s.seq.state = .listen && reached s.clock.listenEnd s.now

/-- LISTEN_END (R17). -/
def execListenEnd (t : Time) (s : State) : Host.Outcome State Fault Refusal := event t listenOver startCycling s

/-- HALF_BOUNDARY (R3). -/
def execHalfBoundary (t : Time) (s : State) : Host.Outcome State Fault Refusal := event t boundaryDue boundary s

end Sys2Proof.Machine
end

