-- ==== Sys2Proof/Machine/FrostCommands.lean ====
section
/-! DEFINITION. The commands of the frost guard: chapter 5. -/

namespace Sys2Proof.Machine

/-- R80: local time has reached the window end time in CONTENDING. -/
def windowOver (s : State) : Bool := s.frost.stage = .contending && reached s.frost.windowEnd s.now

/-- CONTENTION_WINDOW_END (R80). -/
def execContentionWindowEnd (t : Time) (s : State) : Host.Outcome State Fault Refusal :=
  event t windowOver decideWindow s

/-- R85: local time has reached the melt step end in DEFROSTING. -/
def meltStepOver (s : State) : Bool := s.frost.stage = .defrosting && reached s.frost.meltStepEnd s.now

/-- R85, R86: the melt step that stands closes. -/
def closeStep (s : State) : State :=
  match s.frost.meltStepEnd with
  | some e => closeMeltStep e s
  | none => s

/-- MELT_STEP_END (R85). -/
def execMeltStepEnd (t : Time) (s : State) : Host.Outcome State Fault Refusal := event t meltStepOver closeStep s

/-- R86, R90: 900.0 s have passed since the defrost was ordered. -/
def fifteenMinutes (s : State) : Bool := reached (s.frost.defrostStart.map (· + seconds 900)) s.now

/-- R86: the limit is reached with A above 100. DESIGN CHOICE: with A at 100 or less it ends nothing, as the table of
R86 asks, and the defrost stands until a melt step clears it (log 57). -/
def defrostTimedOut (s : State) : Bool :=
  s.frost.stage = .defrosting && fifteenMinutes s && 100 < s.frost.account

/-- DEFROST_TIME_LIMIT (R86). -/
def execDefrostTimeLimit (t : Time) (s : State) : Host.Outcome State Fault Refusal :=
  event t defrostTimedOut timeOutDefrost s

/-- R90: a blind defrost has run for 900.0 s. -/
def blindDefrostOver (s : State) : Bool := s.frost.stage = .blind && s.frost.blindDefrost && fifteenMinutes s

/-- BLIND_DEFROST_LIMIT (R90). -/
def execBlindDefrostLimit (t : Time) (s : State) : Host.Outcome State Fault Refusal :=
  event t blindDefrostOver endBlindDefrost s

/-- R88: local time has reached the lockout end time. -/
def lockoutOver (s : State) : Bool := s.frost.stage = .lockout && reached s.frost.lockoutEnd s.now

/-- LOCKOUT_END (R88). -/
def execLockoutEnd (t : Time) (s : State) : Host.Outcome State Fault Refusal := event t lockoutOver endLockout s

end Sys2Proof.Machine
end

