-- ==== Sys2Proof/Machine/LineCommands.lean ====
section
/-! DEFINITION. The commands of the house line: chapter 10. -/

namespace Sys2Proof.Machine

/-- R149: a frame may begin and a slot is pending. -/
def frameDue (s : State) : Bool := mayBegin s && s.line.lowestPending.isSome

/-- FRAME_START (R149). -/
def execFrameStart (t : Time) (s : State) : Host.Outcome State Fault Refusal := event t frameDue startFrame s

/-- LOST_CONTENTION (R150). -/
def execLostContention (header : Byte) (t : Time) (s : State) : Host.Outcome State Fault Refusal :=
  event t (fun m => losesTo header m.line) (loseContention header) s

/-- A frame is being sent. -/
def sendingFrame (s : State) : Bool := s.line.transmission.isSome

/-- COLLISION (R151). -/
def execCollision (x : CollisionTimes) (s : State) : Host.Outcome State Fault Refusal :=
  event x.time sendingFrame (takeCollision x.restEnd) s

/-- FRAME_SENT (R152). -/
def execFrameSent (t : Time) (s : State) : Host.Outcome State Fault Refusal := event t sendingFrame completeFrame s

/-- FRAME_RECEIVED (R155, R151). -/
def execFrameReceived (chars : List Byte) (stops : StopBits) (arrival t : Time) (s : State) :
    Host.Outcome State Fault Refusal :=
  event t (fun m => receives m && !restOfOtherFrame arrival m.line) (closeFrame chars stops arrival) s

/-- R154: local time has reached the status period end. -/
def statusPeriodOver (s : State) : Bool := reached s.line.statusPeriodEnd s.now

/-- STATUS_PERIOD_END (R154). -/
def execStatusPeriodEnd (t : Time) (s : State) : Host.Outcome State Fault Refusal :=
  event t statusPeriodOver endStatusPeriod s

/-- R157: the line has been dominant for 100 ms while LINE is clear. -/
def lineStuck (dominant : Time) (s : State) : Bool := !s.line.active && millis 100 ≤ dominant

/-- LINE_FAULT_RAISED (R157). -/
def execLineFaultRaised (dominant t : Time) (s : State) : Host.Outcome State Fault Refusal :=
  event t (lineStuck dominant) (raiseLine dominant) s

/-- R157: the line has been recessive for 1.0 s while LINE is active. -/
def lineFree (recessive : Time) (s : State) : Bool := s.line.active && seconds 1 ≤ recessive

/-- LINE_FAULT_CLEARED (R157). -/
def execLineFaultCleared (recessive t : Time) (s : State) : Host.Outcome State Fault Refusal :=
  event t (lineFree recessive) (clearLine recessive) s

end Sys2Proof.Machine
end

