-- ==== Sys2Proof/Machine/MeasureCommands.lean ====
section
/-! DEFINITION. The commands of measurement: the sample (R55) and the run second (R123). -/

namespace Sys2Proof.Machine

/-- SAMPLE (R55). -/
def execSample (inner outer humidity : BitVec 12) (t : Time) (s : State) : Host.Outcome State Fault Refusal :=
  command t (takeSample inner outer humidity) s

/-- RUN_SECOND (R123). -/
def execRunSecond (t : Time) (s : State) : Host.Outcome State Fault Refusal := command t countRunSecond s

end Sys2Proof.Machine
end

