-- ==== Sys2Proof/Machine/MotionCommands.lean ====
section
/-! DEFINITION. The commands of the reversal, the tach, stalls and pauses: chapters 2 and 3. -/

namespace Sys2Proof.Machine

/-! ## Reversal -/

/-- R19: a length of time has passed since the phase start. -/
def phaseLasted (d : Time) (s : State) : Bool := reached (s.seq.phaseStart.map (· + d)) s.now

/-- R19: REVERSING in a phase. -/
def inPhase (p : Phase) (s : State) : Bool := s.seq.state = .reversing && s.seq.phase = some p

/-- R22: RUNDOWN ends. -/
def rundownOver (s : State) : Bool := inPhase .rundown s && (s.fan.speed < 300 || phaseLasted (seconds 4) s)

/-- RUNDOWN_END (R22). -/
def execRundownEnd (t : Time) (s : State) : Host.Outcome State Fault Refusal := event t rundownOver endRundown s

/-- R23: the dead time has passed. -/
def deadTimeOver (s : State) : Bool := inPhase .switch s && phaseLasted (tenths 2) s

/-- SWITCH_DEAD_TIME_END (R23). -/
def execSwitchDeadTimeEnd (t : Time) (s : State) : Host.Outcome State Fault Refusal :=
  event t deadTimeOver enterSpinup s

/-- R45: local time has reached the spin-up hold end. -/
def holdOver (s : State) : Bool := reached s.fan.holdEnd s.now

/-- SPINUP_HOLD_END (R45). -/
def execSpinupHoldEnd (t : Time) (s : State) : Host.Outcome State Fault Refusal := event t holdOver endHold s

/-- R24: SPINUP has lasted 3.0 s. -/
def spinupOver (s : State) : Bool := inPhase .spinup s && phaseLasted (seconds 3) s

/-- R24, R35: the SPINUP in progress reaches its limit. -/
def endSpinup (s : State) : State :=
  match s.seq.target with
  | some g => spinupLimit g s
  | none => s

/-- SPINUP_LIMIT (R24). -/
def execSpinupLimit (t : Time) (s : State) : Host.Outcome State Fault Refusal := event t spinupOver endSpinup s

/-! ## Tach -/

/-- R47: the counter's value becomes the last capture. -/
def storeCapture (s : State) : State :=
  { s with fan := { s.fan with lastCapture := some s.fan.captureCounter, ticksSince := 0 } }

/-- R49: the effects of an overflow on the record. -/
def overflow (s : State) : State :=
  { s with fan := { s.fan with periods := [], lastCapture := none, ticksSince := 0, speed := 0 } }

/-- R48: the ring with a period added, four at most. -/
def ringAdd (p : Nat) (ring : List Nat) : List Nat := (ring ++ [p]).drop (ring.length + 1 - 4)

/-- R48, R50: a period joins the ring and the speed is worked out again. -/
def addPeriod (p : Nat) (s : State) : State :=
  { s with fan := { s.fan with periods := ringAdd p s.fan.periods, speed := speedOf (ringAdd p s.fan.periods) } }

/-- R47 to R49: a capture. A difference of 0, or 65536 ticks without the overflow reported, is an overflow
(log 27). -/
def capture (s : State) : State :=
  match s.fan.lastCapture with
  | none => storeCapture s
  | some c =>
    if s.fan.captureCounter = c ∨ 65536 ≤ s.fan.ticksSince then storeCapture (overflow s)
    else storeCapture (addPeriod (s.fan.captureCounter - c).toNat s)

/-- R22, R24: the reversal reads a new speed. -/
def reversalOnSpeed (s : State) : State := completeAtSpeed (endRundown s)

/-- TACH_CAPTURE (R48). -/
def execTachCapture (t : Time) (s : State) : Host.Outcome State Fault Refusal :=
  command t (fun m => reversalOnSpeed (capture m)) s

/-- R49: the ticks since capture have reached 65536. -/
def overflowDue (s : State) : Bool := s.fan.lastCapture.isSome && 65536 ≤ s.fan.ticksSince

/-- CAPTURE_OVERFLOW (R49). -/
def execCaptureOverflow (t : Time) (s : State) : Host.Outcome State Fault Refusal :=
  event t overflowDue (fun m => reversalOnSpeed (overflow m)) s

/-! ## Stalls and pauses -/

/-- R51: the stall condition has held for 2.0 s. -/
def stallDue (s : State) : Bool := reached (s.fan.stallWatch.map (· + seconds 2)) s.now

/-- R51, R35: the stall is reported; the sequencer takes it in a moving state. -/
def reportStall (s : State) : State :=
  let s1 := { s with fan := { s.fan with stallWatch := none } }
  if s1.seq.moving then takeStall s1 else s1

/-- STALL_REPORT (R51). -/
def execStallReport (t : Time) (s : State) : Host.Outcome State Fault Refusal := event t stallDue reportStall s

/-- R35: entries leave the history as they pass 60 min of age (log 15), in STOPPED too, where R37 has the history keep
its three entries (DEDUCED, log 53). -/
def ageHistory (s : State) : State :=
  { s with seq := { s.seq with stallHistory := s.seq.stallHistory.filter (fun x => s.now < x + minutes 60) } }

/-- STALL_HISTORY_AGEING (R35). -/
def execStallHistoryAgeing (t : Time) (s : State) : Host.Outcome State Fault Refusal := command t ageHistory s

/-- R36: local time has reached the pause end time. -/
def pauseOver (s : State) : Bool := s.seq.state = .paused && reached s.seq.pauseEnd s.now

/-- PAUSE_END (R36). -/
def execPauseEnd (t : Time) (s : State) : Host.Outcome State Fault Refusal := event t pauseOver endPause s

end Sys2Proof.Machine
end

