-- ==== Sys2Proof/Machine/PeerCommands.lean ====
section
/-! DEFINITION. The commands of the peer table: ageing, removal and the fallback (R137, R138). -/

namespace Sys2Proof.Machine

/-- The peer record of a station number, when it meets a condition, changes the table by `f`. -/
def ageingEvent (due : PeerRec → Time → Bool) (f : PeerRec → State → State) (station : Nat) (s : State) : State :=
  match findPeer s.peers station with
  | some p => if due p s.now then f p s else s
  | none => s

/-- R137: a FRESH record's age has passed 75.0 s. -/
def PeerRec.staleDue (p : PeerRec) (now : Time) : Bool := p.fresh && p.olderThan now (seconds 75)

/-- PEER_STALE (R137). -/
def execPeerStale (station : Nat) (t : Time) (s : State) : Host.Outcome State Fault Refusal :=
  command t (ageingEvent PeerRec.staleDue makeStale station) s

/-- R137: a record's age has come to 300.0 s. That it leaves as it reaches that age is read from the worked
sequence 9.6.1 (DEDUCED, log 46). -/
def PeerRec.removalDue (p : PeerRec) (now : Time) : Bool := p.lastHeard + seconds 300 ≤ now

/-- PEER_REMOVED (R137). -/
def execPeerRemoved (station : Nat) (t : Time) (s : State) : Host.Outcome State Fault Refusal :=
  command t (ageingEvent PeerRec.removalDue removePeer station) s

/-- CONTENDING_FALLBACK (R138). -/
def execContendingFallback (station : Nat) (t : Time) (s : State) : Host.Outcome State Fault Refusal :=
  command t (ageingEvent PeerRec.fallbackDue fallBack station) s

end Sys2Proof.Machine
end

