-- ==== Sys2Proof/Machine/StartUpCommands.lean ====
section
/-! DEFINITION. The commands of start-up and of the stored records: R167 to R172. -/

namespace Sys2Proof.Machine

/-- RESET (R167): every block takes its reset value, and the loader reads the straps (R168). Local time
starts at 0 here, and no comparison with the state before is made. -/
def execReset (index : BitVec 4) (lane : BitVec 1) (cl : BitVec 2) (s : State) : Host.Outcome State Fault Refusal :=
  .next (readStraps index lane cl (resetBlocks s))

/-- CONFIGURATION_RECORD_READ (R169). -/
def execConfigurationRecordRead (reply : MemoryReply) (t : Time) (s : State) : Host.Outcome State Fault Refusal :=
  event t awaitsConfigRecord (takeConfig (MemoryReply.record 17 reply)) s

/-- FILTER_RECORD_READ (R170). -/
def execFilterRecordRead (reply : MemoryReply) (raw : LineLevels) (t : Time) (s : State) :
    Host.Outcome State Fault Refusal :=
  event t awaitsFilterRecord (takeFilterRecord (MemoryReply.record 8 reply) raw) s

/-- WRITE_COMPLETE (R171). -/
def execWriteComplete (t : Time) (s : State) : Host.Outcome State Fault Refusal :=
  event t (fun m => m.loader.inFlight) endWrite s

/-- WRITE_FAILED (R172). -/
def execWriteFailed (t : Time) (s : State) : Host.Outcome State Fault Refusal :=
  event t (fun m => m.loader.inFlight) failWrite s

end Sys2Proof.Machine
end

