-- ==== Sys2Proof/Machine/Dispatch.lean ====
section
/-! DEFINITION. What each command does to everything but the queue: one arm for each command. -/

namespace Sys2Proof.Machine

def exec (i : Instr) (s : State) : Host.Outcome State Fault Refusal :=
  match i with
  | .reset index lane roomClass => Sys2Proof.Machine.execReset index lane roomClass s
  | .configurationRecordRead reply t => Sys2Proof.Machine.execConfigurationRecordRead reply t s
  | .filterRecordRead reply raw t => Sys2Proof.Machine.execFilterRecordRead reply raw t s
  | .listenEnd t => Sys2Proof.Machine.execListenEnd t s
  | .halfBoundary t => Sys2Proof.Machine.execHalfBoundary t s
  | .rundownEnd t => Sys2Proof.Machine.execRundownEnd t s
  | .switchDeadTimeEnd t => Sys2Proof.Machine.execSwitchDeadTimeEnd t s
  | .spinupHoldEnd t => Sys2Proof.Machine.execSpinupHoldEnd t s
  | .spinupLimit t => Sys2Proof.Machine.execSpinupLimit t s
  | .tachCapture t => Sys2Proof.Machine.execTachCapture t s
  | .captureOverflow t => Sys2Proof.Machine.execCaptureOverflow t s
  | .stallReport t => Sys2Proof.Machine.execStallReport t s
  | .stallHistoryAgeing t => Sys2Proof.Machine.execStallHistoryAgeing t s
  | .pauseEnd t => Sys2Proof.Machine.execPauseEnd t s
  | .sample inner outer humidity t => Sys2Proof.Machine.execSample inner outer humidity t s
  | .runSecond t => Sys2Proof.Machine.execRunSecond t s
  | .contentionWindowEnd t => Sys2Proof.Machine.execContentionWindowEnd t s
  | .meltStepEnd t => Sys2Proof.Machine.execMeltStepEnd t s
  | .defrostTimeLimit t => Sys2Proof.Machine.execDefrostTimeLimit t s
  | .blindDefrostLimit t => Sys2Proof.Machine.execBlindDefrostLimit t s
  | .lockoutEnd t => Sys2Proof.Machine.execLockoutEnd t s
  | .boostCap t => Sys2Proof.Machine.execBoostCap t s
  | .restCheck t => Sys2Proof.Machine.execRestCheck t s
  | .overrideExpiry source origin t => Sys2Proof.Machine.execOverrideExpiry source origin t s
  | .frameStart t => Sys2Proof.Machine.execFrameStart t s
  | .lostContention header t => Sys2Proof.Machine.execLostContention header t s
  | .collision x => Sys2Proof.Machine.execCollision x s
  | .frameSent t => Sys2Proof.Machine.execFrameSent t s
  | .frameReceived chars stops arrival t => Sys2Proof.Machine.execFrameReceived chars stops arrival t s
  | .peerStale station t => Sys2Proof.Machine.execPeerStale station t s
  | .peerRemoved station t => Sys2Proof.Machine.execPeerRemoved station t s
  | .contendingFallback station t => Sys2Proof.Machine.execContendingFallback station t s
  | .statusPeriodEnd t => Sys2Proof.Machine.execStatusPeriodEnd t s
  | .lineFaultRaised dominant t => Sys2Proof.Machine.execLineFaultRaised dominant t s
  | .lineFaultCleared recessive t => Sys2Proof.Machine.execLineFaultCleared recessive t s
  | .debounce line level t => Sys2Proof.Machine.execDebounce line level t s
  | .hold t => Sys2Proof.Machine.execHold t s
  | .filterReset t => Sys2Proof.Machine.execFilterReset t s
  | .modePositionTaken mode1 mode0 t => Sys2Proof.Machine.execModePositionTaken mode1 mode0 t s
  | .writeComplete t => Sys2Proof.Machine.execWriteComplete t s
  | .writeFailed t => Sys2Proof.Machine.execWriteFailed t s

end Sys2Proof.Machine
end

