-- ==== Sys2Proof/Safety.lean ====
section
/-! DEFINITION. What statements about the block speak of: the time a command carries, the part of the
state that only a command's own effect moves, and the invariants of the blocks. -/

namespace Sys2Proof.Machine

/-! ## Times -/

/-- Local time once a command at `t` has been taken (section 1.1: it only increases). -/
def timeAfter (t : Time) (s : State) : Time := max s.now t

/-! ## What only a command's own effect moves -/

/-- The fan drive without what time and the demand unit move: drive output, counters, demand target, ramp
origin, stall watch. -/
def FanRec.steady (f : FanRec) : FanRec :=
  { f with
    demandTarget := 0, driveOutput := 0, rampFrom := 0, rampStart := 0, captureCounter := 0, ticksSince := 0
    stallWatch := none }

/-- The line interface without its idle time and without the STATUS slot and mark, which every change of an
announced field may move (R154). -/
def LineRec.steady (l : LineRec) : LineRec := { l with statusSlot := Slot.empty, statusMark := false, idleTime := 0 }

/-- The local controls without the lamps, which every change of an input of R165 may move. -/
def ControlRec.steady (c : ControlRec) : ControlRec := { c with amber := ⟨.off, 0⟩, green := ⟨.off, 0⟩ }

/-- The state without what time alone moves and without what follows from other blocks' changes: the
demand unit's results, the lamps and the STATUS slot. -/
structure Held where
  inReset      : Bool
  strapsRead   : Bool
  stationIndex : BitVec 4
  lane         : Lane
  roomClass    : RoomClass
  cfg          : ConfigRecord
  clock        : ClockRec
  seq          : SeqRec
  fan          : FanRec
  climate      : ClimateRec
  frost        : FrostRec
  humid        : HumidRec
  stack        : List Override
  requested    : Nat
  active       : Nat
  filter       : FilterRec
  peers        : List PeerRec
  house        : HouseMode
  line         : LineRec
  ctl          : ControlRec
  loader       : LoaderRec
  pending      : List Instr
  deriving DecidableEq, Repr

/-- The held part of a state. A statement `held s' = { held s with … }` is a command's frame. -/
def held (s : State) : Held where
  inReset := s.inReset
  strapsRead := s.strapsRead
  stationIndex := s.stationIndex
  lane := s.lane
  roomClass := s.roomClass
  cfg := s.cfg
  clock := s.clock
  seq := s.seq
  fan := s.fan.steady
  climate := s.climate
  frost := s.frost
  humid := s.humid
  stack := s.demand.stack
  requested := s.demand.requested
  active := s.demand.active
  filter := s.filter
  peers := s.peers
  house := s.house
  line := s.line.steady
  ctl := s.ctl.steady
  loader := s.loader
  pending := s.pending

/-- The results of the demand unit (R105): everything a recomputation forms, with the demand target. -/
structure DemandResults where
  supply      : Nat
  extract     : Nat
  signed      : Option Int
  imbalance   : Int
  trim        : Int
  setFlow     : Option Int
  flowPercent : Nat
  target      : Nat
  deriving DecidableEq, Repr

/-- The results of the demand unit as they stand. -/
def demandResults (s : State) : DemandResults :=
  ⟨s.demand.supply, s.demand.extract, s.demand.signed, s.demand.imbalance, s.demand.trim, s.demand.setFlow,
    s.demand.flowPercent, s.fan.demandTarget⟩

/-! ## Values that statements name -/

/-- R111: the level of the top entry of a stack, or else the given house mode level. -/
def topLevel (stack : List Override) (base : Nat) : Nat :=
  match stack with
  | e :: _ => e.level
  | [] => base

/-- R107: a stack without the entry of a source and an origin. -/
def without (src : Source) (origin : Nat) (stack : List Override) : List Override :=
  stack.filter (fun e => !(e.source = src && e.origin = origin))

/-- R35: the stall history after a stall at a time: the entries not older than 60 min, and the time itself. -/
def historyAfter (now : Time) (h : List Time) : List Time := h.filter (fun x => now - x ≤ minutes 60) ++ [now]

/-- R21, R22: the phase in which a reversal begins at a measured speed. -/
def firstPhase (speed : Nat) : Phase := if speed < 300 then .switch else .rundown

/-- The capture counter when a command at `t` is taken (R47). -/
def counterAt (t : Time) (s : State) : BitVec 16 := s.fan.captureCounter + BitVec.ofNat 16 (timeAfter t s - s.now)

/-- R50: the speed of a period ring. -/
def ringSpeed (ring : List Nat) : Nat := if ring = [] then 0 else 7500000 / (ring.sum / ring.length)

/-- R62, R85, R102: the sum of some readings over their number, truncated toward zero; absent where there are none. -/
def meanOf (xs : List Int) : Option Int := if xs = [] then none else some (xs.sum.tdiv (xs.length : Int))

/-- R68: the row whose range holds an outdoor temperature. -/
def rowOf (t : Int) : Nat := if 50 ≤ t then 0 else if -50 ≤ t then 1 else if -150 ≤ t then 2 else 3

/-- R68: the band's row after the outdoor temperature has taken the new value `t`, from row `b`: the row of `t` while
none is formed and where `t` lies below the row, and otherwise one or more rows warmer where `t` passes a boundary by 10. -/
def rowAfter (formed : Bool) (b : Nat) (t : Int) : Nat :=
  if formed = false ∨ b < rowOf t then rowOf t
  else if 60 ≤ t then 0
  else if -40 ≤ t then min b 1
  else if -140 ≤ t then min b 2
  else b

/-- R48: the ring after a period, the four most recent. -/
def ringAfter (ring : List Nat) (p : Nat) : List Nat := if ring.length < 4 then ring ++ [p] else ring.tail ++ [p]

/-- R170, R122, R105, R159, R16: the held part after the end of STARTING at local time `n`, with the
configuration `c`, the filter values `v`, the raw levels of the lines and the loader's record. -/
def afterStarting (c : ConfigRecord) (v : FilterValues) (raw : LineLevels) (l : LoaderRec) (n : Time) (s : State) : Held :=
  let pos := positionOf raw.mode1 raw.mode0
  let mode := pos.getD s.house.mode
  let level := topLevel s.demand.stack (match mode with
    | .away => c.awayLevel
    | .normal => c.normalLevel
    | .high => c.highLevel)
  { held s with
    cfg := c
    seq := { s.seq with state := .listen }
    clock := { s.clock with
      listenEnd := some (n + tenths 1300)
      reference := timingReference s
      heardLength := if s.clock.reference = timingReference s then s.clock.heardLength else none }
    requested := level
    active := level
    house := { s.house with mode := mode }
    filter := { s.filter with
      baseline := v.baseline
      countdown := v.countdown
      runHours := v.runHours
      state := if v.countdown = 0 ∧ v.state = .clean then .due else v.state
      probe := if v.baseline = 0 then .waiting else s.filter.probe }
    ctl := { s.ctl.steady with
      levels := raw
      modeTaken := if pos = none then s.ctl.modeTaken else pos
      fitted := if pos = none then s.ctl.fitted else true
      summerOn := decide (raw.summer = .low)
      boostStage := if raw.boost = .high then .released else .waitRelease
      filterStage := if raw.filter = .high then .released else .waitRelease }
    loader := l }

/-- R58: a channel `c` has acted on a code converted to `v` (absent where the code is invalid) and is `d`. -/
abbrev afterCode (v : Option Int) (c d : Channel) : Prop :=
  (v = none → d = ⟨true, 0, c.held⟩)
    ∧ (∀ x, v = some x → c.fault = false → d = ⟨false, c.validRun, some x⟩)
    ∧ (∀ x, v = some x → c.fault = true → c.validRun + 1 ≠ 10 → d = ⟨true, c.validRun + 1, c.held⟩)
    ∧ (∀ x, v = some x → c.fault = true → c.validRun + 1 = 10 → d = ⟨false, 0, some x⟩)

/-- R148, R155: the idle time `n` once a frame of characters `bs` has been closed: the gap of 521 ticks and, unless the
last stop bit was dominant, that stop bit and the ones that end the last character's data bits, at 625 to a bit. -/
abbrev idleAfter (bs : List Byte) (stops : StopBits) (n : Nat) : Prop :=
  (stops = .lastDominant → n = 24 * 521)
    ∧ (∀ b : Byte, stops ≠ .lastDominant → bs.getLast? = some b → ∃ k ≤ 8, n = 24 * 521 + 625 * (1 + k)
      ∧ (∀ i < k, b.getLsbD i = true) ∧ (k < 8 → b.getLsbD k = false))

/-- R78, R81: the frost guard has made the want test from the state `s`, at the time of a command at `t` that led to
`s'`: the test does not hold, or the station contends, is DEFERRED, or under LINE defrosts alone. -/
abbrev wantTestMade (t : Time) (s s' : State) : Prop :=
  (s.frost.account < 1600 ∨ (s.frost.stage ≠ .limiting ∧ s.frost.stage ≠ .deferred) ∨ s.seq.settling ≠ 0
      ∨ s.seq.state = .rest ∨ s.seq.state = .starting ∨ s.seq.state = .listen ∨ s.seq.state = .stopped
      ∨ s.seq.state = .paused → s'.frost = s.frost)
    ∧ (1600 ≤ s.frost.account → s.frost.account < 3200 → s.frost.stage = .limiting ∨ s.frost.stage = .deferred →
      s.seq.settling = 0 → s.seq.state ≠ .rest → s.seq.state ≠ .starting → s.seq.state ≠ .listen →
      s.seq.state ≠ .stopped → s.seq.state ≠ .paused →
      (s.line.active = false → placesInUse s' < s.cfg.allowance →
        s'.frost = { s.frost with
          stage := .contending, notice := some ⟨.enter, false⟩
          contentionStart := some (timeAfter t s), entryAccount := none, windowEnd := none }
        ∧ s'.line.defrostSlot.pending = true)
      ∧ (s.line.active = false → s.cfg.allowance ≤ placesInUse s' → s'.frost = { s.frost with stage := .deferred })
      ∧ (s.line.active = true →
        s'.frost.stage = .defrosting ∧ s'.frost.defrostStart = some (timeAfter t s)))

/-- R106, R131: a push at local time `n` took `s` to `s'`: a probe in progress is abandoned and its hold lifted, and any
other filter record stays. -/
abbrev probeAbandoned (n : Time) (s s' : State) : Prop :=
  (s.filter.probing = false → s'.filter = s.filter ∧ s'.fan.probeHold = s.fan.probeHold)
    ∧ (s.filter.probing = true →
      s'.filter = { s.filter with
        probe := .waiting, abandonTime := some n, holdPlaced := false, speeds := []
        firstSpeed := none, firstClose := none, halfStart := none, expected := none }
      ∧ s'.fan.probeHold = false)

/-- R87: the entry into REST took `s` to `s'`: a stage DEFROSTING ends with LEAVE and the stage by account, and any other
frost record stays. -/
abbrev restEndsDefrost (s s' : State) : Prop :=
  (s.frost.stage = .defrosting →
      s'.frost = { s.frost with
        stage := stageByAccount s.frost.account, notice := some ⟨.leave, false⟩
        defrostStart := none, meltStepEnd := none }
      ∧ s'.line.defrostSlot.pending = true)
    ∧ (s.frost.stage ≠ .defrosting → s'.frost = s.frost)

/-! ## Invariants -/

/-- R40, R41, R45: outside the moving states the drive output is 0 and no spin-up hold runs; a hold runs only in
SPINUP, at 350. R39: nothing passes full drive. R42: an output that follows its target lies on its ramp. R51: the stall
watch start is present exactly while the stall condition holds, and is not later than local time. -/
abbrev DriveInv (s : State) : Prop :=
  (s.seq.moving = false → s.fan.driveOutput = 0 ∧ s.fan.holdEnd = none)
    ∧ (s.fan.holdEnd.isSome = true → inPhase .spinup s = true ∧ s.fan.driveOutput = 350)
    ∧ s.fan.driveOutput ≤ 1000 ∧ s.fan.demandTarget ≤ 1000 ∧ s.fan.rampFrom ≤ 1000
    ∧ (following s = true → s.fan.rampStart ≤ s.now ∧ s.fan.driveOutput = outputAt s s.now)
    ∧ (s.fan.stallWatch.isSome = true ↔ stallCondition s = true)
    ∧ (∀ w ∈ s.fan.stallWatch, w ≤ s.now)

/-- R19, R35, R38: phase, target and phase start are present in REVERSING alone, the settling count is at
most 2, and the history holds three entries in STOPPED alone. -/
abbrev SeqInv (s : State) : Prop :=
  (s.seq.phase.isSome = true ↔ s.seq.state = .reversing)
    ∧ (s.seq.target.isSome = true ↔ s.seq.state = .reversing)
    ∧ (s.seq.phaseStart.isSome = true ↔ s.seq.state = .reversing)
    ∧ s.seq.settling ≤ 2
    ∧ s.seq.stallHistory.length ≤ 3
    ∧ (s.seq.state ≠ .stopped → s.seq.stallHistory.length ≤ 2)

/-- A half length of the spec's range. -/
abbrev lengthInRange (n : Nat) : Prop := 20 ≤ n ∧ n ≤ 120

/-- R1, R2, R139: the clock runs in every state but STARTING, LISTEN and STOPPED; E and S are present exactly
while it runs, no heard length stands while it is stopped, every length is 20..120 s, and the reference
identity is none in STARTING and the timing reference in every other state. -/
abbrev ClockInv (s : State) : Prop :=
  (s.clock.running = true ↔ (s.seq.state ≠ .starting ∧ s.seq.state ≠ .listen ∧ s.seq.state ≠ .stopped))
    ∧ (s.clock.endTime.isSome = true ↔ s.clock.running = true)
    ∧ (s.clock.startTime.isSome = true ↔ s.clock.running = true)
    ∧ (s.clock.heardLength.isSome = true → s.clock.running = true)
    ∧ lengthInRange s.clock.length
    ∧ (∀ n ∈ s.clock.heardLength, lengthInRange n)
    ∧ lengthInRange s.cfg.fixedLength
    ∧ (∀ c ∈ s.loader.config, lengthInRange c.fixedLength)
    ∧ (∀ p ∈ s.peers, ∀ x ∈ p.status, lengthInRange x.halfLength)
    ∧ s.clock.reference = (if s.seq.state = .starting then none else timingReference s)

/-- R74: the frost account is within 0..4000. R85: a melt step stands only in DEFROSTING while the
sequencer is in DEFROST. -/
abbrev FrostInv (s : State) : Prop :=
  s.frost.account ≤ 4000
    ∧ (s.frost.meltStepEnd.isSome = true → s.frost.stage = .defrosting ∧ s.seq.state = .defrost)

/-- R106: at most four entries, no two with the same source and origin. R111: the requested level is what
the stack or the house mode asks for. R112: the active level never exceeds it. -/
abbrev LevelsInv (s : State) : Prop :=
  s.demand.stack.length ≤ 4
    ∧ (s.demand.stack.map (fun e => (e.source, e.origin))).Nodup
    ∧ s.demand.requested = wantedLevel s
    ∧ s.demand.active ≤ s.demand.requested

/-- R93: a HUMIDITY entry stands only in BOOSTING, and the monitor is out of DISABLED only at a WET or KITCHEN
station whose humidity sensor is not faulted. -/
abbrev HumidInv (s : State) : Prop :=
  (s.humid.state ≠ .disabled → s.roomClass ≠ .dry ∧ s.climate.humidity.fault = false)
    ∧ (∀ e ∈ s.demand.stack, e.source = .humidity → e.origin = ownNumber s ∧ s.humid.state = .boosting)

/-- R135: records in ascending order of station number, at most 15, none of the own number, numbers 1..16. -/
abbrev PeersInv (s : State) : Prop :=
  (s.peers.map (·.number)).Pairwise (· < ·)
    ∧ (∀ p ∈ s.peers, 1 ≤ p.number ∧ p.number ≤ 16 ∧ p.number ≠ ownNumber s)

/-- R39, R50, R54, R122: the lengths of the rings and windows, the range of a period, and the speed that
belongs to the ring. -/
abbrev RingsInv (s : State) : Prop :=
  s.fan.periods.length ≤ 4
    ∧ (∀ p ∈ s.fan.periods, 1 ≤ p ∧ p ≤ 65535)
    ∧ s.fan.speed = speedOf s.fan.periods
    ∧ s.climate.window.length ≤ 8
    ∧ s.climate.ring.length ≤ 4
    ∧ s.filter.speeds.length ≤ 10

/-- R165: both lamps show what their lists say. -/
abbrev LampsInv (s : State) : Prop :=
  s.ctl.amber.pattern = amberPattern (lampInputs s) ∧ s.ctl.green.pattern = greenPattern (lampInputs s)

/-- An invariant that every step keeps: from every state that has it, not only from those a run reaches. -/
abbrev KeptByStep (inv : State → Prop) : Prop := ∀ s s', inv s → step s = .next s' → inv s'

end Sys2Proof.Machine
end

