-- ==== Sys2Proof/Certificates/Slice0/Obligations.lean ====
section
/-! DEFINITION. The statements for the provers. -/

open Sys2Proof Sys2Proof.Machine

/-- For every command and state: a step of the state with the command at the front of its queue is exec of that
command on the state with the queue's rest. On an empty queue a step answers the same state. The queue and
the idling are the model's own choice and no rule of the spec (log 2). (95_what_each_step_holds.md) -/
def Obligations.StepRunsTheFrontCommand : Prop :=
  (∀ (c : Instr) (rest : List Instr) (s : State),
      step { s with pending := c :: rest } = exec c { s with pending := rest })
    ∧ ∀ s : State, s.pending = [] → step s = .next s

/-- For every strap reading and state, RESET answers the reset state with the queue kept, held in reset no
longer, the straps read, the station index, lane and class of R168, the house mode origin the own number,
the humidity monitor in SEEDING at a WET or KITCHEN station and DISABLED otherwise, and a STATUS requested
without the mark; a class of 11 is DRY. The reset state carries values that are the model's choice (logs 6,
7, 8), and keeping the queue is the model's choice (log 9). (12.1, 12.2) -/
def Obligations.ResetCommand : Prop :=
  ∀ (index : BitVec 4) (lane : BitVec 1) (cl : BitVec 2) (s : State),
    exec (.reset index lane cl) s = .next
      { State.reset with
        pending := s.pending
        inReset := false
        strapsRead := true
        stationIndex := index
        lane := if lane = 0 then .A else .B
        roomClass := if cl = 1 then .wet else if cl = 2 then .kitchen else .dry
        house := ⟨.normal, false, 0, index.toNat + 1⟩
        humid := { State.reset.humid with state := if cl = 1 ∨ cl = 2 then .seeding else .disabled }
        line := { State.reset.line with statusSlot := ⟨true, false⟩ } }

/-- Every field to which a record table or R1 gives a value after reset holds that value in State.reset, which
is held in reset; in every state held in reset both lamp outputs are dark, and a command other than RESET
leaves the whole state as it is (R167: every block holds its reset value while it is held; that such a
command is taken from the queue is log 9). (1.1, 2.1, 3.1, 4.1, 5.1, 6.1, 7.1, 8.1, 9.4, 10.2, 11.1, 12.1) -/
def Obligations.ResetLeavesTheListedValues : Prop :=
  State.reset.clock = ⟨0, none, none, 60, false, none, none, none⟩
    ∧ State.reset.seq = ⟨.starting, none, none, none, false, none, none, false, none, [], 0⟩
    ∧ (State.reset.fan.demandTarget, State.reset.fan.probeHold, State.reset.fan.driveTarget, State.reset.fan.driveOutput)
        = (0, false, 0, 0)
    ∧ (State.reset.fan.holdEnd, State.reset.fan.direction, State.reset.fan.captureCounter, State.reset.fan.lastCapture)
        = (none, .supply, 0, none)
    ∧ (State.reset.fan.ticksSince, State.reset.fan.periods, State.reset.fan.speed, State.reset.fan.stallWatch)
        = (0, [], 0, none)
    ∧ (State.reset.climate.inner, State.reset.climate.outer, State.reset.climate.humidity)
        = (⟨false, 0, none⟩, ⟨false, 0, none⟩, ⟨false, 0, none⟩)
    ∧ (State.reset.climate.openTime, State.reset.climate.window, State.reset.climate.lastCompletion,
        State.reset.climate.ring) = (none, [], none, [])
    ∧ (State.reset.climate.ownOutdoor, State.reset.climate.ownOutdoorTime, State.reset.climate.outdoor,
        State.reset.climate.band, State.reset.climate.bandFormed) = (none, none, none, 2, false)
    ∧ State.reset.frost = ⟨0, .clear, none, none, none, none, none, none, false, none⟩
    ∧ State.reset.humid = ⟨.disabled, none, none, 0, none⟩
    ∧ State.reset.demand = ⟨[], 55, 55, 0, 0, none, 0, 0, none, 0⟩
    ∧ (humidityLimit State.reset, frostCap State.reset, filterCap State.reset) = (false, 100, 100)
    ∧ State.reset.filter = ⟨0, 0, 0, .idle, 24, none, none, none, false, [], none, none, 0, 0, .clean⟩
    ∧ State.reset.peers = []
    ∧ (State.reset.house.mode, State.reset.house.summer, State.reset.house.stamp) = (.normal, false, 0)
    ∧ State.reset.line = ⟨⟨false, false⟩, ⟨false, false⟩, ⟨false, false⟩, ⟨false, false⟩, none, none, false, none, 0,
        none, 0, none, [], 0, none, 0, false⟩
    ∧ (State.reset.ctl.levels, State.reset.ctl.modeTaken, State.reset.ctl.fitted, State.reset.ctl.summerOn)
        = (⟨.high, .high, .high, .high, .high⟩, none, false, false)
    ∧ (State.reset.ctl.boostStage, State.reset.ctl.boostStart, State.reset.ctl.filterStage, State.reset.ctl.filterStart)
        = (.waitRelease, none, .waitRelease, none)
    ∧ State.reset.cfg.wake = ⟨true, true, true, true, true⟩
    ∧ faultSet State.reset = ⟨false, false, false, false, false, false, false, false⟩
    ∧ (State.reset.ctl.amber.pattern, State.reset.ctl.green.pattern) = (.off, .flicker)
    ∧ State.reset.inReset = true
    ∧ (∀ (s : State) (l : Lamp), s.inReset = true → lampOutput s l = false)
    ∧ (∀ (c : Instr) (s : State), (timeOf c).isSome = true → s.inReset = true → exec c s = .next s)
    ∧ (State.reset.loader.configBytes, State.reset.loader.config, State.reset.loader.filterBytes,
        State.reset.loader.filterValues) = ([], none, [], none)
    ∧ (State.reset.loader.writeEnabled, State.reset.loader.inFlight, State.reset.loader.writePending)
        = (false, false, false)

/-- For every command that carries a time and every state, exec answers a next state whose local time is the
later of the two, and whose capture counter has advanced by the ticks between. That a command carries its
time is the model's choice (logs 1, 2), and so is that a command with an earlier time is taken at the later
local time (log 3). The block is not held in reset. (1.1, 3.2, 3.5) -/
def Obligations.TimeMovesLocalTimeAndTheTach : Prop :=
  ∀ (c : Instr) (t : Time) (s : State), s.inReset = false → timeOf c = some t →
    ∃ s', exec c s = .next s' ∧ s'.now = timeAfter t s ∧ s'.fan.captureCounter = counterAt t s

/-- For every state and time at which a run second is taken: where the output does not follow the target it is
unchanged; where it follows, it lies on the line of 80 per-mille per second (3125 ticks each) from the ramp
origin toward the drive target, truncated, and stops at the target. RUN_SECOND is used because it has no
effect of its own on the drive. For every command but RESET: where the drive target (600 under the probe
hold, and otherwise the demand target) differs afterward, a new ramp begins now at the present output; where
it does not, the ramp stands, unless a spin-up hold has ended (the dead time's end may begin and end one at
once) and the output follows, when it begins now. The block is not held in reset. (3.2, 3.3) -/
def Obligations.OutputRampsWithTime : Prop :=
  (∀ (t : Time) (s : State), s.inReset = false → ∃ s', exec (.runSecond t) s = .next s'
      ∧ (following s = false → s'.fan.driveOutput = s.fan.driveOutput)
      ∧ (following s = true → s.fan.rampFrom ≤ s.fan.driveTarget →
          s'.fan.driveOutput = min s.fan.driveTarget (s.fan.rampFrom + 80 * (timeAfter t s - s.fan.rampStart) / 250000))
      ∧ (following s = true → s.fan.driveTarget < s.fan.rampFrom →
          (s'.fan.driveOutput : Int) = max (s.fan.driveTarget : Int)
            (((s.fan.rampFrom : Int) * 250000 - 80 * ((timeAfter t s - s.fan.rampStart : Nat) : Int)) / 250000)))
  ∧ (∀ (c : Instr) (s s' : State), (timeOf c).isSome = true → s.inReset = false → exec c s = .next s' →
    (s'.fan.driveTarget ≠ s.fan.driveTarget → s'.fan.rampFrom = s'.fan.driveOutput ∧ s'.fan.rampStart = s'.now)
    ∧ (s'.fan.driveTarget = s.fan.driveTarget →
      (s.fan.holdEnd.isSome = true → s'.fan.holdEnd.isSome = true →
        s'.fan.rampFrom = s.fan.rampFrom ∧ s'.fan.rampStart = s.fan.rampStart)
      ∧ (s.fan.holdEnd = none → (∀ t, c ≠ .switchDeadTimeEnd t) →
        s'.fan.rampFrom = s.fan.rampFrom ∧ s'.fan.rampStart = s.fan.rampStart)
      ∧ (s.fan.holdEnd.isSome = true → s'.fan.holdEnd = none → following s' = true →
        s'.fan.rampFrom = s'.fan.driveOutput ∧ s'.fan.rampStart = s'.now)))
  ∧ (∀ f : FanRec, f.driveTarget = if f.probeHold = true then 600 else f.demandTarget)

/-- For every command but RESET that answers a next state: if an input of the recomputation differs, the two
demands, the signed demand, the imbalance (where it is formed), the trim, the set flow, the flow percent and
the demand target are those that the new state gives. For every state: the levels and caps per direction, 70
% and 0 in a defrost motion, 50 % under the probe hold; d by the direction; I is d plus the derived demands;
under the hold p and the demand target follow from these too (as R119 says and not worked sequence 3.7.1,
log 54); t is 0 without a peer of the opposite sign and under the hold, otherwise -I / n held to |d| / 2;
the set flow has the sign of the direction and a magnitude from Q_min to the upper bound, and p is its
percentage of Q_nom; a peer's derived demand follows its announced state, its lane and the own parity. (7.4,
7.5, 5.3, 9.3) -/
def Obligations.RecomputationFollowsItsInputs : Prop :=
  (∀ (c : Instr) (s s' : State), (timeOf c).isSome = true → exec c s = .next s' →
    demandInputs s' ≠ demandInputs s →
      s'.demand.supply = demandFor s' .supply
        ∧ s'.demand.extract = demandFor s' .extract
        ∧ s'.demand.signed = (motionDirection s').map (signedDemandFor s')
        ∧ (∀ dir, motionDirection s' = some dir → s'.fan.probeHold = false →
            s'.demand.imbalance = imbalanceFor s' (signedDemandFor s' dir))
        ∧ s'.demand.trim = ((motionDirection s').map (fun dir => trimFor s' (signedDemandFor s' dir))).getD 0
        ∧ s'.demand.setFlow = (motionDirection s').map (setFlowFor s')
        ∧ s'.demand.flowPercent = ((motionDirection s').map (flowPercentFor s')).getD 0
        ∧ s'.fan.demandTarget = demandTargetOf s'.demand.flowPercent)
  ∧ ∀ s : State,
    (filterCap s = if s.filter.state = .blocked then 60 else 100)
    ∧ (frostCap s = match s.frost.stage with
        | .clear => 100
        | .limiting | .contending => if s.frost.account < 1200 then 70 else 50
        | .deferred => 40
        | .defrosting => 0
        | .lockout | .blind => 50)
    ∧ (defrostMotion s = true ↔ s.seq.state = .defrost ∨ (s.seq.state = .reversing ∧ s.seq.target = some .defrost))
    ∧ (s.fan.probeHold = true → ∀ dir, demandFor s dir = 50 * s.cfg.qNom / 100)
    ∧ (s.fan.probeHold = false → defrostMotion s = true →
        demandFor s .supply = 0 ∧ demandFor s .extract = min 70 (filterCap s) * s.cfg.qNom / 100)
    ∧ (s.fan.probeHold = false → defrostMotion s = false →
        demandFor s .supply = min (if s.humid.state = .boosting then min s.demand.active (houseModeLevel s)
            else s.demand.active) (min (frostCap s) (filterCap s)) * s.cfg.qNom / 100
        ∧ demandFor s .extract = min s.demand.active (filterCap s) * s.cfg.qNom / 100)
    ∧ (motionDirection s = match s.seq.state with
        | .supply => some .supply
        | .extract | .defrost => some .extract
        | .through => some (if s.lane = .A then .supply else .extract)
        | .reversing => s.seq.target.map (fun g => match g with
            | .supply => .supply
            | .extract | .defrost => .extract
            | .through => if s.lane = .A then .supply else .extract)
        | .rest | .paused | .stopped | .listen | .starting => none)
    ∧ signedDemandFor s .supply = (demandFor s .supply : Int)
    ∧ signedDemandFor s .extract = -(demandFor s .extract : Int)
    ∧ derivedDemands s = s.peers.map (derivedDemand s)
    ∧ (∀ p : PeerRec, derivedDemand s p = if s.line.active = true ∨ p.fresh = false then 0 else
        match p.status with
        | none => 0
        | some st =>
          match st.state with
          | some .defrost => -(st.extract : Int)
          | some .through => if st.lane = .A then (st.supply : Int) else -(st.extract : Int)
          | some .supply | some .extract | some .reversing =>
            if (st.lane = .A ↔ s.clock.c.toNat % 2 = 0) then (st.supply : Int) else -(st.extract : Int)
          | _ => 0)
    ∧ (∀ d : Int, imbalanceFor s d = d + (derivedDemands s).sum
        ∧ 2 * (trimFor s d).natAbs ≤ d.natAbs
        ∧ (s.fan.probeHold = true ∨ (∀ x ∈ derivedDemands s, 0 ≤ x * d) → trimFor s d = 0)
        ∧ (s.fan.probeHold = false → (∃ x ∈ derivedDemands s, x * d < 0) → trimFor s d =
            max (-((d.natAbs / 2 : Nat) : Int)) (min ((d.natAbs / 2 : Nat) : Int)
              ((-(imbalanceFor s d)).tdiv ((1 + ((derivedDemands s).filter (· ≠ 0)).length : Nat) : Int)))))
    ∧ (∀ (dir : Dir) (low high : Nat) (f : Int), low = s.cfg.qNom * 20 / 100 →
        high = s.cfg.qNom * (match dir with
          | .supply => min (frostCap s) (filterCap s)
          | .extract => if defrostMotion s = true then min 70 (filterCap s) else filterCap s) / 100 →
        f = signedDemandFor s dir + trimFor s (signedDemandFor s dir) → low ≤ high →
        (setFlowFor s dir).natAbs = max low (min high f.natAbs)
        ∧ (dir = .supply → 0 ≤ setFlowFor s dir) ∧ (dir = .extract → setFlowFor s dir ≤ 0)
        ∧ flowPercentFor s dir = min 100 ((setFlowFor s dir).natAbs * 100 / s.cfg.qNom))
    ∧ ∀ p : Nat, demandTargetOf p = if p = 0 then 0 else 200 + 8 * p

/-- For every command but RESET, HALF_BOUNDARY, FRAME_RECEIVED and FILTER_RECORD_READ: where no input of the
recomputation differs, every result of the demand unit and the demand target are as they were. That the
inputs are compared across the whole command is the model's reading (log 5). (7.5) -/
def Obligations.DemandHoldsBetweenChanges : Prop :=
  ∀ (c : Instr) (s s' : State), (timeOf c).isSome = true → exec c s = .next s' →
    (∀ t, c ≠ .halfBoundary t) → (∀ x b a t, c ≠ .frameReceived x b a t) → (∀ r l t, c ≠ .filterRecordRead r l t) →
    demandInputs s' = demandInputs s → demandResults s' = demandResults s

/-- For every command that answers a next state: if a STATUS field other than the time remaining and the mark
differs, the STATUS slot is pending afterward. (10.4) -/
def Obligations.AnnouncedChangeRequestsStatus : Prop :=
  ∀ (c : Instr) (s s' : State), exec c s = .next s' → announced s' ≠ announced s → s'.line.statusSlot.pending = true

/-- For every command but RESET, HALF_BOUNDARY, FRAME_RECEIVED, STATUS_PERIOD_END, FRAME_SENT and a
DEFROST_TIME_LIMIT from an account of 3200 (which leaves and enters DEFROSTING at one instant): where no
announced field differs, the STATUS slot and the mark flag are as they were. That the fields other than
state and stage are compared across the whole command is the model's reading (log 5). (10.4) -/
def Obligations.StatusSlotHoldsBetweenRequests : Prop :=
  ∀ (c : Instr) (s s' : State), (timeOf c).isSome = true → exec c s = .next s' →
    (∀ t, c ≠ .halfBoundary t) → (∀ x b a t, c ≠ .frameReceived x b a t) → (∀ t, c ≠ .statusPeriodEnd t) →
    (∀ t, c ≠ .frameSent t) → (∀ t, c = .defrostTimeLimit t → s.frost.account < 3200) → announced s' = announced s →
      s'.line.statusSlot = s.line.statusSlot ∧ s'.line.statusMark = s.line.statusMark

/-- From a state whose lamps show their lists, for every command but RESET and a DEFROST_TIME_LIMIT from an
account of 3200 (which leaves and enters DEFROSTING at one instant): with the same inputs both lamps are
unchanged; otherwise each lamp shows the first pattern of its list that holds, with the phase kept where
that pattern was already shown and begun at the present local time where it was not. That the inputs other
than state and stage are compared across the whole command is the model's reading (log 5). (11.5) -/
def Obligations.LampsKeepTheirPhase : Prop :=
  ∀ (c : Instr) (s s' : State), (timeOf c).isSome = true → exec c s = .next s' → LampsInv s →
    (∀ t, c = .defrostTimeLimit t → s.frost.account < 3200) →
    (lampInputs s' = lampInputs s → s'.ctl.amber = s.ctl.amber ∧ s'.ctl.green = s.ctl.green)
    ∧ (lampInputs s' ≠ lampInputs s →
        s'.ctl.amber = (if s.ctl.amber.pattern = amberPattern (lampInputs s') then s.ctl.amber
          else ⟨amberPattern (lampInputs s'), s'.now⟩)
        ∧ s'.ctl.green = (if s.ctl.green.pattern = greenPattern (lampInputs s') then s.ctl.green
          else ⟨greenPattern (lampInputs s'), s'.now⟩))

/-- From every state with it, every step keeps: outside SUPPLY, EXTRACT, DEFROST, THROUGH and SPINUP the drive
output is 0 and no hold runs; a hold runs only in SPINUP with the output at 350; drive output, demand target
and ramp origin are at most 1000; an output that follows lies on its ramp; the stall watch start is present
exactly while the stall condition holds (a moving state, no hold, the output at 300 or more, speed 0), and
not later than now. A command that finds the condition and leaves it keeps the watch start; one that brings
it sets the start to its local time, or, where time alone raised the output along its ramp, to the first
time at which the output was 300. (3.2, 3.6) -/
def Obligations.DriveStopsOutsideMotion : Prop :=
  KeptByStep DriveInv
  ∧ (∀ (c : Instr) (s s' : State), (timeOf c).isSome = true → s.inReset = false → DriveInv s → exec c s = .next s' →
    (stallCondition s = true → stallCondition s' = true → s'.fan.stallWatch = s.fan.stallWatch)
    ∧ (stallCondition s = false → stallCondition s' = true →
      (following s = false ∨ s.fan.speed ≠ 0 → s'.fan.stallWatch = some s'.now)
      ∧ (following s = true → s.fan.speed = 0 → ∃ w, s'.fan.stallWatch = some w ∧ s.now ≤ w ∧ w ≤ s'.now
        ∧ 300 ≤ outputAt s w ∧ (∀ u, s.now ≤ u → u < w → outputAt s u < 300))))
  ∧ (∀ s : State, stallCondition s = true ↔
    (s.seq.state = .supply ∨ s.seq.state = .extract ∨ s.seq.state = .defrost ∨ s.seq.state = .through
      ∨ (s.seq.state = .reversing ∧ s.seq.phase = some .spinup))
    ∧ s.fan.holdEnd = none ∧ 300 ≤ s.fan.driveOutput ∧ s.fan.speed = 0)

/-- From every state with it, every step keeps: phase, target and phase start are present exactly in REVERSING;
the settling count is at most 2; the stall history has at most 3 entries, and 3 only in STOPPED. (2.1) -/
def Obligations.SequencerRecordStaysWhole : Prop :=
  KeptByStep SeqInv

/-- From every state with it, every step keeps: the running flag is clear exactly in STARTING, LISTEN and
STOPPED; E and S are present exactly while the clock runs; a heard length stands only while it runs; L, the
heard length, the configured and the peers' lengths are within 20..120 s; and the reference identity is none
in STARTING and the peer table's timing reference in every other state. That it is formed in LISTEN too,
with the clock stopped, is the model's reading (log 16). (1.1, 2.1) -/
def Obligations.ClockRunsWithTheSequencer : Prop :=
  KeptByStep ClockInv

/-- From every state with it, every step keeps: A is at most 4000, and a melt step end stands only in stage
DEFROSTING with the sequencer in DEFROST. (5.2, 5.6) -/
def Obligations.FrostAccountStaysInRange : Prop :=
  KeptByStep FrostInv

/-- From every state with it, every step keeps: at most 4 entries, no two with the same source and origin; the
requested level is that of the top entry or the house mode; the active level never exceeds it. (7.2, 7.3) -/
def Obligations.OverrideStackAndLevels : Prop :=
  KeptByStep LevelsInv

/-- From every state with it, every step keeps: a HUMIDITY entry on the stack has the own origin and the monitor
is in BOOSTING; out of DISABLED the class is WET or KITCHEN and the HUMIDITY fault is clear. (6.1) -/
def Obligations.HumidityEntryOnlyInBoosting : Prop :=
  KeptByStep HumidInv

/-- From every state with it, every step keeps: the records stand in strictly ascending order of station number,
within 1..16, and none has the own number. (9.1) -/
def Obligations.PeerTableStaysOrdered : Prop :=
  KeptByStep PeersInv

/-- From every state with it, every step keeps: at most 4 periods, each 1..65535; the measured speed is that of
the ring; window at most 8, half records at most 4, speed readings at most 10. (3.5, 4.3, 8.4) -/
def Obligations.RingsStayInRange : Prop :=
  KeptByStep RingsInv

/-- From every state with it, every step keeps the AMBER and the GREEN pattern equal to the first pattern of the
list of R165 whose condition holds. (11.5) -/
def Obligations.LampsShowTheirLists : Prop :=
  KeptByStep LampsInv

/-- Each invariant that every step keeps holds in State.reset. (1.1, 2.1, 3.1, 5.1, 6.1, 7.2, 9.1, 11.5) -/
def Obligations.InvariantsHoldAtReset : Prop :=
  DriveInv State.reset ∧ SeqInv State.reset ∧ ClockInv State.reset ∧ FrostInv State.reset ∧ LevelsInv State.reset
    ∧ HumidInv State.reset ∧ PeersInv State.reset ∧ RingsInv State.reset ∧ LampsInv State.reset

/-- From every state, a step with a command other than RESET that changes the direction output answers a state
in the SWITCH phase of REVERSING. (2.2, 3.4) -/
def Obligations.DirectionChangesOnlyInSwitch : Prop :=
  ∀ (c : Instr) (s s' : State), (timeOf c).isSome = true → exec c s = .next s' →
    s'.fan.direction ≠ s.fan.direction → inPhase .switch s' = true

/-- In STARTING with the straps read and no configuration yet: a silent memory gives the defaults and leaves
write-back disabled; 17 bytes with a sum other than 0 give the defaults, raise CONFIG and enable write-back;
a sum of 0 gives the record's fields and enables write-back. Nothing else of the held part moves. The block
is not held in reset. (12.3) -/
def Obligations.ConfigurationRecordIsRead : Prop :=
  ∀ (t : Time) (s : State), s.inReset = false → s.seq.state = .starting → s.strapsRead = true → s.loader.config = none →
    (∃ s', exec (.configurationRecordRead .silent t) s = .next s'
      ∧ held s' = { held s with loader := { s.loader with config := some ConfigRecord.defaults } })
    ∧ ∀ bs : List Byte, bs.length = 17 →
      (byteSum bs ≠ 0 → ∃ s', exec (.configurationRecordRead (.bytes bs) t) s = .next s'
        ∧ held s' = { held s with
            loader := { s.loader with configBytes := bs, config := some ConfigRecord.defaults, writeEnabled := true }
            ctl := { s.ctl.steady with config := true } })
      ∧ (byteSum bs = 0 → ∃ s', exec (.configurationRecordRead (.bytes bs) t) s = .next s'
        ∧ held s' = { held s with
            loader := { s.loader with configBytes := bs, config := some (configOf bs), writeEnabled := true } })

/-- For every byte list: each numeric field is its own byte where that lies in the range, the low end where it
is below and the high end where it is above; the blocked rise is besides at least the due rise + 20; exactly
bit 1 without bit 0 of byte 10 selects fixed; the five wake sources are bits 0 to 4 of byte 12. (12.3) -/
def Obligations.ConfigurationFieldsAreClamped : Prop :=
  ∀ (bs : List Byte) (c : ConfigRecord), c = configOf bs →
    c.qNom = max 10 (min 60 (byteAt bs 0))
    ∧ c.allowance = max 1 (min 8 (byteAt bs 1))
    ∧ c.awayLevel = max 20 (min 100 (byteAt bs 2))
    ∧ c.normalLevel = max 20 (min 100 (byteAt bs 3))
    ∧ c.highLevel = max 20 (min 100 (byteAt bs 4))
    ∧ c.humidityStep = max 10 (min 100 (byteAt bs 5))
    ∧ c.rhCeiling = max 70 (min 95 (byteAt bs 6))
    ∧ c.serviceInterval = max 10 (min 80 (byteAt bs 7))
    ∧ c.dueRise = max 20 (min 200 (byteAt bs 8))
    ∧ c.blockedRise = max (c.dueRise + 20) (max 40 (min 250 (byteAt bs 9)))
    ∧ (c.policy = .fixed ↔ byteAt bs 10 % 4 = 2)
    ∧ c.fixedLength = max 20 (min 120 (byteAt bs 11))
    ∧ c.wake = ⟨(byteAt bs 12).testBit 0, (byteAt bs 12).testBit 1, (byteAt bs 12).testBit 2,
        (byteAt bs 12).testBit 3, (byteAt bs 12).testBit 4⟩
    ∧ c.summerThreshold = max 8 (min 20 (byteAt bs 13))
    ∧ c.houseBoost = max 5 (min 60 (byteAt bs 14))
    ∧ c.localBoost = max 5 (min 60 (byteAt bs 15))
    ∧ (∀ m, 20 ≤ ConfigRecord.level c m ∧ ConfigRecord.level c m ≤ 100)
    ∧ c.dueRise + 20 ≤ c.blockedRise ∧ c.blockedRise ≤ 250

/-- In STARTING with a configuration in the load buffer, for each outcome of the read (good check, bad check,
not acknowledged, not read because write-back is disabled), the filter values, the configuration, the
starting levels, the lines and the mode switch are handed over, the sequencer is in LISTEN and the listen
end is 130.0 s ahead. That the lines take the raw levels of this moment is the model's reading (log 12), as
are that DUE from a stored countdown of 0 starts no write-back (log 21), that the mode switch seeds the mode
before the starting levels are formed (log 45), and that the reference identity is formed here (log 16). The
block is not held in reset. (12.3, 11.1, 7.1) -/
def Obligations.StartingEnds : Prop :=
  ∀ (raw : LineLevels) (t : Time) (s : State) (c : ConfigRecord), s.inReset = false → s.seq.state = .starting → s.loader.config = some c →
    (s.loader.writeEnabled = true → ∀ bs : List Byte, bs.length = 8 →
      (byteSum bs = 0 → ∃ s', exec (.filterRecordRead (.bytes bs) raw t) s = .next s'
        ∧ held s' = afterStarting c (filterValuesOf bs) raw
            { s.loader with filterBytes := bs, filterValues := some (filterValuesOf bs) } (timeAfter t s) s)
      ∧ (byteSum bs ≠ 0 → ∃ s', exec (.filterRecordRead (.bytes bs) raw t) s = .next s'
        ∧ held s' = afterStarting c ⟨0, 100 * c.serviceInterval, 0, .clean⟩ raw
            { s.loader with filterBytes := bs, filterValues := some ⟨0, 100 * c.serviceInterval, 0, .clean⟩ }
            (timeAfter t s) s))
    ∧ (∀ reply : MemoryReply, reply = .silent ∨ s.loader.writeEnabled = false →
      ∃ s', exec (.filterRecordRead reply raw t) s = .next s'
        ∧ held s' = afterStarting c ⟨0, 100 * c.serviceInterval, 0, .clean⟩ raw
            { s.loader with writeEnabled := false, filterValues := some ⟨0, 100 * c.serviceInterval, 0, .clean⟩ }
            (timeAfter t s) s)

/-- With a write in flight, both commands answer a next state: without a pending request the write state is
IDLE; with one it is cleared and a new write is in flight with the filter values of that moment;
WRITE_FAILED raises MEMORY besides. Nothing else of the held part moves. The block is not held in reset.
(12.4) -/
def Obligations.WriteEnds : Prop :=
  ∀ (t : Time) (s : State), s.inReset = false → s.loader.inFlight = true →
    (∃ s', exec (.writeComplete t) s = .next s'
      ∧ held s' = { held s with loader := { s.loader with
          inFlight := s.loader.writePending
          writePending := false
          writeBytes := if s.loader.writePending then filterRecordBytes s.filter else s.loader.writeBytes } })
    ∧ (∃ s', exec (.writeFailed t) s = .next s'
      ∧ held s' = { held s with
          ctl := { s.ctl.steady with memory := true }
          loader := { s.loader with
            inFlight := s.loader.writePending
            writePending := false
            writeBytes := if s.loader.writePending then filterRecordBytes s.filter else s.loader.writeBytes } })

/-- In LISTEN at the listen end, with no heard length: without a FRESH running peer (or under LINE) c is 0, L is
the own length and E is L ahead, and the reference is the own station; with one, its half number and end
estimate advance together by the least number of its lengths that takes E past local time. In both cases the
clock runs, the collection opens, settling is 2, the humidity monitor, where not DISABLED, is SEEDING
without a baseline, and the station reverses toward the lane direction or takes a held rest. The block is
not held in reset. (1.5, 2.3, 4.3.1, 6.4) -/
def Obligations.ListenEndStartsTheCount : Prop :=
  ∀ (t e : Time) (s : State), s.inReset = false → s.seq.state = .listen → s.clock.listenEnd = some e → e ≤ timeAfter t s →
    s.clock.heardLength = none →
    ∃ s', exec (.listenEnd t) s = .next s'
      ∧ ((s.line.active = true ∨ ∀ p ∈ s.peers, p.counts = false) →
          s'.clock.c = 0 ∧ s'.clock.length = ownLength s ∧ s'.clock.heardLength = none
            ∧ s'.clock.endTime = some (timeAfter t s + seconds (ownLength s))
            ∧ s'.clock.reference = some (ownNumber s))
      ∧ (∀ p, s.line.active = false → (s.peers.filter (·.counts)).head? = some p → ∀ st, p.status = some st →
          lengthInRange st.halfLength →
          ∃ k, s'.clock.c = st.half + BitVec.ofNat 8 k ∧ s'.clock.length = st.halfLength
            ∧ s'.clock.endTime = some (st.endEstimate + k * seconds st.halfLength)
            ∧ timeAfter t s < st.endEstimate + k * seconds st.halfLength
            ∧ ∀ j < k, st.endEstimate + j * seconds st.halfLength ≤ timeAfter t s)
      ∧ s'.clock.running = true ∧ s'.clock.listenEnd = none ∧ s'.clock.startTime = some (timeAfter t s)
      ∧ s'.climate.openTime = some (timeAfter t s) ∧ s'.climate.window = [] ∧ s'.seq.settling = 2
      ∧ (s.seq.restHeld = false → s'.seq.state = .reversing
          ∧ s'.seq.target = some (laneDirection s.lane s'.clock.c).target
          ∧ s'.seq.phase = some (firstPhase s.fan.speed) ∧ s'.seq.phaseStart = some (timeAfter t s))
      ∧ (s.seq.restHeld = true → s'.seq.state = .rest ∧ s'.seq.restHeld = false
          ∧ s'.seq.restStart = some (timeAfter t s))
      ∧ (s.humid.state ≠ .disabled → s'.humid.state = .seeding ∧ s'.humid.baseline = none
          ∧ s'.humid.boostStart = none ∧ s'.humid.falling = 0)
      ∧ s'.peers = s.peers ∧ s'.house = s.house ∧ s'.cfg = s.cfg ∧ s'.loader = s.loader ∧ s'.lane = s.lane
      ∧ s'.roomClass = s.roomClass ∧ s'.stationIndex = s.stationIndex ∧ s'.frost.account = s.frost.account
      ∧ s'.climate.ring = s.climate.ring ∧ s'.ctl.steady = s.ctl.steady ∧ s'.pending = s.pending

/-- While LINE is clear, no counting row is above the house row and it is the own preferred row or a counting
peer's; a peer counts exactly when it is FRESH, has a status part and announces a running clock; while LINE
is active the house row is the own preferred row. (R7) -/
def Obligations.HouseRowIsTheLargest : Prop :=
  ∀ s : State,
    (s.line.active = true → houseRow s = preferredRow s)
    ∧ (s.line.active = false →
        preferredRow s ≤ houseRow s
        ∧ (∀ p ∈ s.peers, ∀ st, p.fresh = true → p.status = some st → st.running = true → st.row ≤ houseRow s)
        ∧ (houseRow s = preferredRow s
          ∨ ∃ p ∈ s.peers, ∃ st, p.fresh = true ∧ p.status = some st ∧ st.running = true ∧ houseRow s = st.row))

/-- When the running clock has reached E: c rises by 1 modulo 256, S is the boundary time, L is the heard length
of another reference and otherwise the fixed length or the one of the band table by house row and mode; E is
L later. The record of the ended half joins the ring: number, close time, end state, direction, the counted
samples of the window and their means, RH, moisture part by the density table, duration, flow percent,
settled and valid flags. The collection opens again. A valid SUPPLY record gives the own outdoor value, the
outdoor temperature and by hysteresis the band. The active level becomes the requested one, settling falls
by 1 or is 2 at a DEEP rejoin, a STATUS with the mark is pending; the rest named is untouched. That active
equals requested also where this record starts a boost is the model's order (log 4); that the duration
follows R61 and not R2 is log 42. The block is not held in reset. (1.2, 4.3, 4.4, 4.5, 7.3, 2.8) -/
def Obligations.HalfBoundaryMovesTheClock : Prop :=
  (∀ (t e : Time) (s : State), s.inReset = false → s.clock.running = true → s.clock.endTime = some e → e ≤ timeAfter t s →
    ∃ s', exec (.halfBoundary t) s = .next s'
      ∧ s'.clock = { s.clock with
          c := s.clock.c + 1
          startTime := some (timeAfter t s)
          length := nextLength s
          endTime := some (timeAfter t s + seconds (nextLength s)) }
      ∧ (∃ (r : HalfRecord) (cs : List SampleSet), s'.climate.ring = (s.climate.ring ++ [r]).drop (s.climate.ring.length - 3)
          ∧ r.number = s.clock.c ∧ r.close = timeAfter t s
          ∧ r.endState = s.seq.state ∧ (r.settled = true ↔ s.seq.settling = 0)
          ∧ r.direction = (match s.seq.state with
              | .supply => some .supply
              | .extract | .defrost => some .extract
              | .through => some (if s.lane = .A then .supply else .extract)
              | _ => none)
          ∧ cs = s.climate.window.filter (fun x => decide (r.direction ≠ none ∧ x.tag = r.direction
              ∧ x.innerFault = false ∧ x.outerFault = false))
          ∧ r.counted = cs.length ∧ (r.valid = true ↔ cs.length = 8 ∧ s.seq.settling = 0)
          ∧ r.inner = meanOf (cs.filterMap (·.inner)) ∧ r.outer = meanOf (cs.filterMap (·.outer))
          ∧ r.rh = (if cs.length = 8 ∧ ∀ x ∈ cs, x.rhFault = false then meanOf (cs.filterMap (·.rh)) else none)
          ∧ (∀ h T, r.direction = some .extract → r.rh = some h → r.inner = some T →
              r.moisture = some ⟨h.toNat * density T / 1000, dewPoint (h.toNat * density T / 1000)⟩)
          ∧ (r.direction ≠ some .extract ∨ r.rh = none → r.moisture = none)
          ∧ (r.direction = none → r.duration = 0 ∧ r.flowPercent = 0)
          ∧ (r.direction ≠ none →
              (∀ o, s.climate.openTime = some o →
                r.duration = min 600 ((timeAfter t s - max o (s.climate.lastCompletion.getD o)) / 250000))
              ∧ r.flowPercent = if s.fan.probeHold = true then 50 else s.demand.flowPercent)
          ∧ (r.valid = true → r.direction = some .supply →
              s'.climate.ownOutdoor = r.outer ∧ s'.climate.ownOutdoorTime = some (timeAfter t s)
              ∧ s'.climate.outdoor = (if s.climate.outer.fault = true then none else r.outer)
              ∧ (∀ T, s'.climate.outdoor = some T → s.climate.outdoor ≠ some T → s.climate.band ≤ 3 →
                  s'.climate.band = rowAfter s.climate.bandFormed s.climate.band T ∧ s'.climate.bandFormed = true))
          ∧ (r.valid = false ∨ r.direction ≠ some .supply →
              s'.climate.ownOutdoor = s.climate.ownOutdoor ∧ s'.climate.ownOutdoorTime = s.climate.ownOutdoorTime
              ∧ s'.climate.outdoor = s.climate.outdoor ∧ s'.climate.band = s.climate.band))
      ∧ s'.climate.openTime = some (timeAfter t s) ∧ s'.climate.window = [] ∧ s'.climate.lastCompletion = none
      ∧ s'.demand.active = s'.demand.requested
      ∧ s'.seq.settling = (if s.seq.state = .rest ∧ s.seq.rejoin = some .deep then 2 else s.seq.settling - 1)
      ∧ s'.line.statusSlot.pending = true ∧ s'.line.statusMark = true
      ∧ s'.peers = s.peers ∧ s'.house = s.house ∧ s'.cfg = s.cfg ∧ s'.lane = s.lane ∧ s'.roomClass = s.roomClass
      ∧ s'.stationIndex = s.stationIndex ∧ s'.filter.runHours = s.filter.runHours
      ∧ s'.filter.runSeconds = s.filter.runSeconds ∧ s'.filter.countdown = s.filter.countdown
      ∧ s'.fan.periods = s.fan.periods ∧ s'.fan.speed = s.fan.speed ∧ s'.line.modeSlot = s.line.modeSlot
      ∧ s'.line.boostSlot = s.line.boostSlot ∧ s'.line.transmission = s.line.transmission
      ∧ s'.ctl.steady = s.ctl.steady ∧ s'.pending = s.pending)
  ∧ (∀ s : State,
      (∀ n h, s.clock.reference = some n → n ≠ ownNumber s → s.clock.heardLength = some h → nextLength s = h)
      ∧ (s.clock.reference = none ∨ s.clock.reference = some (ownNumber s) ∨ s.clock.heardLength = none →
          (s.cfg.policy = .fixed → nextLength s = s.cfg.fixedLength)
          ∧ (s.cfg.policy = .tracked → nextLength s = (match (if s.house.summer then Mode.normal else s.house.mode) with
              | .away => [90, 80, 60, 40]
              | .normal => [70, 60, 45, 30]
              | .high => [60, 50, 40, 25]).getD (min 3 (houseRow s)) 0)))
  ∧ (∀ rho : Nat → Nat, (∀ i, rho i = [45, 71, 109, 165, 236, 341, 485, 680, 940, 1283, 1730, 2305, 3038, 3963,
        5117].getD i 0) →
      (∀ i x : Nat, i < 14 → x < 50 → density (50 * (i : Int) + (x : Int) - 300) = rho i + (rho (i + 1) - rho i) * x / 50)
      ∧ (∀ T : Int, (T ≤ -300 → density T = 45) ∧ (400 ≤ T → density T = 5117))
      ∧ (∀ i a : Nat, i < 14 → rho i ≤ a → a < rho (i + 1) →
          dewPoint a = -300 + 50 * (i : Int) + (((a - rho i) * 50 / (rho (i + 1) - rho i) : Nat) : Int))
      ∧ ∀ a : Nat, (a < 45 → dewPoint a = -300) ∧ (5117 ≤ a → dewPoint a = 400))

/-- With a frost account too small for any frost test. The entry test is the summer flag with an outdoor
temperature at or above the threshold; the exit test is no flag, no temperature, or one below the threshold
less 2 degrees. SUPPLY and EXTRACT: reversal toward the lane direction for the new c where it is the other
one, or THROUGH, directly or by a reversal. THROUGH: kept, or left directly or by a reversal. REVERSING: the
target follows the same tests; a change of direction restarts SWITCH, or RUNDOWN from SPINUP. REST: a rejoin
reverses, a DEEP one drops the humidity baseline; without one REST stays. DEFROST and PAUSED stay. A
reversal begins in SWITCH below 300 rpm and in RUNDOWN otherwise, with the drive output at 0. At a reversal
of the cycle from SUPPLY, from EXTRACT with a window too short for a valid record, or at a FAST rejoin, a
WAITING probe starts exactly where the six conditions of 8.3 hold. The block is not held in reset. (2.2,
2.3, 2.4, 2.6, 6.4, 8.3) -/
def Obligations.BoundaryTurnsTheCycle : Prop :=
  ∀ (t e : Time) (s : State) (lane : Dir) (enter leave : Prop), s.inReset = false → s.clock.running = true → s.clock.endTime = some e →
    e ≤ timeAfter t s → s.frost.account < 600 → s.demand.flowPercent ≤ 100 →
    lane = laneDirection s.lane (s.clock.c + 1) →
    (enter ↔ s.house.summer = true ∧ ∃ T, s.climate.outdoor = some T ∧ 10 * (s.cfg.summerThreshold : Int) ≤ T) →
    (leave ↔ s.house.summer = false ∨ ∀ T, s.climate.outdoor = some T → T < 10 * (s.cfg.summerThreshold : Int) - 20) →
    ∃ s', exec (.halfBoundary t) s = .next s'
      ∧ (∀ d : Dir, s.seq.state = d.state →
          (¬enter → lane = d → s'.seq.state = d.state)
          ∧ (¬enter → lane = d.other →
              s'.seq.state = .reversing ∧ s'.seq.target = some d.other.target
                ∧ s'.seq.phase = some (firstPhase s.fan.speed) ∧ s'.seq.phaseStart = some (timeAfter t s)
                ∧ s'.fan.driveOutput = 0)
          ∧ (enter → summerDirection s.lane = d → s'.seq.state = .through)
          ∧ (enter → summerDirection s.lane = d.other →
              s'.seq.state = .reversing ∧ s'.seq.target = some .through
                ∧ s'.seq.phase = some (firstPhase s.fan.speed) ∧ s'.fan.driveOutput = 0))
      ∧ (s.seq.state = .through →
          (¬leave → s'.seq.state = .through)
          ∧ (leave → lane = summerDirection s.lane → s'.seq.state = lane.state)
          ∧ (leave → lane ≠ summerDirection s.lane →
              s'.seq.state = .reversing ∧ s'.seq.target = some lane.target
                ∧ s'.seq.phase = some (firstPhase s.fan.speed) ∧ s'.fan.driveOutput = 0))
      ∧ (∀ g, s.seq.state = .reversing → s.seq.target = some g → ∃ g', s'.seq.state = .reversing ∧ s'.seq.target = some g'
          ∧ (g = .supply ∨ g = .extract → (enter → g' = .through) ∧ (¬enter → g' = lane.target))
          ∧ (g = .through → (leave → g' = lane.target) ∧ (¬leave → g' = .through))
          ∧ (g = .defrost → g' = .defrost)
          ∧ (g'.direction s.lane = g.direction s.lane ∨ s.seq.phase = some .rundown →
              s'.seq.phase = s.seq.phase ∧ s'.seq.phaseStart = s.seq.phaseStart ∧ s'.fan.direction = s.fan.direction)
          ∧ (g'.direction s.lane ≠ g.direction s.lane → s.seq.phase = some .switch →
              s'.seq.phase = some .switch ∧ s'.seq.phaseStart = some (timeAfter t s)
                ∧ s'.fan.direction = g'.direction s.lane)
          ∧ (g'.direction s.lane ≠ g.direction s.lane → s.seq.phase = some .spinup →
              s'.seq.phase = some (firstPhase s.fan.speed) ∧ s'.seq.phaseStart = some (timeAfter t s)
                ∧ s'.fan.driveOutput = 0 ∧ s'.fan.holdEnd = none))
      ∧ (s.seq.state = .rest → s.seq.rejoin = none → s'.seq.state = .rest ∧ s'.seq.restStart = s.seq.restStart)
      ∧ (∀ r, s.seq.state = .rest → s.seq.rejoin = some r →
          s'.seq.state = .reversing ∧ s'.seq.rejoin = none ∧ s'.seq.restStart = none
          ∧ (enter → s'.seq.target = some .through) ∧ (¬enter → s'.seq.target = some lane.target)
          ∧ s'.seq.phase = some (firstPhase s.fan.speed) ∧ s'.seq.phaseStart = some (timeAfter t s)
          ∧ s'.humid = (if s.humid.state = .disabled ∨ r = .fast then { s.humid with nextRestCheck := none }
              else if s.humid.state = .boosting then
                { s.humid with baseline := none, falling := 0, nextRestCheck := none }
              else { s.humid with state := .seeding, baseline := none, nextRestCheck := none }))
      ∧ (s.seq.state = .defrost ∨ s.seq.state = .paused → s'.seq.state = s.seq.state)
      ∧ ((∃ d : Dir, s.seq.state = d.state ∧ lane = d.other ∧ (d = .supply ∨ s.climate.window.length < 8))
            ∨ (s.seq.state = .rest ∧ s.seq.rejoin = some .fast) → ¬enter → s.filter.probe = .waiting →
          ((∀ x, s.filter.abandonTime = some x → x < timeAfter t s) ∧ s.frost.stage = .clear ∧ s.seq.settling ≤ 1
              ∧ s.demand.stack = [] ∧ s.climate.inner.fault = false ∧ s.climate.outer.fault = false →
            s'.filter = { s.filter with
              probe := .firstHalf, expected := some lane, halfStart := some (timeAfter t s)
              abandonTime := none, holdPlaced := false, speeds := [] })
          ∧ ((∃ x, s.filter.abandonTime = some x ∧ timeAfter t s ≤ x) ∨ s.frost.stage ≠ .clear ∨ 2 ≤ s.seq.settling
              ∨ s.demand.stack ≠ [] ∨ s.climate.inner.fault = true ∨ s.climate.outer.fault = true →
            s'.filter = s.filter))
      ∧ (s.seq.state ≠ .supply → s.seq.state ≠ .extract → s.seq.state ≠ .through → s.seq.state ≠ .rest →
          s.filter.probe = .waiting → s'.filter = s.filter)

/-- RUNDOWN ends below 300 rpm or 4.0 s after its start: the phase is SWITCH from now, the direction output is
the target's, the drive output is as it was. SWITCH ends 0.2 s after its start: the phase is SPINUP from
now, the output is 350 and held for 1.0 s (with the speed below 600, so that SPINUP does not complete at
once). When local time has reached the spin-up hold end it is absent, the output as it was, and the ramp
starts from it now. Nothing else of the held part moves. The block is not held in reset. (2.2, 3.2) -/
def Obligations.ReversalPhasesEnd : Prop :=
  ∀ (t : Time) (s : State), s.inReset = false →
    (∀ g, s.seq.state = .reversing → s.seq.target = some g → s.seq.phase = some .rundown →
      (s.fan.speed < 300 ∨ ∃ p, s.seq.phaseStart = some p ∧ p + tenths 40 ≤ timeAfter t s) →
      ∃ s', exec (.rundownEnd t) s = .next s'
        ∧ held s' = { held s with
            seq := { s.seq with phase := some .switch, phaseStart := some (timeAfter t s) }
            fan := { s.fan.steady with direction := g.direction s.lane } }
        ∧ s'.fan.driveOutput = s.fan.driveOutput)
    ∧ (∀ g, s.seq.state = .reversing → s.seq.target = some g → s.seq.phase = some .switch →
      ∀ p, s.seq.phaseStart = some p → p + tenths 2 ≤ timeAfter t s → s.fan.speed < 600 →
      ∃ s', exec (.switchDeadTimeEnd t) s = .next s'
        ∧ held s' = { held s with
            seq := { s.seq with phase := some .spinup, phaseStart := some (timeAfter t s) }
            fan := { s.fan.steady with holdEnd := some (timeAfter t s + tenths 10) } }
        ∧ s'.fan.driveOutput = 350)
    ∧ (∀ e, s.fan.holdEnd = some e → e ≤ timeAfter t s → ∃ s', exec (.spinupHoldEnd t) s = .next s'
      ∧ held s' = { held s with fan := { s.fan.steady with holdEnd := none } }
      ∧ s'.fan.driveOutput = s.fan.driveOutput ∧ s'.fan.rampFrom = s.fan.driveOutput
      ∧ s'.fan.rampStart = timeAfter t s)

/-- SPINUP_LIMIT 3.0 s after the phase start with speed above 0, and TACH_CAPTURE whose new period brings the
speed to 600 rpm, complete the reversal. With no rest held, or toward DEFROST: the state is the one the
target names; phase, target and phase start become absent, the spin-up hold ends, and the completion time
goes to the climate front end; direction and levels are untouched; in stage DEFROSTING the entry into
DEFROST begins the first melt step of 10.0 s, and otherwise the frost guard's record is as it was. A probe
half places its hold where the state is the expected one, and is abandoned where it is not. With a rest held
and another target: REST is entered with the drive at 0, which ends a defrost as in O55 (log 50). The clock,
the peers, the house mode and the loader are untouched. The block is not held in reset. (2.2, 2.6, 4.3.1,
8.4, 5.6) -/
def Obligations.SpinupCompletes : Prop :=
  ∀ (t : Time) (s : State) (g : Target) (c : Instr), s.inReset = false → s.seq.state = .reversing → s.seq.phase = some .spinup →
    s.seq.target = some g →
    ((c = .spinupLimit t ∧ 0 < s.fan.speed ∧ ∃ p, s.seq.phaseStart = some p ∧ p + tenths 30 ≤ timeAfter t s)
      ∨ (c = .tachCapture t ∧ ∃ x, s.fan.lastCapture = some x ∧ counterAt t s ≠ x
          ∧ s.fan.ticksSince + (timeAfter t s - s.now) < 65536
          ∧ 600 ≤ ringSpeed (ringAfter s.fan.periods (counterAt t s - x).toNat) ∧ s.fan.periods.length ≤ 4)) →
    ∃ s', exec c s = .next s'
      ∧ (s.seq.restHeld = false ∨ g = .defrost →
          s'.seq = { s.seq with state := g.state, phase := none, target := none, phaseStart := none }
          ∧ s'.fan.driveOutput = outputAt s (timeAfter t s)
          ∧ s'.humid = s.humid
          ∧ s'.frost = (if s.frost.stage = .defrosting ∧ g = .defrost
              then { s.frost with meltStepEnd := some (timeAfter t s + tenths 100) } else s.frost)
          ∧ s'.demand.stack = s.demand.stack ∧ s'.demand.active = s.demand.active
          ∧ s'.line.steady = s.line.steady
          ∧ (s.filter.probing = false → s'.filter = s.filter ∧ s'.fan.probeHold = s.fan.probeHold)
          ∧ (∀ d : Dir, s.filter.probing = true → s.filter.expected = some d → d.target = g →
              s.filter.holdPlaced = false →
              s'.filter = { s.filter with holdPlaced := true } ∧ s'.fan.probeHold = true)
          ∧ (s.filter.probing = true → (∀ d : Dir, s.filter.expected = some d → d.target ≠ g) →
              s'.filter = { s.filter with
                probe := .waiting, abandonTime := some (timeAfter t s), holdPlaced := false, speeds := []
                firstSpeed := none, firstClose := none, halfStart := none, expected := none }
              ∧ s'.fan.probeHold = false))
      ∧ (s.seq.restHeld = true → g ≠ .defrost →
          s'.seq = { s.seq with
            state := .rest, phase := none, target := none, phaseStart := none, restHeld := false
            restStart := some (timeAfter t s), defrostResume := false, pauseEnd := none }
          ∧ s'.fan.driveOutput = 0 ∧ s'.filter.probing = false ∧ restEndsDefrost s s')
      ∧ s'.fan.holdEnd = none ∧ s'.climate = { s.climate with lastCompletion := some (timeAfter t s) }
      ∧ s'.fan.direction = s.fan.direction
      ∧ s'.clock = s.clock ∧ s'.peers = s.peers ∧ s'.house = s.house ∧ s'.cfg = s.cfg ∧ s'.loader = s.loader
      ∧ s'.ctl.steady = s.ctl.steady ∧ s'.pending = s.pending

/-- The history drops the entries older than 60 min and takes the present time. With fewer than three the
station is PAUSED for 30 s with settling 2, and resumes a defrost that was moving; a held rest is taken at
once instead. With three it is STOPPED, a held rest with it: STALL is raised, the clock stops, the
collection closes and the humidity monitor, where not DISABLED, is SEEDING without a baseline. The frost
guard keeps a defrost in PAUSED, without the melt step in progress; REST ends it with LEAVE and the stage by
account; STOPPED ends it with LEAVE and a lockout of 30 minutes, breaks a contention with WITHDRAW and the
stage by account, and ends a blind defrost with LEAVE; otherwise its record stays. That WITHDRAW, and the
LEAVE of a blind defrost, have the forced flag clear is the model's reading (logs 49, 55). Either way the
drive output is 0, the spin-up hold ends, and direction, peers, house mode and configuration are untouched.
The block is not held in reset. (2.7, 6.4, 5.4, 5.6, 5.8) -/
def Obligations.StallPausesOrStops : Prop :=
  ∀ (t : Time) (s : State) (c : Instr), s.inReset = false →
    ((c = .spinupLimit t ∧ s.seq.state = .reversing ∧ s.seq.phase = some .spinup ∧ s.seq.target.isSome = true
        ∧ s.fan.speed = 0 ∧ ∃ p, s.seq.phaseStart = some p ∧ p + tenths 30 ≤ timeAfter t s)
      ∨ (c = .stallReport t ∧ s.seq.moving = true
        ∧ ∃ w, (advance t s).fan.stallWatch = some w ∧ w + tenths 20 ≤ timeAfter t s)) →
    ∃ s', exec c s = .next s'
      ∧ s'.fan.driveOutput = 0 ∧ s'.fan.holdEnd = none ∧ s'.fan.direction = s.fan.direction
      ∧ s'.peers = s.peers ∧ s'.house = s.house ∧ s'.cfg = s.cfg ∧ s'.loader = s.loader ∧ s'.pending = s.pending
      ∧ s'.frost.account = s.frost.account ∧ s'.fan.speed = s.fan.speed
      ∧ ((historyAfter (timeAfter t s) s.seq.stallHistory).length < 3 → s.seq.restHeld = false →
          s'.seq = { s.seq with
            state := .paused, phase := none, target := none, phaseStart := none
            stallHistory := historyAfter (timeAfter t s) s.seq.stallHistory
            pauseEnd := some (timeAfter t s + tenths 300)
            defrostResume := defrostMotion s, settling := 2 }
          ∧ s'.frost = (if s.frost.stage = .defrosting ∧ s.seq.state = .defrost then { s.frost with meltStepEnd := none }
              else s.frost)
          ∧ s'.clock = s.clock ∧ s'.climate = s.climate ∧ s'.ctl.steady = s.ctl.steady)
      ∧ ((historyAfter (timeAfter t s) s.seq.stallHistory).length < 3 → s.seq.restHeld = true →
          s'.seq = { s.seq with
            state := .rest, phase := none, target := none, phaseStart := none
            stallHistory := historyAfter (timeAfter t s) s.seq.stallHistory
            pauseEnd := none, defrostResume := false, settling := 2
            restHeld := false, restStart := some (timeAfter t s) }
          ∧ restEndsDefrost s s'
          ∧ s'.clock = s.clock ∧ s'.climate = s.climate ∧ s'.ctl.steady = s.ctl.steady)
      ∧ (3 ≤ (historyAfter (timeAfter t s) s.seq.stallHistory).length →
          s'.seq = ⟨.stopped, none, none, none, false, none, none, false, none,
            historyAfter (timeAfter t s) s.seq.stallHistory, 0⟩
          ∧ s'.ctl.steady = { s.ctl.steady with stall := true }
          ∧ (s.frost.stage = .contending → s'.frost = { s.frost with
                stage := stageByAccount s.frost.account, notice := some ⟨.withdraw, false⟩
                contentionStart := none, entryAccount := none, windowEnd := none }
              ∧ s'.line.defrostSlot.pending = true)
          ∧ (s.frost.stage = .defrosting → s'.frost = { s.frost with
                stage := .lockout, notice := some ⟨.leave, false⟩, defrostStart := none, meltStepEnd := none
                lockoutEnd := some (timeAfter t s + tenths 18000) }
              ∧ s'.line.defrostSlot.pending = true)
          ∧ (s.frost.stage = .blind → s.frost.blindDefrost = true → s'.frost = { s.frost with
                notice := some ⟨.leave, false⟩, blindDefrost := false, defrostStart := none }
              ∧ s'.line.defrostSlot.pending = true)
          ∧ (s.frost.stage ≠ .contending → s.frost.stage ≠ .defrosting →
              s.frost.stage ≠ .blind ∨ s.frost.blindDefrost = false → s'.frost = s.frost)
          ∧ s'.clock.running = false ∧ s'.clock.endTime = none ∧ s'.clock.startTime = none
          ∧ s'.clock.heardLength = none ∧ s'.clock.c = s.clock.c ∧ s'.clock.length = s.clock.length
          ∧ s'.climate = { s.climate with openTime := none, window := [], lastCompletion := none }
          ∧ (s.humid.state ≠ .disabled → s'.humid.state = .seeding ∧ s'.humid.baseline = none
              ∧ (s.humid.state = .boosting →
                  s'.demand.stack = without .humidity (ownNumber s) s.demand.stack)))

/-- With no last capture the counter's value is stored and no period formed; with one, and fewer than 65536
ticks since, the difference modulo 65536 joins the ring of four and the speed is 7500000 over the mean
period, both truncated; a difference of 0 is an overflow. The value becomes the last capture in every case
and the ticks since capture are 0. Outside REVERSING, in RUNDOWN at 300 rpm or more within its 4.0 s, in
SWITCH, and in SPINUP below 600 rpm nothing else of the held part moves; in RUNDOWN below 300 rpm SWITCH
begins now, with the direction output the target's (a capture that completes SPINUP is in O31). The block is
not held in reset. (3.5, 2.2) -/
def Obligations.CaptureMeasuresTheSpeed : Prop :=
  ∀ (t : Time) (s : State) (f : FanRec), s.inReset = false → s.fan.periods.length ≤ 4 →
    (∀ x, s.fan.lastCapture = some x → s.fan.ticksSince + (timeAfter t s - s.now) < 65536) →
    f = (match s.fan.lastCapture with
      | none => { s.fan.steady with lastCapture := some (counterAt t s) }
      | some x =>
        if counterAt t s = x then { s.fan.steady with lastCapture := some (counterAt t s), periods := [], speed := 0 }
        else { s.fan.steady with
          lastCapture := some (counterAt t s)
          periods := ringAfter s.fan.periods (counterAt t s - x).toNat
          speed := ringSpeed (ringAfter s.fan.periods (counterAt t s - x).toNat) }) →
    (s.seq.state ≠ .reversing
        ∨ (s.seq.phase = some .rundown ∧ 300 ≤ f.speed ∧ ∀ p, s.seq.phaseStart = some p → timeAfter t s < p + tenths 40)
        ∨ s.seq.phase = some .switch ∨ (s.seq.phase = some .spinup ∧ f.speed < 600) →
      ∃ s', exec (.tachCapture t) s = .next s' ∧ s'.fan.ticksSince = 0 ∧ held s' = { held s with fan := f })
    ∧ (∀ g, s.seq.state = .reversing → s.seq.phase = some .rundown → s.seq.target = some g → f.speed < 300 →
      ∃ s', exec (.tachCapture t) s = .next s' ∧ s'.fan.ticksSince = 0
        ∧ held s' = { held s with
            seq := { s.seq with phase := some .switch, phaseStart := some (timeAfter t s) }
            fan := { f with direction := g.direction s.lane } })

/-- With a last capture and 65536 ticks since it: the ring is empty, the last capture absent, the ticks 0 and
the speed 0. Outside REVERSING nothing else of the held part moves; in RUNDOWN with a target the phase
becomes SWITCH and the direction output the target's. The block is not held in reset. (3.5) -/
def Obligations.CaptureOverflows : Prop :=
  ∀ (t : Time) (s : State), s.inReset = false → s.fan.lastCapture.isSome = true → 65536 ≤ s.fan.ticksSince + (timeAfter t s - s.now) →
    (s.seq.state ≠ .reversing → ∃ s', exec (.captureOverflow t) s = .next s' ∧ s'.fan.ticksSince = 0
      ∧ held s' = { held s with fan := { s.fan.steady with lastCapture := none, periods := [], speed := 0 } })
    ∧ (∀ g, s.seq.state = .reversing → s.seq.phase = some .rundown → s.seq.target = some g →
      ∃ s', exec (.captureOverflow t) s = .next s' ∧ s'.fan.ticksSince = 0
      ∧ held s' = { held s with
          seq := { s.seq with phase := some .switch, phaseStart := some (timeAfter t s) }
          fan := { s.fan.steady with
            lastCapture := none, periods := [], speed := 0, direction := g.direction s.lane } })

/-- For every state, STOPPED included (the model's reading, log 53), the entries whose age has reached 60 min
leave and nothing else of the held part moves. That an entry leaves as it reaches the age is the model's
reading of the worked sequence of 2.9.2 (log 15). The block is not held in reset. (2.7) -/
def Obligations.StallHistoryAges : Prop :=
  ∀ (t : Time) (s : State), s.inReset = false → ∃ s', exec (.stallHistoryAgeing t) s = .next s'
    ∧ held s' = { held s with seq := { s.seq with
        stallHistory := s.seq.stallHistory.filter (fun x => timeAfter t s < x + tenths 36000) } }

/-- In PAUSED at the pause end: REVERSING toward DEFROST where defrost resume is set, which is cleared, and
otherwise toward the lane direction for c; the phase is SWITCH below 300 rpm, with the direction set, and
RUNDOWN otherwise; the drive output is 0. The clock, peers, house mode, levels, frost account and loader are
untouched. The block is not held in reset. (2.7) -/
def Obligations.PauseEnds : Prop :=
  ∀ (t e : Time) (s : State), s.inReset = false → s.seq.state = .paused → s.seq.pauseEnd = some e → e ≤ timeAfter t s →
    ∃ s', exec (.pauseEnd t) s = .next s'
      ∧ s'.seq = { s.seq with
          state := .reversing
          target := some (if s.seq.defrostResume then .defrost else (laneDirection s.lane s.clock.c).target)
          phase := some (firstPhase s.fan.speed), phaseStart := some (timeAfter t s)
          pauseEnd := none, defrostResume := false }
      ∧ s'.fan.driveOutput = 0 ∧ s'.fan.holdEnd = none
      ∧ s'.fan.direction = (if s.fan.speed < 300 then
          (if s.seq.defrostResume then .extract else laneDirection s.lane s.clock.c) else s.fan.direction)
      ∧ s'.clock = s.clock ∧ s'.peers = s.peers ∧ s'.house = s.house ∧ s'.cfg = s.cfg ∧ s'.loader = s.loader
      ∧ s'.climate = s.climate ∧ s'.humid = s.humid ∧ s'.frost = s.frost ∧ s'.demand.stack = s.demand.stack
      ∧ s'.demand.active = s.demand.active ∧ s'.line.steady = s.line.steady ∧ s'.ctl.steady = s.ctl.steady
      ∧ s'.pending = s.pending

/-- For every three codes and state, SAMPLE answers a next state: each channel acts on its code, a thermistor
code in 100..3995 read from the table of 17 points by interpolation and held to -400..600, any other not
converted; the sample set of the time, the three held values, the three flags, the sequencer state in force
at the sample and its direction tag joins the stream, of which the last 16 sets stay (that size is the
model's, log 8), and, while the collection is open, the window of eight. The outdoor temperature is absent
under the OUTER fault, the own value for 1800.0 s, and then the peers' fallback or the last one; a new one
moves the band with hysteresis. Clock, peers, house mode, configuration and loader never move. Where no
fault flag changes, sequencer, frost guard, humidity monitor, stack, ring, line and controls are untouched,
and a probe with its hold placed and the output at 600 takes a speed reading, the last ten. That the set
carries the state before the sample's own effects is the model's reading (log 30). The block is not held in
reset. (4.1, 4.2, 4.3, 4.4, 8.4) -/
def Obligations.SampleIsTaken : Prop :=
  (∀ (i o h : BitVec 12) (t : Time) (s : State), s.inReset = false → ∃ s', exec (.sample i o h t) s = .next s'
    ∧ afterCode (convertThermistor i) s.climate.inner s'.climate.inner
    ∧ afterCode (convertThermistor o) s.climate.outer s'.climate.outer
    ∧ afterCode (convertHumidity h) s.climate.humidity s'.climate.humidity
    ∧ s'.now = timeAfter t s
    ∧ (∀ x : SampleSet,
        x = {
          time := timeAfter t s, inner := s'.climate.inner.held, outer := s'.climate.outer.held
          rh := s'.climate.humidity.held, innerFault := s'.climate.inner.fault, outerFault := s'.climate.outer.fault
          rhFault := s'.climate.humidity.fault, state := s.seq.state
          tag := (match s.seq.state with
            | .supply => some .supply
            | .extract | .defrost => some .extract
            | .through => some (if s.lane = .A then .supply else .extract)
            | _ => none) } →
        s'.climate.stream = (s.climate.stream ++ [x]).drop (s.climate.stream.length + 1 - 16)
        ∧ (s.climate.openTime.isSome = true → s'.climate.window =
            (s.climate.window ++ [x]).drop (s.climate.window.length + 1 - 8)))
    ∧ (s.climate.openTime = none → s'.climate.window = s.climate.window)
    ∧ s'.climate.openTime = s.climate.openTime
    ∧ (s'.climate.outer.fault = true → s'.climate.outdoor = none)
    ∧ (s'.climate.outer.fault = false →
        (∀ x, s.climate.ownOutdoorTime = some x → timeAfter t s ≤ x + seconds 1800 →
          s'.climate.outdoor = s.climate.ownOutdoor)
        ∧ ((∀ x, s.climate.ownOutdoorTime = some x → x + seconds 1800 < timeAfter t s) →
          s'.climate.outdoor = (if outdoorFallback s = none then s.climate.outdoor else outdoorFallback s)))
    ∧ (s'.climate.outdoor = none ∨ s'.climate.outdoor = s.climate.outdoor →
        s'.climate.band = s.climate.band ∧ s'.climate.bandFormed = s.climate.bandFormed)
    ∧ (∀ T, s'.climate.outdoor = some T → s.climate.outdoor ≠ some T → s.climate.band ≤ 3 →
        s'.climate.band = rowAfter s.climate.bandFormed s.climate.band T ∧ s'.climate.bandFormed = true)
    ∧ s'.clock = s.clock ∧ s'.peers = s.peers ∧ s'.house = s.house ∧ s'.cfg = s.cfg ∧ s'.loader = s.loader
    ∧ s'.strapsRead = s.strapsRead ∧ s'.stationIndex = s.stationIndex ∧ s'.lane = s.lane
    ∧ s'.roomClass = s.roomClass ∧ s'.pending = s.pending
    ∧ (s'.climate.inner.fault = s.climate.inner.fault → s'.climate.outer.fault = s.climate.outer.fault →
        s'.climate.humidity.fault = s.climate.humidity.fault →
        s'.seq = s.seq ∧ s'.frost = s.frost ∧ s'.humid = s.humid ∧ s'.demand.stack = s.demand.stack
        ∧ s'.demand.active = s.demand.active ∧ s'.climate.ring = s.climate.ring ∧ s'.fan.steady = s.fan.steady
        ∧ s'.line.steady = s.line.steady ∧ s'.ctl.steady = s.ctl.steady
        ∧ s'.filter = (if s.filter.holdPlaced = true ∧ outputAt s (timeAfter t s) = 600 then
            { s.filter with
              speeds := (s.filter.speeds ++ [min 65535 s.fan.speed]).drop (s.filter.speeds.length + 1 - 10) }
          else s.filter)))
  ∧ (∀ tab : Nat → Int, (∀ n, tab n = [1500, 960, 760, 630, 530, 450, 380, 310, 250, 190, 130, 70, 10, -60, -140, -250,
        -450].getD n 0) → ∀ k : BitVec 12,
      (100 ≤ k.toNat → k.toNat ≤ 3995 → ∀ n f : Nat, k.toNat = 256 * n + f → f < 256 →
        convertThermistor k = some (max (-400) (min 600 (tab n + ((tab (n + 1) - tab n) * (f : Int)).tdiv 256))))
      ∧ (k.toNat < 100 ∨ 3995 < k.toNat → convertThermistor k = none))

/-- INNER or OUTER raised: every record in the ring is invalid and no probe is in progress. OUTER raised
besides: stage BLIND, outdoor temperature absent, melt step and lockout absent, a defrost kept as a blind
defrost, a contention withdrawn. OUTER cleared in BLIND: a blind defrost is a DEFROSTING again, with melt
steps in DEFROST; without one the stage is the stage by account, which from 3200 is forced to defrost and
from 1600 contends or is DEFERRED. HUMIDITY raised at a WET or KITCHEN station: the monitor is DISABLED and
empty and its override entry is gone; cleared: SEEDING. That the WITHDRAW has the forced flag clear is the
model's choice (log 55). The block is not held in reset. (4.2, 5.4, 5.5, 5.8, 6.1, 8.6) -/
def Obligations.ProbeFaultsAct : Prop :=
  ∀ (i o h : BitVec 12) (t : Time) (s : State), s.inReset = false → ∃ s', exec (.sample i o h t) s = .next s'
    ∧ ((s.climate.inner.fault = false ∧ thermistorValid i = false)
        ∨ (s.climate.outer.fault = false ∧ thermistorValid o = false) →
        (∀ r ∈ s'.climate.ring, r.valid = false) ∧ s'.filter.probing = false)
    ∧ (s.climate.outer.fault = false → thermistorValid o = false →
        s'.frost.stage = .blind ∧ s'.climate.outdoor = none ∧ s'.climate.ownOutdoor = none
        ∧ s'.frost.account = s.frost.account
        ∧ (s.frost.stage = .defrosting → s'.frost.blindDefrost = true ∧ s'.frost.meltStepEnd = none
            ∧ s'.frost.defrostStart = s.frost.defrostStart ∧ s'.seq = s.seq)
        ∧ (s.frost.stage = .contending → s'.frost.notice = some ⟨.withdraw, false⟩
            ∧ s'.line.defrostSlot.pending = true ∧ s'.frost.windowEnd = none ∧ s'.frost.contentionStart = none)
        ∧ (s.frost.stage = .lockout → s'.frost.lockoutEnd = none))
    ∧ (s.climate.outer.fault = true → thermistorValid o = true → s.climate.outer.validRun = 9 →
        s.frost.stage = .blind → s.frost.blindDefrost = false → s.frost.account < 1600 →
        s'.frost.stage = stageByAccount s.frost.account ∧ s'.frost.account = s.frost.account)
    ∧ (s.climate.outer.fault = true → thermistorValid o = true → s.climate.outer.validRun = 9 →
        s.frost.stage = .blind →
        (s.frost.blindDefrost = true → s'.seq = s.seq ∧ s'.frost = { s.frost with
          stage := .defrosting, blindDefrost := false
          meltStepEnd := if s.seq.state = .defrost then some (timeAfter t s + seconds 10) else s.frost.meltStepEnd })
        ∧ (s.frost.blindDefrost = false → 3200 ≤ s.frost.account → s.seq.state.refusesDefrost = false →
          s'.frost.stage = .defrosting ∧ s'.frost.notice = some ⟨.enter, true⟩
          ∧ s'.frost.defrostStart = some (timeAfter t s) ∧ s'.line.defrostSlot.pending = true)
        ∧ (s.frost.blindDefrost = false → 1600 ≤ s.frost.account → s.frost.account < 3200 →
          s.seq.state.skipsWant = false → s.seq.settling = 0 → s.line.active = false → s'.seq = s.seq
          ∧ (placesInUse s < s.cfg.allowance → s'.frost = { s.frost with
              stage := .contending, notice := some ⟨.enter, false⟩
              contentionStart := some (timeAfter t s), entryAccount := none, windowEnd := none }
            ∧ s'.line.defrostSlot.pending = true)
          ∧ (s.cfg.allowance ≤ placesInUse s → s'.frost = { s.frost with stage := .deferred })))
    ∧ (s.climate.humidity.fault = false → humidityValid h = false → s.roomClass ≠ .dry →
        s'.humid = ⟨.disabled, none, none, 0, none⟩
        ∧ (s.humid.state = .boosting → s'.demand.stack = without .humidity (ownNumber s) s.demand.stack))
    ∧ (s.climate.humidity.fault = true → humidityValid h = true → s.climate.humidity.validRun = 9 →
        s.roomClass ≠ .dry → s.humid.state = .disabled → s'.humid.state = .seeding)

/-- With the output at 0 nothing of the held part moves. Above 0 the run seconds rise; at 3600 they are 0 again,
and unless the run hours hold at 65535 the hours rise, the countdown falls (not below 0) and turns CLEAN to
DUE as it reaches 0, hours to probe fall in IDLE and the probe is WAITING at 0, and a write-back is
requested at a multiple of 24 hours or a rise of the state. The block is not held in reset. (8.2, 8.7) -/
def Obligations.RunSecondsCount : Prop :=
  ∀ (t : Time) (s : State), s.inReset = false → ∃ s', exec (.runSecond t) s = .next s'
    ∧ (outputAt s (timeAfter t s) = 0 → held s' = held s)
    ∧ (outputAt s (timeAfter t s) ≠ 0 → s.filter.runSeconds < 3599 →
        held s' = { held s with filter := { s.filter with runSeconds := s.filter.runSeconds + 1 } })
    ∧ (outputAt s (timeAfter t s) ≠ 0 → 3599 ≤ s.filter.runSeconds → s.filter.runHours = 65535 →
        held s' = { held s with filter := { s.filter with runSeconds := 0 } })
    ∧ (outputAt s (timeAfter t s) ≠ 0 → 3599 ≤ s.filter.runSeconds → s.filter.runHours ≠ 65535 →
        held s' = { held s with
          filter := { s.filter with
            runSeconds := 0
            runHours := s.filter.runHours + 1
            countdown := s.filter.countdown - 1
            state := s'.filter.state
            hoursToProbe := if s.filter.probe = .idle then s.filter.hoursToProbe - 1 else s.filter.hoursToProbe
            probe := if s.filter.probe = .idle ∧ s.filter.hoursToProbe ≤ 1 then .waiting else s.filter.probe }
          loader := s'.loader }
        ∧ s'.filter.state = (if s.filter.state = .clean ∧ s.filter.countdown = 1 then .due else s.filter.state)
        ∧ ((s.filter.runHours + 1) % 24 ≠ 0 → s'.filter.state = s.filter.state → s'.loader = s.loader)
        ∧ (s.loader.writeEnabled = true →
            ((s.filter.runHours + 1) % 24 = 0 ∨ s'.filter.state ≠ s.filter.state) →
            (s.loader.inFlight = true → s'.loader = { s.loader with writePending := true })
            ∧ (s.loader.inFlight = false →
                s'.loader = { s.loader with inFlight := true, writeBytes := filterRecordBytes s'.filter })))

/-- In CONTENDING at the window end. In REST, STARTING, LISTEN or STOPPED: WITHDRAW is queued and the stage by
account taken. Otherwise, with the precedence count below the allowance: stage DEFROSTING, the defrost start
now, the contention fields absent, no further notice, and the order goes to the sequencer (from EXTRACT
directly, with melt steps, as from THROUGH in lane B; from SUPPLY, and THROUGH in lane A, by a reversal; in
REVERSING by a retarget to DEFROST, which from the other direction turns the direction in SWITCH with a new
dead time and begins RUNDOWN anew in SPINUP; in PAUSED for later). With it not below: WITHDRAW and DEFERRED,
unless the account is 3200 or more, which forces the defrost with a forced ENTER. The precedence count is
the number of FRESH peers with a standing of DEFROSTING, or of CONTENDING with the forced flag, an earlier
notice time, a greater account, or an equal account and a lower number; the places in use are the FRESH
peers with either standing; both are 0 under LINE. That the WITHDRAW has the forced flag clear is the
model's choice (log 55). The block is not held in reset. (5.4, 5.5, 2.5, 9.3, 2.2) -/
def Obligations.ContentionIsDecided : Prop :=
  (∀ (t e : Time) (s : State), s.inReset = false → s.frost.stage = .contending → s.frost.windowEnd = some e → e ≤ timeAfter t s →
    ∃ s', exec (.contentionWindowEnd t) s = .next s'
      ∧ (s.seq.state.refusesDefrost = true →
          held s' = { held s with
            frost := { s.frost with
              stage := stageByAccount s.frost.account, notice := some ⟨.withdraw, false⟩
              contentionStart := none, entryAccount := none, windowEnd := none }
            line := s.line.steady.request .defrost })
      ∧ (s.seq.state.refusesDefrost = false → s.cfg.allowance ≤ precedenceCount s → s.frost.account < 3200 →
          held s' = { held s with
            frost := { s.frost with
              stage := .deferred, notice := some ⟨.withdraw, false⟩
              contentionStart := none, entryAccount := none, windowEnd := none }
            line := s.line.steady.request .defrost })
      ∧ (s.seq.state.refusesDefrost = false → s.cfg.allowance ≤ precedenceCount s → 3200 ≤ s.frost.account →
          s'.frost.stage = .defrosting ∧ s'.frost.notice = some ⟨.enter, true⟩ ∧ s'.line.defrostSlot.pending = true
          ∧ s'.frost.defrostStart = some (timeAfter t s) ∧ s'.frost.account = s.frost.account)
      ∧ (s.seq.state.refusesDefrost = false → precedenceCount s < s.cfg.allowance →
          s'.frost = { s.frost with
            stage := .defrosting, defrostStart := some (timeAfter t s), meltStepEnd := s'.frost.meltStepEnd
            contentionStart := none, entryAccount := none, windowEnd := none }
          ∧ (s.seq.state = .extract → s'.seq = { s.seq with state := .defrost }
              ∧ s'.frost.meltStepEnd = some (timeAfter t s + seconds 10))
          ∧ (s.seq.state = .supply → s'.seq.state = .reversing ∧ s'.seq.target = some .defrost
              ∧ s'.fan.driveOutput = 0)
          ∧ (s.seq.state = .through → s.lane = .B → s'.seq = { s.seq with state := .defrost }
              ∧ s'.frost.meltStepEnd = some (timeAfter t s + seconds 10))
          ∧ (s.seq.state = .through → s.lane = .A → s'.seq = { s.seq with
                state := .reversing, target := some .defrost
                phase := some (firstPhase s.fan.speed), phaseStart := some (timeAfter t s) }
              ∧ s'.fan.driveOutput = 0)
          ∧ (s.seq.state = .reversing →
              (s.seq.target = some .defrost → s'.seq = s.seq ∧ s'.fan.direction = s.fan.direction)
              ∧ (s.seq.target = some .extract ∨ (s.seq.target = some .through ∧ s.lane = .B) →
                s'.seq = { s.seq with target := some .defrost } ∧ s'.fan.direction = s.fan.direction)
              ∧ (s.seq.target = some .supply ∨ (s.seq.target = some .through ∧ s.lane = .A) →
                (s.seq.phase = some .rundown →
                  s'.seq = { s.seq with target := some .defrost } ∧ s'.fan.direction = s.fan.direction)
                ∧ (s.seq.phase = some .switch →
                  s'.seq = { s.seq with target := some .defrost, phaseStart := some (timeAfter t s) }
                  ∧ s'.fan.direction = .extract)
                ∧ (s.seq.phase = some .spinup →
                  s'.seq = { s.seq with
                    target := some .defrost, phase := some (firstPhase s.fan.speed), phaseStart := some (timeAfter t s) }
                  ∧ s'.fan.driveOutput = 0 ∧ s'.fan.holdEnd = none
                  ∧ s'.fan.direction = (if s.fan.speed < 300 then .extract else s.fan.direction))))
          ∧ (s.seq.state = .paused → s'.seq = { s.seq with defrostResume := true }))
      ∧ s'.clock = s.clock ∧ s'.peers = s.peers ∧ s'.house = s.house ∧ s'.cfg = s.cfg ∧ s'.loader = s.loader
      ∧ s'.climate = s.climate ∧ s'.demand.stack = s.demand.stack ∧ s'.ctl.steady = s.ctl.steady
      ∧ s'.pending = s.pending)
  ∧ (∀ q : SeqState, q.refusesDefrost = true ↔ q = .rest ∨ q = .starting ∨ q = .listen ∨ q = .stopped)
  ∧ ∀ s : State,
    (s.line.active = true → precedenceCount s = 0 ∧ placesInUse s = 0)
    ∧ (s.line.active = false → placesInUse s = s.peers.countP (fun p => decide (p.fresh = true
        ∧ (standingOf p.defrost = .contending ∨ standingOf p.defrost = .defrosting))))
    ∧ (∀ start entry, s.line.active = false → s.frost.contentionStart = some start → s.frost.entryAccount = some entry →
        precedenceCount s = s.peers.countP (fun p => match p.defrost with
          | none => false
          | some d => decide (p.fresh = true ∧ (d.standing = .defrosting ∨ (d.standing = .contending
              ∧ (d.forced = true ∨ d.time < start ∨ entry < d.account
                ∨ (d.account = entry ∧ p.number < ownNumber s)))))))

/-- At a melt step end in DEFROSTING the mean x of the outer temperatures tagged extract, without the OUTER flag
and from the 10.0 s before the step end takes x * 70 * 10 / 600 from the account where x is 10 or more (not
below 0). Above 100 the next step begins and nothing else moves. At 100 or less the account is 0, the stage
CLEAR, LEAVE is queued, and the sequencer ends the defrost: a held rest is taken, and otherwise it goes on
as the lane direction says. At 15 minutes with the account above 100 LEAVE is queued and the stage is
LOCKOUT for 30 minutes, the account kept; at 3200 or more, where the sequencer takes it, the forced test
orders the next defrost at once with a forced ENTER, and each change of stage is announced and shown. That
the forced test follows at once is the model's reading (log 17). The block is not held in reset. (5.3, 5.5,
5.6, 2.5) -/
def Obligations.DefrostMeltsAndEnds : Prop :=
  ∀ (t : Time) (s : State), s.inReset = false → s.frost.stage = .defrosting →
    (∀ e, s.frost.meltStepEnd = some e → e ≤ timeAfter t s → ∀ (xs : List Int) (a : Nat),
      xs = s.climate.stream.filterMap (fun x => if x.tag = some .extract ∧ x.outerFault = false
        ∧ e ≤ x.time + tenths 100 ∧ x.time < e then x.outer else none) →
      a = (if xs ≠ [] ∧ 10 ≤ xs.sum.tdiv (xs.length : Int)
        then s.frost.account - (xs.sum.tdiv (xs.length : Int)).toNat * 70 * 10 / 600 else s.frost.account) →
      ∃ s', exec (.meltStepEnd t) s = .next s'
        ∧ (100 < a → held s' = { held s with
            frost := { s.frost with account := a, meltStepEnd := some (e + tenths 100) } })
        ∧ (a ≤ 100 → s'.frost = { s.frost with
              account := 0, stage := .clear, notice := some ⟨.leave, false⟩, defrostStart := none, meltStepEnd := none }
            ∧ s'.line.defrostSlot.pending = true ∧ s'.line.statusSlot.pending = true
            ∧ (s.seq.state = .defrost → s.seq.restHeld = true → s'.seq.state = .rest)
            ∧ (s.seq.state = .defrost → s.seq.restHeld = false → laneDirectionNow s = .extract →
                s'.seq = { s.seq with state := .extract })
            ∧ (s.seq.state = .defrost → s.seq.restHeld = false → laneDirectionNow s = .supply →
                s'.seq.state = .reversing ∧ s'.seq.target = some .supply ∧ s'.fan.driveOutput = 0))
        ∧ s'.clock = s.clock ∧ s'.peers = s.peers ∧ s'.house = s.house ∧ s'.cfg = s.cfg ∧ s'.climate = s.climate
        ∧ s'.ctl.steady = s.ctl.steady ∧ s'.loader = s.loader ∧ s'.pending = s.pending)
    ∧ (∀ b, s.frost.defrostStart = some b → b + tenths 9000 ≤ timeAfter t s → 100 < s.frost.account →
      ∃ s', exec (.defrostTimeLimit t) s = .next s'
        ∧ (s.frost.account < 3200 ∨ s.seq.state.refusesDefrost = true
              ∨ (s.seq.state = .defrost ∧ s.seq.restHeld = true) →
          s'.frost = { s.frost with
            stage := .lockout, notice := some ⟨.leave, false⟩, defrostStart := none, meltStepEnd := none
            lockoutEnd := some (timeAfter t s + tenths 18000) })
        ∧ (s.seq.state = .defrost → s.seq.restHeld = true → s'.seq.state = .rest)
        ∧ (s.frost.account < 3200 → s.seq.state = .defrost → s.seq.restHeld = false → laneDirectionNow s = .extract →
            s'.seq = { s.seq with state := .extract })
        ∧ (s.frost.account < 3200 → s.seq.state = .defrost → s.seq.restHeld = false → laneDirectionNow s = .supply →
            s'.seq.state = .reversing ∧ s'.seq.target = some .supply ∧ s'.fan.driveOutput = 0)
        ∧ (s.frost.account < 3200 → s.seq.state = .paused → s'.seq = { s.seq with defrostResume := false })
        ∧ (3200 ≤ s.frost.account → s.seq.state.refusesDefrost = false →
              ¬(s.seq.state = .defrost ∧ s.seq.restHeld = true) →
          s'.frost = { s.frost with
            stage := .defrosting, notice := some ⟨.enter, true⟩, contentionStart := none, entryAccount := none
            windowEnd := none, defrostStart := some (timeAfter t s), meltStepEnd := s'.frost.meltStepEnd
            lockoutEnd := none }
          ∧ s'.ctl.green = ⟨.slowBlink, timeAfter t s⟩
          ∧ (s.seq.state = .defrost → laneDirectionNow s = .extract →
              s'.seq = s.seq ∧ s'.frost.meltStepEnd = some (timeAfter t s + tenths 100))
          ∧ (s.seq.state = .defrost → laneDirectionNow s = .supply →
              s'.seq.state = .reversing ∧ s'.seq.target = some .defrost)
          ∧ (s.seq.state = .paused → s'.seq = { s.seq with defrostResume := true }))
        ∧ s'.line.defrostSlot.pending = true ∧ s'.line.statusSlot.pending = true
        ∧ s'.clock = s.clock ∧ s'.peers = s.peers ∧ s'.house = s.house ∧ s'.cfg = s.cfg ∧ s'.climate = s.climate
        ∧ s'.ctl.steady = s.ctl.steady ∧ s'.loader = s.loader ∧ s'.pending = s.pending)

/-- A blind defrost of 15 minutes ends: the account is 0, the flag and start are cleared, LEAVE is queued, the
stage stays BLIND. The stage by account is LIMITING from 600 and CLEAR below. At the lockout end below 1600
the stage is the stage by account and nothing else of the held part moves; from 1600 to 3199, cycling and
settled with LINE clear, the station contends where a place is free and is DEFERRED where none is. At a half
boundary outside DEFROSTING and BLIND a changed account moves CLEAR to LIMITING from 800, LIMITING to CLEAR
below 600 and DEFERRED below 1600 to the stage by account. Where the stage leaves CLEAR no probe is in
progress afterward: one in its first half, or started at this boundary, is abandoned (for the second half
see O60). From 1600, where the account changed, in DEFERRED, or in LIMITING with a valid EXTRACT record, the
want test is made: cycling and settled the station contends, is DEFERRED where no place is free, and
defrosts alone under LINE. From 3200 it is forced to defrost, also in PAUSED. In the other states of the
sequencer neither test is made; CONTENDING and LOCKOUT stay below 3200. That the LEAVE has no forced flag is
the model's reading (log 49); the boundary's order is that of log 4, and the forced test comes before the
want test also where the account stays (log 52). The block is not held in reset. (5.7, 5.8, 5.4, 5.2, 5.3,
5.5, 8.6) -/
def Obligations.BlindDefrostAndLockoutEnd : Prop :=
  (∀ (t : Time) (s : State), s.inReset = false →
    (∀ b, s.frost.stage = .blind → s.frost.blindDefrost = true → s.frost.defrostStart = some b →
      b + seconds 900 ≤ timeAfter t s →
      ∃ s', exec (.blindDefrostLimit t) s = .next s'
        ∧ s'.frost = { s.frost with
            account := 0, notice := some ⟨.leave, false⟩, blindDefrost := false, defrostStart := none }
        ∧ s'.line.defrostSlot.pending = true
        ∧ (s.seq.state = .defrost → s.seq.restHeld = false → laneDirectionNow s = .extract →
            s'.seq = { s.seq with state := .extract })
        ∧ (s.seq.state = .paused → s'.seq = { s.seq with defrostResume := false })
        ∧ s'.clock = s.clock ∧ s'.peers = s.peers ∧ s'.house = s.house ∧ s'.cfg = s.cfg ∧ s'.climate = s.climate
        ∧ s'.ctl.steady = s.ctl.steady ∧ s'.pending = s.pending)
    ∧ (∀ e, s.frost.stage = .lockout → s.frost.lockoutEnd = some e → e ≤ timeAfter t s →
      (s.frost.account < 1600 → ∃ s', exec (.lockoutEnd t) s = .next s'
        ∧ held s' = { held s with
            frost := { s.frost with stage := stageByAccount s.frost.account, lockoutEnd := none } })
      ∧ (1600 ≤ s.frost.account → s.frost.account < 3200 → s.seq.state.skipsWant = false → s.seq.settling = 0 →
        s.line.active = false → ∃ s', exec (.lockoutEnd t) s = .next s'
        ∧ (placesInUse s < s.cfg.allowance → held s' = { held s with
            frost := { s.frost with
              stage := .contending, lockoutEnd := none, notice := some ⟨.enter, false⟩
              contentionStart := some (timeAfter t s), entryAccount := none, windowEnd := none }
            line := s.line.steady.request .defrost })
        ∧ (s.cfg.allowance ≤ placesInUse s → held s' = { held s with
            frost := { s.frost with stage := .deferred, lockoutEnd := none } }))))
  ∧ (∀ a, stageByAccount a = if 600 ≤ a then .limiting else .clear)
  ∧ (∀ q : SeqState, q.skipsWant = true ↔ q = .rest ∨ q = .starting ∨ q = .listen ∨ q = .stopped ∨ q = .paused)
  ∧ (∀ (t e : Time) (s : State) (cycles : Prop), s.inReset = false → s.clock.running = true → s.clock.endTime = some e →
      e ≤ timeAfter t s → s.frost.stage ≠ .defrosting → s.frost.stage ≠ .blind →
      (cycles ↔ s.seq.state = .supply ∨ s.seq.state = .extract ∨ s.seq.state = .through ∨ s.seq.state = .defrost
        ∨ s.seq.state = .reversing ∨ (s.seq.state = .rest ∧ s.seq.rejoin.isSome = true)) →
      ∃ s' r a, exec (.halfBoundary t) s = .next s' ∧ s'.climate.ring.getLast? = some r ∧ s'.frost.account = a
        ∧ (s.frost.stage = .clear → s'.frost.stage ≠ .clear → s'.filter.probing = false
          ∧ (s.filter.probe = .firstHalf → s'.filter.probe = .waiting
            ∧ s'.filter.abandonTime = some (timeAfter t s) ∧ s'.fan.probeHold = false)
          ∧ (s.filter.probe = .waiting → s'.filter.probe = .waiting))
        ∧ (a < 1600 → a = s.frost.account → s'.frost = s.frost)
        ∧ (a < 1600 → a ≠ s.frost.account → s'.frost = { s.frost with account := a, stage := match s.frost.stage with
            | .clear => if 800 ≤ a then .limiting else .clear
            | .limiting => if a < 600 then .clear else .limiting
            | .deferred => if a < 600 then .clear else .limiting
            | other => other })
        ∧ (a < 3200 → s.frost.stage = .contending ∨ s.frost.stage = .lockout → s'.frost = { s.frost with account := a })
        ∧ (1600 ≤ a → a < 3200 → s.frost.stage ≠ .contending → s.frost.stage ≠ .lockout → ¬cycles ∨ s'.seq.settling ≠ 0
            ∨ (a = s.frost.account ∧ s.frost.stage ≠ .deferred ∧ (r.valid = false ∨ r.direction ≠ some .extract)) →
          s'.frost = { s.frost with account := a, stage := if s.frost.stage = .clear ∧ a ≠ s.frost.account then .limiting
            else s.frost.stage })
        ∧ (1600 ≤ a → a < 3200 → cycles → s'.seq.settling = 0 → s.frost.stage = .deferred
            ∨ (a ≠ s.frost.account ∧ (s.frost.stage = .clear ∨ s.frost.stage = .limiting))
            ∨ (s.frost.stage = .limiting ∧ r.valid = true ∧ r.direction = some .extract
              ∧ ∀ i o h t', Instr.sample i o h t' ∉ s.pending) →
          (s.line.active = false → placesInUse s < s.cfg.allowance →
            s'.frost = { s.frost with
              account := a, stage := .contending, notice := some ⟨.enter, false⟩
              contentionStart := some (timeAfter t s), entryAccount := none, windowEnd := none }
            ∧ s'.line.defrostSlot.pending = true)
          ∧ (s.line.active = false → s.cfg.allowance ≤ placesInUse s →
            s'.frost = { s.frost with account := a, stage := .deferred })
          ∧ (s.line.active = true →
            s'.frost.stage = .defrosting ∧ s'.frost.defrostStart = some (timeAfter t s)
            ∧ s'.frost.notice = s.frost.notice ∧ s'.line.defrostSlot = s.line.defrostSlot))
        ∧ (3200 ≤ a → cycles ∨ s.seq.state = .paused →
          s'.frost.stage = .defrosting ∧ s'.frost.notice = some ⟨.enter, true⟩
          ∧ s'.frost.defrostStart = some (timeAfter t s) ∧ s'.frost.contentionStart = none
          ∧ s'.frost.entryAccount = none ∧ s'.frost.windowEnd = none ∧ s'.frost.lockoutEnd = none
          ∧ s'.line.defrostSlot.pending = true)
        ∧ (3200 ≤ a → ¬cycles → s.seq.state ≠ .paused → s'.frost = { s.frost with
            account := a, stage := if s.frost.stage = .clear ∧ a ≠ s.frost.account then .limiting else s.frost.stage }))

/-- A boost of 3600.0 s ends in REARMING with the baseline kept, its entry removed and the levels formed again.
A rest check reads the mean humidity of the samples of the 10.0 s before it whose HUMIDITY flag is clear,
and sets the next one 60 s on; without a reading nothing else moves; a reading at the ceiling in SEEDING or
WATCHING with the wake enabled starts a boost with its entry over the others in their order, three at most,
abandons a probe in progress and gives the rest a rejoin; below it nothing else moves; in REARMING a reading
under the ceiling less 5 % leads to WATCHING or, without a baseline, SEEDING; in BOOSTING nothing else
moves. The block is not held in reset. (6.3, 6.5, 7.2, 7.3, 8.6) -/
def Obligations.BoostCapAndRestCheck : Prop :=
  ∀ (t : Time) (s : State), s.inReset = false →
    (∀ b, s.humid.state = .boosting → s.humid.boostStart = some b → b + seconds 3600 ≤ timeAfter t s →
      ∃ s', exec (.boostCap t) s = .next s'
        ∧ held s' = { held s with
            humid := { s.humid with state := .rearming, boostStart := none, falling := 0 }
            stack := without .humidity (ownNumber s) s.demand.stack
            requested := topLevel (without .humidity (ownNumber s) s.demand.stack) (houseModeLevel s)
            active := min s.demand.active
              (topLevel (without .humidity (ownNumber s) s.demand.stack) (houseModeLevel s)) })
    ∧ (∀ e, s.seq.state = .rest → s.humid.nextRestCheck = some e → e ≤ timeAfter t s → ∀ reading : Option Int,
      reading = meanOf (s.climate.stream.filterMap (fun x =>
        if x.rhFault = false ∧ e ≤ x.time + tenths 100 ∧ x.time < e then x.rh else none)) →
      ∃ s', exec (.restCheck t) s = .next s'
        ∧ s'.humid.nextRestCheck = some (e + seconds 60)
        ∧ (reading = none → held s' = { held s with
            humid := { s.humid with nextRestCheck := some (e + seconds 60) } })
        ∧ (s.humid.state = .boosting → held s' = { held s with
            humid := { s.humid with nextRestCheck := some (e + seconds 60) } })
        ∧ (∀ rh, reading = some rh → s.humid.state = .seeding ∨ s.humid.state = .watching →
          (10 * (s.cfg.rhCeiling : Int) ≤ rh → s.cfg.wake.humidityCeiling = true →
            s'.humid = { s.humid with
              state := .boosting, boostStart := some (timeAfter t s), falling := 0
              nextRestCheck := some (e + seconds 60) }
            ∧ s'.demand.stack = ⟨.humidity, ownNumber s, 90, none⟩ :: (without .humidity (ownNumber s) s.demand.stack).take 3
            ∧ s'.demand.requested = 90 ∧ probeAbandoned (timeAfter t s) s s'
            ∧ s'.seq.state = .rest ∧ s'.seq.rejoin.isSome = true)
          ∧ (rh < 10 * (s.cfg.rhCeiling : Int) ∨ s.cfg.wake.humidityCeiling = false → held s' = { held s with
            humid := { s.humid with nextRestCheck := some (e + seconds 60) } }))
        ∧ (∀ rh, reading = some rh → s.humid.state = .rearming →
          (rh < 10 * (s.cfg.rhCeiling : Int) - 50 → held s' = { held s with
            humid := { s.humid with
              state := if s.humid.baseline.isSome then .watching else .seeding
              nextRestCheck := some (e + seconds 60) } })
          ∧ (10 * (s.cfg.rhCeiling : Int) - 50 ≤ rh → held s' = { held s with
            humid := { s.humid with nextRestCheck := some (e + seconds 60) } })))

/-- When local time has reached the expiry time of an entry with the given source and origin, it leaves the
stack, the requested level is that of the top entry or of the house mode, and the active level falls with it
but does not rise. Nothing else of the held part moves, in every sequencer state. The block is not held in
reset. (7.2, 7.3) -/
def Obligations.OverrideRunsOut : Prop :=
  ∀ (src : Source) (origin : Nat) (t : Time) (s : State) (x : Override), s.inReset = false → x ∈ s.demand.stack → x.source = src →
    x.origin = origin → (∃ e, x.expiry = some e ∧ e ≤ timeAfter t s) →
    ∃ s', exec (.overrideExpiry src origin t) s = .next s'
      ∧ held s' = { held s with
          stack := without src origin s.demand.stack
          requested := topLevel (without src origin s.demand.stack) (houseModeLevel s)
          active := min s.demand.active (topLevel (without src origin s.demand.stack) (houseModeLevel s)) }

/-- With the straps read, LINE clear, nothing in transmission or reception and the line idle for at least 3
character times, the lowest pending slot's frame begins: its header, the body of this moment and its check,
with the start time now. The idle time is in 24ths of a tick, 625 to a bit, and runs from the later of the
present and the last dominant bit of a frame that went on after a collision. The slot stays pending, and
nothing else of the held part moves. The idle time counted between commands is the model's reading (logs 11,
40), and so is the body of a notice or call that was never stored (log 33). The block is not held in reset.
(10.1, 10.2, 10.3, 10.4) -/
def Obligations.FrameBegins : Prop :=
  ∀ (k : FrameKind) (t : Time) (s : State), s.inReset = false → s.strapsRead = true → s.line.active = false →
    s.line.transmission = none → s.line.assembly = [] →
    18750 ≤ s.line.idleTime + 24 * (timeAfter t s - max s.now (s.line.busyUntil.getD 0)) →
    (s.line.slot k).pending = true → (∀ j : FrameKind, j.code < k.code → (s.line.slot j).pending = false) →
    ∃ s', exec (.frameStart t) s = .next s'
      ∧ held s' = { held s with line := { s.line.steady with
          transmission := some ⟨k, frameOf k s.stationIndex (frameBody { s with now := timeAfter t s } k),
            timeAfter t s⟩ } }
      ∧ s'.line.statusSlot = s.line.statusSlot ∧ s'.line.statusMark = s.line.statusMark ∧ s'.line.idleTime = 0

/-- While a frame is sent: a lower header read back ends the sending, and the assembly holds that header with
the arrival time of the own start bit; the slots and the collision count are as they were. A collision ends
the sending, and the line stays busy until the last dominant bit of the frame that the other sender
completes; the count rises by 1 for the same kind and is 1 for another; at 3 DUPLICATE is raised and the
count is 0 with no kind; the other slots are as they were. Nothing else of the held part moves. That
COLLISION brings the time of that bit is the model's choice (log 40). The block is not held in reset. (10.3) -/
def Obligations.FrameIsLost : Prop :=
  ∀ (t : Time) (s : State) (x : Transmission) (b : Time), s.inReset = false → s.line.transmission = some x →
    (∀ h : Byte, h < x.header → ∃ s', exec (.lostContention h t) s = .next s'
      ∧ held s' = { held s with line := { s.line.steady with
          transmission := none, assembly := [h], arrival := x.start } }
      ∧ s'.line.statusSlot = s.line.statusSlot ∧ s'.line.statusMark = s.line.statusMark)
    ∧ (s.line.collisionKind ≠ some x.kind → ∃ s', exec (.collision ⟨t, b⟩) s = .next s'
      ∧ held s' = { held s with line := { s.line.steady with
          transmission := none, collisions := 1, collisionKind := some x.kind, busyUntil := some b } }
      ∧ s'.line.statusSlot = s.line.statusSlot ∧ s'.line.statusMark = s.line.statusMark)
    ∧ (s.line.collisionKind = some x.kind → s.line.collisions < 2 → ∃ s', exec (.collision ⟨t, b⟩) s = .next s'
      ∧ held s' = { held s with line := { s.line.steady with
          transmission := none, collisions := s.line.collisions + 1, busyUntil := some b } }
      ∧ s'.line.statusSlot = s.line.statusSlot ∧ s'.line.statusMark = s.line.statusMark)
    ∧ (s.line.collisionKind = some x.kind → 2 ≤ s.line.collisions → ∃ s', exec (.collision ⟨t, b⟩) s = .next s'
      ∧ held s' = { held s with
          line := { s.line.steady with
            transmission := none, collisions := 0, collisionKind := none, busyUntil := some b }
          ctl := { s.ctl.steady with duplicate := true } }
      ∧ s'.line.statusMark = s.line.statusMark
      ∧ (s.line.statusSlot.pending = true → s'.line.statusSlot.pending = true))

/-- While a frame is sent: the transmission ends and the collision count is 0. Its slot is pending again without
the re-request flag where that was set, and empty otherwise, its stored body or mark then gone. A STATUS
sets the status period end 20 s ahead. A DEFROST frame with an unforced ENTER in CONTENDING sets the entry
account it carries and the window end 2 s ahead. The line is then recessive for the stop bit of the check
byte and the ones that end it. Clearing the kind with the count is the model's reading (log 36). The block
is not held in reset. (10.2, 10.3, 10.4, 5.4) -/
def Obligations.FrameIsSent : Prop :=
  ∀ (t : Time) (s : State) (x : Transmission), s.inReset = false → s.line.transmission = some x →
    ∃ s', exec (.frameSent t) s = .next s'
      ∧ s'.line.transmission = none ∧ s'.line.collisions = 0 ∧ s'.line.collisionKind = none
      ∧ s'.line.slot x.kind = ⟨(s.line.slot x.kind).reRequest, false⟩
      ∧ (∀ j : FrameKind, j ≠ x.kind → s'.line.slot j = s.line.slot j)
      ∧ ((s.line.slot x.kind).reRequest = true → s'.line.modeBody = s.line.modeBody
          ∧ s'.line.boostBody = s.line.boostBody ∧ s'.line.statusMark = s.line.statusMark)
      ∧ ((s.line.slot x.kind).reRequest = false →
          s'.line.modeBody = (if x.kind = .mode then none else s.line.modeBody)
          ∧ s'.line.boostBody = (if x.kind = .boost then none else s.line.boostBody)
          ∧ s'.line.statusMark = (if x.kind = .status then false else s.line.statusMark))
      ∧ s'.line.statusPeriodEnd
          = (if x.kind = .status then some (timeAfter t s + seconds 20) else s.line.statusPeriodEnd)
      ∧ (∀ idx a, x.kind = .defrost → a ≤ 4000 → x.bytes = frameOf .defrost idx (noticeBody (some ⟨.enter, false⟩) a) →
          s.frost.stage = .contending →
          s'.frost = { s.frost with entryAccount := some a, windowEnd := some (timeAfter t s + seconds 2) })
      ∧ (x.kind ≠ .defrost ∨ s.frost.stage ≠ .contending → s'.frost = s.frost)
      ∧ (∀ b : Byte, x.bytes.getLast? = some b → ∃ k ≤ 8, s'.line.idleTime = 625 * (1 + k)
          ∧ (∀ i < k, b.getLsbD i = true) ∧ (k < 8 → b.getLsbD k = false))
      ∧ held s' = { held s with frost := s'.frost, line := s'.line.steady }

/-- With the straps read, LINE clear and nothing sent, the frame closed is the assembly with the characters
added. A kind code of no kind, a wrong length, a spoilt character or a sum other than 0 makes it invalid:
the assembly empties and nothing else of the held part moves. A valid frame with the own index raises
DUPLICATE besides and is not entered. The line is then idle for the gap and, unless the last stop bit was
dominant, for the last character's stop bit and the ones before it (whole ticks of the gap: log 11). A frame
begun before the last dominant bit of a frame that goes on after a collision is the rest of that frame: it
is not received and moves nothing; the time of that bit is what COLLISION brings, the model's choice (log
40). The block is not held in reset. (10.3, 10.5) -/
def Obligations.ReceivedFrameIsChecked : Prop :=
  ∀ (chars : List Byte) (stops : StopBits) (arrival t : Time) (s : State), s.inReset = false → s.strapsRead = true → s.line.active = false →
    s.line.transmission = none →
    (∀ b, s.line.busyUntil = some b → (if s.line.assembly = [] then arrival else s.line.arrival) < b →
      ∃ s', exec (.frameReceived chars stops arrival t) s = .next s' ∧ held s' = held s)
    ∧ ((∀ b, s.line.busyUntil = some b → b ≤ (if s.line.assembly = [] then arrival else s.line.arrival)) →
    ((∀ k, frameKind (s.line.assembly ++ chars) = some k →
        (s.line.assembly ++ chars).length ≠ k.length ∨ stops ≠ .recessive ∨ byteSum (s.line.assembly ++ chars) ≠ 0) →
      ∃ s', exec (.frameReceived chars stops arrival t) s = .next s'
        ∧ held s' = { held s with line := { s.line.steady with assembly := [] } }
        ∧ idleAfter (s.line.assembly ++ chars) stops s'.line.idleTime)
    ∧ (∀ k, frameKind (s.line.assembly ++ chars) = some k → (s.line.assembly ++ chars).length = k.length →
      stops = .recessive → byteSum (s.line.assembly ++ chars) = 0 →
      frameIndex (s.line.assembly ++ chars) = s.stationIndex.toNat →
      ∃ s', exec (.frameReceived chars stops arrival t) s = .next s'
        ∧ held s' = { held s with
            line := { s.line.steady with assembly := [] }
            ctl := { s.ctl.steady with duplicate := true } }
        ∧ idleAfter (s.line.assembly ++ chars) stops s'.line.idleTime))

/-- From empty assembly and after the end of any frame that went on after a collision, a valid frame whose index
is not the own: its sender's record stands, FRESH, last heard at the frame's arrival; the other records are
as they were. A STATUS replaces the status part by what its bytes say; where it announces state DEFROST or
stage DEFROSTING the standing is DEFROSTING, an absent part taking its account, no forced flag and the
arrival time, and otherwise a standing of DEFROSTING falls to NONE and any other stays. A DEFROST notice
with ENTER makes the standing CONTENDING with account, forced flag and time, and WITHDRAW or LEAVE make it
NONE. A DEFROST notice keeps the status part, and a MODE or BOOST call both parts. Where a standing falls to
NONE by a WITHDRAW, a LEAVE or a STATUS the want test is made (after a STATUS: said of one that brings no
boundary and no resync). A frame that is no STATUS, and a STATUS of a station that is not the timing
reference once it is entered, leave c, E, S, L and, with the reference as it was, the heard length, the half
record and the loader. The configuration, the loader's write-back enable and the queue are untouched by any.
Mode fields and calls are handed on (O50). That WITHDRAW and LEAVE leave an absent part absent is the
model's reading (log 18). The block is not held in reset. (9.1, 9.2, 10.1, 10.5, 5.4, 1.4) -/
def Obligations.FrameEntersThePeerTable : Prop :=
  ∀ (bs : List Byte) (k : FrameKind) (arrival t : Time) (s : State), s.inReset = false → s.strapsRead = true → s.line.active = false →
    s.line.transmission = none → s.line.assembly = [] → (∀ b, s.line.busyUntil = some b → b ≤ arrival) →
    frameKind bs = some k → bs.length = k.length → byteSum bs = 0 → frameIndex bs ≠ s.stationIndex.toNat →
    ∃ s', exec (.frameReceived bs .recessive arrival t) s = .next s'
      ∧ s'.line.assembly = []
      ∧ (∃ p ∈ s'.peers, p.number = frameIndex bs + 1 ∧ p.fresh = true ∧ p.lastHeard = arrival
          ∧ (k = .status → p.status = some (statusPartOf bs arrival)
            ∧ (∀ d, s.peers.find? (fun q => q.number = frameIndex bs + 1) = none ∧ d = none
                ∨ (∃ q, s.peers.find? (fun q => q.number = frameIndex bs + 1) = some q ∧ d = q.defrost) →
              ((byteAt bs 1 = 5 ∨ byteAt bs 8 % 8 = 4) →
                (d = none → p.defrost = some ⟨.defrosting, min 4000 (16 * byteAt bs 11), false, arrival⟩)
                ∧ (∀ x, d = some x → p.defrost = some { x with standing := .defrosting }))
              ∧ (byteAt bs 1 ≠ 5 → byteAt bs 8 % 8 ≠ 4 →
                (d = none → p.defrost = none)
                ∧ (∀ x, d = some x → p.defrost = some (if x.standing = .defrosting then { x with standing := .none }
                    else x)))))
          ∧ (k = .defrost → (noticeOf bs).action = some .enter →
              p.defrost = some ⟨.contending, (noticeOf bs).account, (noticeOf bs).forced, arrival⟩)
          ∧ (k = .defrost → (noticeOf bs).action = some .withdraw ∨ (noticeOf bs).action = some .leave →
              ∀ d ∈ p.defrost, d.standing = .none)
          ∧ (∀ q, q = s.peers.find? (fun q => q.number = frameIndex bs + 1) →
              (k ≠ .status → p.status = q.bind (·.status))
              ∧ (k = .mode ∨ k = .boost ∨ (k = .defrost ∧ (noticeOf bs).action = none) → p.defrost = q.bind (·.defrost))
              ∧ (k = .defrost → (noticeOf bs).action = some .withdraw ∨ (noticeOf bs).action = some .leave →
                  p.defrost = (q.bind (·.defrost)).map (fun d => { d with standing := .none }))))
      ∧ (k ≠ .status ∨ s'.clock.reference ≠ some (frameIndex bs + 1) →
          { s'.clock with reference := none, heardLength := none } = { s.clock with reference := none, heardLength := none }
          ∧ (s'.clock.reference = s.clock.reference → s'.clock.heardLength = s.clock.heardLength)
          ∧ s'.climate = s.climate ∧ s'.loader = s.loader)
      ∧ (k = .status → (∃ q ∈ s.peers, s.peers.find? (fun q => q.number = frameIndex bs + 1) = some q
            ∧ standingOf q.defrost = .defrosting) → byteAt bs 1 ≠ 5 → byteAt bs 8 % 8 ≠ 4 →
          s'.clock.reference ≠ some (frameIndex bs + 1)
            ∨ (s.clock.c = (statusPartOf bs arrival).half ∧ timeAfter t s < (statusPartOf bs arrival).endEstimate) →
          wantTestMade t s s')
      ∧ (k = .defrost → (noticeOf bs).action = some .withdraw ∨ (noticeOf bs).action = some .leave →
          (∃ q ∈ s.peers, s.peers.find? (fun q => q.number = frameIndex bs + 1) = some q ∧ standingOf q.defrost ≠ .none) →
          wantTestMade t s s')
      ∧ (∀ q ∈ s.peers, q.number ≠ frameIndex bs + 1 → q ∈ s'.peers)
      ∧ (∀ q ∈ s'.peers, q.number ≠ frameIndex bs + 1 → q ∈ s.peers)
      ∧ s'.cfg = s.cfg ∧ s'.loader.writeEnabled = s.loader.writeEnabled ∧ s'.lane = s.lane
      ∧ s'.stationIndex = s.stationIndex ∧ s'.roomClass = s.roomClass ∧ s'.pending = s.pending

/-- A valid BOOST call from another station: START puts the origin's HOUSE_BOOST entry on top with the level
held to 40..100 and the minutes to 5..60 from now, over the other entries in their order, three at most, and
abandons a probe in progress; CANCEL removes the entry. A valid MODE call with a mode is adopted when its
stamp is newer, or equal with an origin lower than the record's, and changes nothing of the record
otherwise; an adopted mode forms the requested level again. With the wake enabled, REST gains a rejoin. The
house mode fields of a valid STATUS are adopted by the same test, with the origin the frame carries, 1 to
16; a changed mode forms the requested level again; REST gains no rejoin by them, and fields that are not
adopted leave the record. By a call the clock's count, E and L and the frost account are untouched. That a
boost lives from the moment of the push is the model's reading (log 19). The block is not held in reset.
(7.2, 7.3, 9.4, 11.4, 10.5, 8.6) -/
def Obligations.CallsAreTaken : Prop :=
  ∀ (bs : List Byte) (arrival t : Time) (s : State), s.inReset = false → s.strapsRead = true → s.line.active = false →
    s.line.transmission = none → s.line.assembly = [] → (∀ b, s.line.busyUntil = some b → b ≤ arrival) →
    byteSum bs = 0 → frameIndex bs ≠ s.stationIndex.toNat →
    (frameKind bs = some .boost → bs.length = 5 → ∃ s', exec (.frameReceived bs .recessive arrival t) s = .next s'
      ∧ (byteAt bs 1 = 0 →
          s'.demand.stack = ⟨.houseBoost, frameIndex bs + 1, clampNat 40 100 (byteAt bs 2),
            some (timeAfter t s + minutes (clampNat 5 60 (byteAt bs 3)))⟩
              :: (without .houseBoost (frameIndex bs + 1) s.demand.stack).take 3
          ∧ probeAbandoned (timeAfter t s) s s'
          ∧ s'.demand.requested = clampNat 40 100 (byteAt bs 2)
          ∧ (s.seq.state = .rest → s.cfg.wake.houseBoostCall = true → s'.seq.rejoin.isSome = true))
      ∧ (byteAt bs 1 = 1 → s'.demand.stack = without .houseBoost (frameIndex bs + 1) s.demand.stack
          ∧ s'.seq = s.seq ∧ s'.filter = s.filter)
      ∧ (2 ≤ byteAt bs 1 → s'.demand.stack = s.demand.stack ∧ s'.seq = s.seq ∧ s'.filter = s.filter)
      ∧ s'.house = s.house ∧ s'.frost = s.frost ∧ s'.clock.c = s.clock.c ∧ s'.clock.endTime = s.clock.endTime
      ∧ s'.clock.length = s.clock.length ∧ s'.climate = s.climate ∧ s'.humid = s.humid)
    ∧ (frameKind bs = some .mode → bs.length = 4 → ∃ s', exec (.frameReceived bs .recessive arrival t) s = .next s'
      ∧ (∀ m, modeOfCode (byteAt bs 1 % 4) = some m →
          newer s.house.stamp (bs.getD 2 0) = true
            ∨ (bs.getD 2 0 = s.house.stamp ∧ frameIndex bs + 1 < s.house.origin) →
          s'.house = ⟨m, decide (128 ≤ byteAt bs 1), bs.getD 2 0, frameIndex bs + 1⟩
          ∧ (s'.house.mode ≠ s.house.mode →
              s'.demand.requested = topLevel s.demand.stack (ConfigRecord.level s.cfg m)
              ∧ s'.demand.active = min s.demand.active s'.demand.requested)
          ∧ (s'.house.mode ≠ s.house.mode ∨ s'.house.summer ≠ s.house.summer → s.seq.state = .rest →
              s.cfg.wake.houseModeCall = true → s'.seq.rejoin.isSome = true))
      ∧ (newer s.house.stamp (bs.getD 2 0) = false →
          (bs.getD 2 0 ≠ s.house.stamp ∨ s.house.origin ≤ frameIndex bs + 1) → s'.house = s.house ∧ s'.seq = s.seq)
      ∧ s'.demand.stack = s.demand.stack ∧ s'.frost = s.frost ∧ s'.clock.c = s.clock.c
      ∧ s'.clock.endTime = s.clock.endTime ∧ s'.clock.length = s.clock.length ∧ s'.climate = s.climate
      ∧ s'.humid = s.humid)
    ∧ (frameKind bs = some .status → bs.length = 18 → ∃ s', exec (.frameReceived bs .recessive arrival t) s = .next s'
      ∧ (∀ m, modeOfCode (byteAt bs 14 % 4) = some m → 1 ≤ byteAt bs 16 → byteAt bs 16 ≤ 16 →
          newer s.house.stamp (bs.getD 15 0) = true
            ∨ (bs.getD 15 0 = s.house.stamp ∧ byteAt bs 16 < s.house.origin) →
          s'.house = ⟨m, decide (128 ≤ byteAt bs 14), bs.getD 15 0, byteAt bs 16⟩
          ∧ (m ≠ s.house.mode →
              s'.demand.requested = topLevel s'.demand.stack (ConfigRecord.level s.cfg m)
              ∧ s'.demand.active ≤ s'.demand.requested
              ∧ (s'.clock.reference ≠ some (frameIndex bs + 1) → s'.demand.stack = s.demand.stack
                ∧ s'.demand.active = min s.demand.active s'.demand.requested)))
      ∧ (modeOfCode (byteAt bs 14 % 4) = none ∨ byteAt bs 16 = 0 ∨ 16 < byteAt bs 16
          ∨ (newer s.house.stamp (bs.getD 15 0) = false
            ∧ (bs.getD 15 0 ≠ s.house.stamp ∨ s.house.origin ≤ byteAt bs 16)) → s'.house = s.house)
      ∧ (s.seq.state = .rest → s.seq.rejoin = none → s'.seq.state = .rest ∧ s'.seq.rejoin = none))

/-- With the own clock running after STARTING, LINE clear, and a valid STATUS from a running station numbered
below the own and below every other counting peer: c equal to h takes its E and L; c = h - 1 crosses a
boundary to h with its E and L and requests the marked STATUS; c = h + 1 within a quarter of L (in whole
tenths) changes only reference and heard length; later, and in any other relation, c, E, L and S are set by
a resync, which requests no mark and neither closes nor opens the collection. A resync that changes the lane
direction abandons a probe and, with an account too small for a want test, reverses SUPPLY and EXTRACT and
retargets a reversal between them. Except while the station waits, an end estimate not later than local time
leads to a boundary (a further one where the station was behind) at once: c = h + 1, with the heard length
from now and the mark. That active equals requested is the order of log 4, the whole tenths are log 32, the
reversal whatever the direction is log 29. The block is not held in reset. (1.4, 8.6, 9.2) -/
def Obligations.AlignmentFollowsTheReference : Prop :=
  ∀ (bs : List Byte) (arrival t : Time) (s : State) (p : StatusPart), s.inReset = false → s.strapsRead = true → s.line.active = false →
    s.line.transmission = none → s.line.assembly = [] → (∀ b, s.line.busyUntil = some b → b ≤ arrival) →
    frameKind bs = some .status → bs.length = 18 →
    byteSum bs = 0 → p = statusPartOf bs arrival → s.seq.state ≠ .starting → s.clock.running = true → p.running = true →
    frameIndex bs < s.stationIndex.toNat → (∀ q ∈ s.peers, q.counts = true → frameIndex bs + 1 ≤ q.number) →
    ∀ (ahead resyncs : Prop),
    (ahead ↔ s.clock.c = p.half + 1 ∧ ∀ b, s.clock.startTime = some b →
      (timeAfter t s - b) / 25000 ≤ 10 * s.clock.length / 4) →
    (resyncs ↔ (s.clock.c ≠ p.half ∧ s.clock.c + 1 ≠ p.half ∧ s.clock.c ≠ p.half + 1)
      ∨ (s.clock.c = p.half + 1 ∧ ∃ b, s.clock.startTime = some b
        ∧ 10 * s.clock.length / 4 < (timeAfter t s - b) / 25000)) →
    ∃ s', exec (.frameReceived bs .recessive arrival t) s = .next s'
      ∧ s'.clock.reference = some (frameIndex bs + 1) ∧ s'.clock.heardLength = some p.halfLength
      ∧ (ahead → s'.clock = { s.clock with reference := some (frameIndex bs + 1), heardLength := some p.halfLength }
          ∧ s'.line.statusMark = s.line.statusMark)
      ∧ (timeAfter t s < p.endEstimate →
        (s.clock.c = p.half → s'.clock = { s.clock with
            endTime := some p.endEstimate, length := p.halfLength
            reference := some (frameIndex bs + 1), heardLength := some p.halfLength }
          ∧ s'.line.statusMark = s.line.statusMark)
        ∧ (s.clock.c + 1 = p.half → s'.clock = { s.clock with
              c := p.half, startTime := some (timeAfter t s), endTime := some p.endEstimate, length := p.halfLength
              reference := some (frameIndex bs + 1), heardLength := some p.halfLength }
            ∧ s'.line.statusSlot.pending = true ∧ s'.line.statusMark = true
            ∧ s'.demand.active = s'.demand.requested ∧ s'.climate.openTime = some (timeAfter t s))
        ∧ (resyncs → s'.clock = { s.clock with
              c := p.half, startTime := some (timeAfter t s), endTime := some p.endEstimate, length := p.halfLength
              reference := some (frameIndex bs + 1), heardLength := some p.halfLength }
            ∧ s'.line.statusMark = s.line.statusMark ∧ s'.line.statusSlot.pending = true
            ∧ s'.climate.openTime = s.climate.openTime ∧ s'.climate.ring = s.climate.ring
            ∧ (laneDirection s.lane p.half ≠ laneDirection s.lane s.clock.c → s'.filter.probing = false)
            ∧ (s.frost.account < 1600 →
              (laneDirection s.lane p.half = laneDirection s.lane s.clock.c → s'.seq = s.seq)
              ∧ (laneDirection s.lane p.half ≠ laneDirection s.lane s.clock.c →
                (∀ d : Dir, s.seq.state = d.state → s'.seq = { s.seq with
                    state := .reversing, target := some (laneDirection s.lane p.half).target
                    phase := some (firstPhase s.fan.speed), phaseStart := some (timeAfter t s) }
                  ∧ s'.fan.driveOutput = 0)
                ∧ (∀ d : Dir, s.seq.state = .reversing → s.seq.target = some d.target →
                  s'.seq.state = .reversing ∧ s'.seq.target = some (laneDirection s.lane p.half).target)
                ∧ ((∀ d : Dir, s.seq.state ≠ d.state) → s.seq.state ≠ .reversing → s'.seq = s.seq)))))
      ∧ (p.endEstimate ≤ timeAfter t s → s.clock.c = p.half ∨ s.clock.c + 1 = p.half ∨ resyncs →
          s'.clock = { s.clock with
            c := p.half + 1, startTime := some (timeAfter t s), length := p.halfLength
            endTime := some (timeAfter t s + seconds p.halfLength)
            reference := some (frameIndex bs + 1), heardLength := some p.halfLength }
          ∧ s'.line.statusSlot.pending = true ∧ s'.line.statusMark = true
          ∧ s'.climate.openTime = some (timeAfter t s))

/-- In a table with no double numbers: a FRESH record older than 75.0 s becomes STALE; a record whose age has
come to 300.0 s leaves the table with its HOUSE_BOOST entry (that it leaves at that age exactly is read from
worked sequence 9.6.1, log 46); a CONTENDING standing older than 5.0 s becomes NONE (that it stands at
exactly 5.0 s is log 51). Where a place is freed by any of the three the want test is made. The other
records are as they were; after the first two the reference identity, except in STARTING, is the timing
reference of the new table; that it is formed in every other state, LISTEN included, is the model's reading
of R1 and R10 (log 16); the clock's count, E, S and L, the house mode, the configuration and the loader are
untouched. The block is not held in reset. (9.2, 9.3, 9.6, 7.2, 5.4, 1.1) -/
def Obligations.PeersAge : Prop :=
  ∀ (t : Time) (s : State) (p : PeerRec), s.inReset = false → PeersInv s → p ∈ s.peers →
    (p.fresh = true → p.lastHeard + seconds 75 < timeAfter t s →
      ∃ s', exec (.peerStale p.number t) s = .next s'
        ∧ s'.peers = s.peers.map (fun x => if x.number = p.number then { x with fresh := false } else x)
        ∧ s'.clock.reference = (if s.seq.state = .starting then s.clock.reference else timingReference s')
        ∧ s'.demand.stack = s.demand.stack
        ∧ (standingOf p.defrost = .none → s'.frost = s.frost ∧ s'.seq = s.seq)
        ∧ (standingOf p.defrost ≠ .none → wantTestMade t s s')
        ∧ { s'.clock with reference := none, heardLength := none } = { s.clock with reference := none, heardLength := none }
        ∧ s'.house = s.house ∧ s'.cfg = s.cfg ∧ s'.loader = s.loader ∧ s'.pending = s.pending)
    ∧ (p.lastHeard + seconds 300 ≤ timeAfter t s →
      ∃ s', exec (.peerRemoved p.number t) s = .next s'
        ∧ s'.peers = s.peers.filter (fun x => x.number ≠ p.number)
        ∧ s'.demand.stack = without .houseBoost p.number s.demand.stack
        ∧ (standingOf p.defrost = .none → s'.frost = s.frost ∧ s'.seq = s.seq)
        ∧ (standingOf p.defrost ≠ .none → wantTestMade t s s')
        ∧ s'.clock.reference = (if s.seq.state = .starting then s.clock.reference else timingReference s')
        ∧ { s'.clock with reference := none, heardLength := none } = { s.clock with reference := none, heardLength := none }
        ∧ s'.house = s.house ∧ s'.cfg = s.cfg ∧ s'.loader = s.loader ∧ s'.pending = s.pending)
    ∧ (∀ d, p.defrost = some d → d.standing = .contending → d.time + seconds 5 < timeAfter t s →
      ∃ s', exec (.contendingFallback p.number t) s = .next s'
        ∧ s'.peers = s.peers.map (fun x =>
            if x.number = p.number then { x with defrost := some { d with standing := .none } } else x)
        ∧ (p.fresh = false → s'.frost = s.frost ∧ s'.seq = s.seq)
        ∧ (p.fresh = true → wantTestMade t s s')
        ∧ s'.clock = s.clock ∧ s'.house = s.house ∧ s'.cfg = s.cfg ∧ s'.loader = s.loader
        ∧ s'.demand.stack = s.demand.stack ∧ s'.pending = s.pending)

/-- At the status period end it becomes absent and the STATUS slot is pending, the mark as it was. 100 ms
dominant with LINE clear: LINE is active, nothing is sent or assembled, the collision count is 0, no place
is counted and every derived demand is 0, the reference is the own station while its clock runs, a
contention whose ENTER was not sent becomes DEFROSTING where the sequencer takes it, and where it refuses
WITHDRAW is queued and the stage by account taken (the model's reading, log 22; the WITHDRAW's clear flag is
log 55, and that the collision kind goes with the count is log 36). Slots, re-request flags, the STATUS mark
and the stored bodies are kept, but that STATUS is pending, as its LINE bit has changed, and DEFROST where
WITHDRAW was queued. 1.0 s recessive with LINE active: LINE is clear and the reference is the timing
reference again. In STARTING the reference stays as it is; that it is formed in every other state, LISTEN
included, is the model's reading of R1 and R10 (log 16). Peers, house mode and configuration are untouched.
The block is not held in reset. (10.4, 10.6, 1.6, 5.4, 9.3, 1.1) -/
def Obligations.LineStateMoves : Prop :=
  ∀ (t : Time) (s : State), s.inReset = false →
    (∀ e, s.line.statusPeriodEnd = some e → e ≤ timeAfter t s → ∃ s', exec (.statusPeriodEnd t) s = .next s'
      ∧ held s' = { held s with line := { s.line.steady with statusPeriodEnd := none } }
      ∧ s'.line.statusSlot = ⟨true, s.line.statusSlot.reRequest || s.line.sending .status⟩
      ∧ s'.line.statusMark = s.line.statusMark)
    ∧ (∀ d, s.line.active = false → millis 100 ≤ d → ∃ s', exec (.lineFaultRaised d t) s = .next s'
      ∧ s'.line.active = true ∧ s'.line.transmission = none ∧ s'.line.assembly = [] ∧ s'.line.collisions = 0
      ∧ s'.line.collisionKind = none ∧ s'.peers = s.peers
      ∧ s'.clock.reference = (if s.seq.state = .starting then s.clock.reference
          else if s.clock.running then some (ownNumber s) else none)
      ∧ (∀ x ∈ derivedDemands s', x = 0) ∧ placesInUse s' = 0
      ∧ (s.frost.stage = .contending → s.frost.windowEnd = none → s.seq.state.refusesDefrost = false →
          s'.frost.stage = .defrosting ∧ s'.frost.defrostStart = some (timeAfter t s))
      ∧ (s.frost.stage = .contending → s.frost.windowEnd = none → s.seq.state.refusesDefrost = true →
          s'.frost = { s.frost with
            stage := stageByAccount s.frost.account, notice := some ⟨.withdraw, false⟩
            contentionStart := none, entryAccount := none }
          ∧ s'.line.defrostSlot.pending = true ∧ s'.seq = s.seq)
      ∧ (s.frost.stage ≠ .contending ∨ s.frost.windowEnd.isSome = true → s'.frost = s.frost ∧ s'.seq = s.seq)
      ∧ (s.frost.stage ≠ .contending ∨ s.frost.windowEnd.isSome = true ∨ s.seq.state.refusesDefrost = false →
          s'.line.defrostSlot = s.line.defrostSlot)
      ∧ s'.line.defrostSlot.reRequest = s.line.defrostSlot.reRequest
      ∧ s'.line.modeSlot = s.line.modeSlot ∧ s'.line.modeBody = s.line.modeBody
      ∧ s'.line.boostSlot = s.line.boostSlot ∧ s'.line.boostBody = s.line.boostBody
      ∧ s'.line.statusSlot = ⟨true, s.line.statusSlot.reRequest⟩ ∧ s'.line.statusMark = s.line.statusMark
      ∧ s'.house = s.house ∧ s'.cfg = s.cfg ∧ s'.loader = s.loader ∧ s'.demand.stack = s.demand.stack
      ∧ { s'.clock with reference := none, heardLength := none } = { s.clock with reference := none, heardLength := none }
      ∧ s'.pending = s.pending)
    ∧ (∀ r, s.line.active = true → seconds 1 ≤ r → ∃ s', exec (.lineFaultCleared r t) s = .next s'
      ∧ held s' = { held s with
          line := { s.line.steady with active := false, stuckTime := 0 }
          clock := { s.clock with reference := s'.clock.reference, heardLength := s'.clock.heardLength } }
      ∧ s'.clock.reference = (if s.seq.state = .starting then s.clock.reference else timingReference s')
      ∧ s'.clock.heardLength = (if s'.clock.reference = s.clock.reference then s.clock.heardLength else none))

/-- From the end of STARTING: RELEASED and low begins a press. A release before 2.0 s toggles the LOCAL_BOOST
entry (80, or 100 at a KITCHEN station, for its configured minutes), a release from 2.0 s and before 5.0 s
toggles the own HOUSE_BOOST entry (90) and stores a BOOST call for the line. A push puts its entry over the
others in their order, three at most, and abandons a probe in progress. From WAIT_RELEASE or TAKEN a high
level only releases. With the wake enabled a gesture gives REST a rejoin. Clock, peers, house mode,
configuration and loader are untouched. The block is not held in reset. (11.1, 11.3, 11.4, 7.2, 8.6) -/
def Obligations.BoostButtonActs : Prop :=
  ∀ (v : Level) (t : Time) (s : State), s.inReset = false → s.seq.state ≠ .starting → s.ctl.levels.boost ≠ v →
    ∃ s', exec (.debounce .boost v t) s = .next s'
      ∧ s'.ctl.levels = { s.ctl.levels with boost := v }
      ∧ (s.ctl.boostStage = .released → v = .low → held s' = { held s with ctl := { s.ctl.steady with
          levels := { s.ctl.levels with boost := v }, boostStage := .pressed, boostStart := some (timeAfter t s) } })
      ∧ (s.ctl.boostStage = .waitRelease ∨ s.ctl.boostStage = .taken → v = .high →
          held s' = { held s with ctl := { s.ctl.steady with
            levels := { s.ctl.levels with boost := v }, boostStage := .released, boostStart := none } })
      ∧ (∀ b, s.ctl.boostStage = .pressed → s.ctl.boostStart = some b → v = .high →
          s'.ctl.boostStage = .released ∧ s'.ctl.boostStart = none
          ∧ (s.seq.state = .rest → s.cfg.wake.boostGesture = true → timeAfter t s - b < seconds 5 →
              s'.seq.rejoin.isSome = true)
          ∧ (timeAfter t s - b < seconds 2 → s'.line.boostSlot = s.line.boostSlot
              ∧ (stands s .localBoost (ownNumber s) = true →
                  s'.demand.stack = without .localBoost (ownNumber s) s.demand.stack)
              ∧ (stands s .localBoost (ownNumber s) = false →
                  s'.demand.stack = ⟨.localBoost, ownNumber s,
                    if s.roomClass = .kitchen then 100 else 80, some (timeAfter t s + minutes s.cfg.localBoost)⟩
                      :: (without .localBoost (ownNumber s) s.demand.stack).take 3
                  ∧ probeAbandoned (timeAfter t s) s s'))
          ∧ (seconds 2 ≤ timeAfter t s - b → timeAfter t s - b < seconds 5 → s'.line.boostSlot.pending = true
              ∧ (stands s .houseBoost (ownNumber s) = true →
                  s'.demand.stack = without .houseBoost (ownNumber s) s.demand.stack
                  ∧ s'.line.boostBody = some ⟨.cancel, 90, s.cfg.houseBoost⟩)
              ∧ (stands s .houseBoost (ownNumber s) = false →
                  s'.demand.stack = ⟨.houseBoost, ownNumber s, 90,
                    some (timeAfter t s + minutes s.cfg.houseBoost)⟩
                      :: (without .houseBoost (ownNumber s) s.demand.stack).take 3
                  ∧ probeAbandoned (timeAfter t s) s s'
                  ∧ s'.line.boostBody = some ⟨.start, 90, s.cfg.houseBoost⟩)))
      ∧ s'.clock = s.clock ∧ s'.peers = s.peers ∧ s'.house = s.house ∧ s'.cfg = s.cfg ∧ s'.loader = s.loader
      ∧ s'.climate = s.climate ∧ s'.frost = s.frost ∧ s'.humid = s.humid ∧ s'.pending = s.pending

/-- BOOST held for 5.0 s: in SUPPLY, EXTRACT, THROUGH or PAUSED without a held rest REST is entered with the
drive at 0, a humidity boost ends in REARMING the next rest check is 60 s ahead, and a stage DEFROSTING ends
with LEAVE and the stage by account (from a cycling state the model's reading, log 50; a blind defrost runs
on, log 34); a held rest is dropped; in REVERSING, DEFROST or LISTEN a rest is held; in REST an exit begins
(FAST under 30 min, DEEP from then) or is withdrawn; STOPPED is released into LISTEN for 130 s with STALL
cleared and the history empty. FILTER held for 3.0 s: CLEAN, load 0, countdown 100 times the interval,
baseline 0, probe IDLE with one hour to go, a write-back requested. The block is not held in reset. (11.3,
2.6, 2.7, 1.5, 6.4, 8.7, 12.4, 5.6) -/
def Obligations.HoldsAreTaken : Prop :=
  ∀ (t : Time) (s : State), s.inReset = false →
    (∀ b, s.ctl.boostStage = .pressed → s.ctl.boostStart = some b → b + seconds 5 ≤ timeAfter t s →
      ∃ s', exec (.hold t) s = .next s' ∧ s'.ctl.boostStage = .taken ∧ s'.ctl.boostStart = none
        ∧ (s.seq.state = .rest → s.seq.rejoin.isSome = true → s'.seq = { s.seq with rejoin := none })
        ∧ (∀ r, s.seq.state = .rest → s.seq.rejoin = none → s.seq.restStart = some r → s'.seq = { s.seq with
            rejoin := some (if timeAfter t s - r < minutes 30 then .fast else .deep) })
        ∧ (s.seq.state = .stopped → s'.seq = { s.seq with state := .listen, stallHistory := [] }
            ∧ s'.ctl.stall = false ∧ s'.clock.listenEnd = some (timeAfter t s + tenths 1300))
        ∧ (s.seq.state ≠ .rest → s.seq.state ≠ .stopped → s.seq.restHeld = true →
            s'.seq = { s.seq with restHeld := false })
        ∧ (s.seq.restHeld = false →
            s.seq.state = .supply ∨ s.seq.state = .extract ∨ s.seq.state = .through ∨ s.seq.state = .paused →
            s'.seq = { s.seq with
              state := .rest, phase := none, target := none, phaseStart := none, restHeld := false
              restStart := some (timeAfter t s), defrostResume := false, pauseEnd := none }
            ∧ s'.fan.driveOutput = 0
            ∧ s'.humid = (match s.humid.state with
              | .disabled => s.humid
              | .boosting => { s.humid with
                  state := .rearming, boostStart := none, falling := 0
                  nextRestCheck := some (timeAfter t s + seconds 60) }
              | _ => { s.humid with nextRestCheck := some (timeAfter t s + seconds 60) })
            ∧ (s.humid.state = .boosting → s'.demand.stack = without .humidity (ownNumber s) s.demand.stack)
            ∧ restEndsDefrost s s')
        ∧ (s.seq.restHeld = true ∨ (s.seq.state ≠ .supply ∧ s.seq.state ≠ .extract ∧ s.seq.state ≠ .through
            ∧ s.seq.state ≠ .paused ∧ s.seq.state ≠ .starting) → s'.frost = s.frost)
        ∧ (s.seq.restHeld = false →
            s.seq.state = .reversing ∨ s.seq.state = .defrost ∨ s.seq.state = .listen →
            s'.seq = { s.seq with restHeld := true })
        ∧ s'.peers = s.peers ∧ s'.house = s.house ∧ s'.cfg = s.cfg ∧ s'.loader = s.loader ∧ s'.pending = s.pending
        ∧ s'.clock.c = s.clock.c ∧ s'.clock.endTime = s.clock.endTime ∧ s'.fan.direction = s.fan.direction)
    ∧ (∀ b, s.ctl.filterStage = .pressed → s.ctl.filterStart = some b → b + seconds 3 ≤ timeAfter t s →
      ∃ s', exec (.filterReset t) s = .next s' ∧ s'.ctl.filterStage = .taken ∧ s'.ctl.filterStart = none
        ∧ s'.filter.state = .clean ∧ s'.filter.load = 0 ∧ s'.filter.countdown = 100 * s.cfg.serviceInterval
        ∧ s'.filter.baseline = 0 ∧ s'.filter.probe = .idle ∧ s'.filter.hoursToProbe = 1
        ∧ s'.filter.abandonTime = none ∧ s'.filter.runHours = s.filter.runHours
        ∧ (s.loader.writeEnabled = false → s'.loader = s.loader)
        ∧ (s.loader.writeEnabled = true → s.loader.inFlight = true →
            s'.loader = { s.loader with writePending := true })
        ∧ (s.loader.writeEnabled = true → s.loader.inFlight = false →
            s'.loader = { s.loader with inFlight := true, writeBytes := filterRecordBytes s'.filter })
        ∧ held s' = { held s with
            filter := s'.filter, loader := s'.loader
            fan := { s.fan.steady with probeHold := s'.fan.probeHold }
            ctl := { s.ctl.steady with filterStage := .taken, filterStart := none } })

/-- From the end of STARTING: a new level of SW_SUMMER, and with a switch fitted a new real mode position, give
the house mode record the mode shown (the taken position with a switch fitted, the record's own otherwise),
the summer flag, the stamp plus 1 modulo 256 and the own number as origin, and a MODE call with it is
pending; a position may wake a resting station. The same position, or none, changes nothing of the held
part. A mode line's own debounced level moves nothing but itself, and SW_FILTER begins and ends its press.
The block is not held in reset. (11.1, 11.2, 11.4, 9.4) -/
def Obligations.SwitchesOriginate : Prop :=
  ∀ (t : Time) (s : State), s.inReset = false → s.seq.state ≠ .starting →
    (∀ v, s.ctl.levels.summer ≠ v → ∃ s', exec (.debounce .summer v t) s = .next s'
      ∧ s'.house = ⟨originMode s, decide (v = .low), s.house.stamp + 1, ownNumber s⟩
      ∧ s'.ctl.steady = { s.ctl.steady with levels := { s.ctl.levels with summer := v }, summerOn := decide (v = .low) }
      ∧ s'.line.modeSlot.pending = true ∧ s'.line.modeBody = some s'.house ∧ s'.seq = s.seq
      ∧ s'.clock = s.clock ∧ s'.peers = s.peers ∧ s'.frost = s.frost ∧ s'.demand.stack = s.demand.stack)
    ∧ (∀ a b m, s.ctl.fitted = true → positionOf a b = some m → s.ctl.modeTaken ≠ some m →
      ∃ s', exec (.modePositionTaken a b t) s = .next s'
      ∧ s'.house = ⟨m, s.ctl.summerOn, s.house.stamp + 1, ownNumber s⟩
      ∧ s'.ctl.steady = { s.ctl.steady with modeTaken := some m }
      ∧ s'.line.modeSlot.pending = true ∧ s'.line.modeBody = some s'.house
      ∧ (m ≠ s.house.mode → s'.demand.requested = topLevel s.demand.stack (ConfigRecord.level s.cfg m))
      ∧ (s.seq.state = .rest → s.cfg.wake.modeSwitch = true → s'.seq.rejoin.isSome = true)
      ∧ s'.clock = s.clock ∧ s'.peers = s.peers ∧ s'.frost = s.frost ∧ s'.demand.stack = s.demand.stack)
    ∧ (∀ a b, positionOf a b = none ∨ positionOf a b = s.ctl.modeTaken →
      ∃ s', exec (.modePositionTaken a b t) s = .next s' ∧ held s' = held s)
    ∧ (∀ v, s.ctl.levels.mode1 ≠ v → ∃ s', exec (.debounce .mode1 v t) s = .next s'
      ∧ held s' = { held s with ctl := { s.ctl.steady with levels := { s.ctl.levels with mode1 := v } } })
    ∧ (∀ v, s.ctl.levels.mode0 ≠ v → ∃ s', exec (.debounce .mode0 v t) s = .next s'
      ∧ held s' = { held s with ctl := { s.ctl.steady with levels := { s.ctl.levels with mode0 := v } } })
    ∧ (s.ctl.filterStage = .released → s.ctl.levels.filter = .high →
      ∃ s', exec (.debounce .filter .low t) s = .next s'
      ∧ held s' = { held s with ctl := { s.ctl.steady with
          levels := { s.ctl.levels with filter := .low }
          filterStage := .pressed, filterStart := some (timeAfter t s) } })
    ∧ (s.ctl.levels.filter = .low → s.ctl.filterStage ≠ .released →
      ∃ s', exec (.debounce .filter .high t) s = .next s'
      ∧ held s' = { held s with ctl := { s.ctl.steady with
          levels := { s.ctl.levels with filter := .high }, filterStage := .released, filterStart := none } })

/-- For every kind, index and body of the kind's length, the frame is valid and names its kind and index. A
DEFROST notice with an account up to 4000, a MODE call and a BOOST call read back as they were sent. A
STATUS of a state whose fields fit their bytes reads back as the status part the peer table holds, the
account in multiples of 16 and the outdoor temperature in half-degrees, with the house mode record offered,
and its bytes 0 to 16 are those of the table of section 10.1.1, one by one: state, flags, lane with class
and filter state, half number and length, time remaining, stage with row, demands, account, outdoor
temperature, fault set and house mode record. The four filter values read back from the record written. The
preferred row is 3 in BLIND and otherwise the band with 1 added outside CLEAR, 3 at most; the time remaining
is the whole tenths to E while the clock runs, and 0 from E on or while it is stopped. That the tenths are
truncated is the model's reading (log 32). (10.1, 12.3, 1.1, 1.3, 4.4) -/
def Obligations.FramesReadBack : Prop :=
  (∀ (k : FrameKind) (idx : BitVec 4) (body : List Byte), body.length + 2 = k.length →
      frameValid (frameOf k idx body) false = true ∧ frameKind (frameOf k idx body) = some k
        ∧ frameIndex (frameOf k idx body) = idx.toNat)
  ∧ (∀ (idx : BitVec 4) (n : Notice) (a : Nat), a ≤ 4000 →
      noticeOf (frameOf .defrost idx (noticeBody (some n) a)) = ⟨some n.action, n.forced, a⟩)
  ∧ (∀ (idx : BitVec 4) (h : HouseMode) (n : Nat),
      modeOffer (frameOf .mode idx (modeBody h)) n = ⟨some h.mode, h.summer, h.stamp, n⟩)
  ∧ (∀ (idx : BitVec 4) (b : BoostCall), b.level < 256 → b.duration < 256 →
      boostOfCode (byteAt (frameOf .boost idx (boostBody b)) 1) = some b.action
        ∧ byteAt (frameOf .boost idx (boostBody b)) 2 = b.level
        ∧ byteAt (frameOf .boost idx (boostBody b)) 3 = b.duration)
  ∧ (∀ (idx : BitVec 4) (s : State) (mark : Bool) (r : Nat) (arrival : Time), lengthInRange s.clock.length →
      r ≤ 10 * s.clock.length → s.demand.supply < 256 → s.demand.extract < 256 → s.frost.account ≤ 4000 →
      s.house.origin < 256 → (∀ x, s.climate.outdoor = some x → -400 ≤ x ∧ x ≤ 600) →
      statusPartOf (frameOf .status idx (statusBody s mark r)) arrival
        = ⟨some s.seq.state, s.clock.running, s.lane, s.clock.c, s.clock.length, arrival + tenths r,
            preferredRow s, s.demand.supply, s.demand.extract, 16 * (s.frost.account / 16), s.frost.stage,
            announcedOutdoor s⟩
      ∧ statusOffer (frameOf .status idx (statusBody s mark r))
        = ⟨some s.house.mode, s.house.summer, s.house.stamp, s.house.origin⟩
      ∧ ∀ bs, bs = frameOf .status idx (statusBody s mark r) →
        byteAt bs 0 = 64 + idx.toNat
        ∧ byteAt bs 1 = (match s.seq.state with
          | .starting => 0 | .listen => 1 | .supply => 2 | .extract => 3 | .reversing => 4
          | .defrost => 5 | .through => 6 | .rest => 7 | .paused => 8 | .stopped => 9)
        ∧ byteAt bs 2 = (if s.clock.running = true then 1 else 0) + (if mark = true then 2 else 0)
            + (if s.humid.state = .boosting then 4 else 0) + (if 0 < s.seq.settling then 8 else 0)
            + (if s.filter.probe = .firstHalf ∨ s.filter.probe = .secondHalf then 16 else 0)
        ∧ byteAt bs 3 = (if s.lane = .B then 1 else 0)
            + 2 * (match s.roomClass with | .dry => 0 | .wet => 1 | .kitchen => 2)
            + 8 * (match s.filter.state with | .clean => 0 | .due => 1 | .blocked => 2)
        ∧ byteAt bs 4 = s.clock.c.toNat ∧ byteAt bs 5 = s.clock.length
        ∧ 256 * byteAt bs 6 + byteAt bs 7 = r
        ∧ byteAt bs 8 = (match s.frost.stage with
          | .clear => 0 | .limiting => 1 | .contending => 2 | .deferred => 3 | .defrosting => 4 | .lockout => 5
          | .blind => 6) + 16 * preferredRow s
        ∧ byteAt bs 9 = s.demand.supply ∧ byteAt bs 10 = s.demand.extract
        ∧ byteAt bs 11 = s.frost.account / 16
        ∧ (bs.getD 12 0).toInt = (match s.climate.outdoor with | none => -128 | some x => x.tdiv 5)
        ∧ byteAt bs 13 = (if s.ctl.stall = true then 1 else 0) + (if s.climate.outer.fault = true then 2 else 0)
            + (if s.climate.inner.fault = true then 4 else 0) + (if s.climate.humidity.fault = true then 8 else 0)
            + (if s.line.active = true then 16 else 0) + (if s.ctl.duplicate = true then 32 else 0)
            + (if s.ctl.config = true then 64 else 0) + (if s.ctl.memory = true then 128 else 0)
        ∧ byteAt bs 14 = (match s.house.mode with | .away => 0 | .normal => 1 | .high => 2)
            + (if s.house.summer = true then 128 else 0)
        ∧ byteAt bs 15 = s.house.stamp.toNat ∧ byteAt bs 16 = s.house.origin)
  ∧ (∀ f : FilterRec, f.baseline < 65536 → f.countdown < 65536 → f.runHours < 65536 →
      byteSum (filterRecordBytes f) = 0
        ∧ filterValuesOf (filterRecordBytes f) = ⟨f.baseline, f.countdown, f.runHours, f.state⟩)
  ∧ (∀ s : State, preferredRow s = if s.frost.stage = .blind then 3
      else min 3 (s.climate.band + if s.frost.stage = .clear then 0 else 1))
  ∧ (∀ s : State,
      (∀ e, s.clock.running = true → s.clock.endTime = some e → timeRemaining s = (e - s.now) / 25000)
        ∧ (s.clock.running = false ∨ s.clock.endTime = none → timeRemaining s = 0))

/-- A value is the fallback exactly when LINE is clear and it is 5 times the reading of some FRESH record with a
status part and not the none value -128, at or below every such reading; there is no fallback exactly when
LINE is active or no record qualifies. (R142) -/
def Obligations.OutdoorFallbackIsTheLowest : Prop :=
  ∀ s : State,
    (∀ x : Int, outdoorFallback s = some x ↔
      s.line.active = false
      ∧ (∃ p ∈ s.peers, ∃ st, p.fresh = true ∧ p.status = some st ∧ st.outdoor ≠ -128 ∧ x = 5 * st.outdoor)
      ∧ (∀ p ∈ s.peers, ∀ st, p.fresh = true → p.status = some st → st.outdoor ≠ -128 → x ≤ 5 * st.outdoor))
    ∧ (outdoorFallback s = none ↔
      s.line.active = true
      ∨ ∀ p ∈ s.peers, ∀ st, p.fresh = true → p.status = some st → st.outdoor = -128)

/-- For every 12-bit code: outside 300..3700 it is not converted; inside, it is (k - 400) * 1000 / 3200
truncated toward zero and clamped to 0..1000, with the three worked codes 300, 2384 and 3700 as given; a
channel without a fault takes a code that is not converted as a fault. (R57) -/
def Obligations.HumidityCodesConvert : Prop :=
  ∀ k : BitVec 12,
    (k.toNat < 300 ∨ 3700 < k.toNat → convertHumidity k = none
      ∧ ∀ c : Channel, c.fault = false → (c.step (convertHumidity k)).fault = true)
    ∧ (300 ≤ k.toNat → k.toNat ≤ 3700 →
      convertHumidity k = some (max 0 (min 1000 ((((k.toNat : Int) - 400) * 1000).tdiv 3200))))
    ∧ convertHumidity 300 = some 0 ∧ convertHumidity 2384 = some 620 ∧ convertHumidity 3700 = some 1000
    ∧ (300 ≤ k.toNat → k.toNat ≤ 400 → convertHumidity k = some 0)
    ∧ (3600 < k.toNat → k.toNat ≤ 3700 → convertHumidity k = some 1000)

/-- A record not valid or not EXTRACT moves neither frost account nor humidity monitor. Outside DEFROSTING and
BLIND a mean exhaust temperature below 0 adds clamp(Td - x, 0, 200) * p * D / 12000 (to 4000 at most; Td 100
without a moisture part), 0 to 9 nothing, 10 and above takes x * p * D / 600. SEEDING takes AH as baseline;
WATCHING starts a boost of 90 at a rise of the step or at the ceiling, its entry over the others in their
order, three at most, and a probe in progress abandoned, else moves the baseline by a sixteenth; BOOSTING
counts falls and ends at two under the ceiling less 5 % (log 37); REARMING goes back to WATCHING.
HALF_BOUNDARY does this with the record it closes, unless a sample of its instant that waits behind it
raises a thermistor fault (log 41). A probe half is accepted with a valid record of its direction and ten
readings; two give Sp, then the baseline or the load and the filter state; anything else abandons the probe.
That a result is formed also where the same record starts a humidity boost is the model's order of the
blocks (log 4). (4.2, 4.3, 5.2, 6.2, 6.3, 8.4, 8.5, 8.6) -/
def Obligations.RecordsFeedTheMonitors : Prop :=
  (∀ (r : HalfRecord) (s : State),
    (r.valid = false ∨ r.direction ≠ some .extract → frostTakesRecord r s = s ∧ humidTakesRecord r s = s)
    ∧ (r.valid = true → r.direction = some .extract →
      (s.frost.stage = .defrosting ∨ s.frost.stage = .blind → frostTakesRecord r s = s)
      ∧ (∀ x, r.outer = some x → s.frost.stage ≠ .defrosting → s.frost.stage ≠ .blind →
        (x < 0 → (frostTakesRecord r s).frost.account = min 4000 (s.frost.account
          + (max 0 (min 200 ((r.moisture.elim 100 (·.td)) - x))).toNat * r.flowPercent * r.duration / 12000))
        ∧ (0 ≤ x → x ≤ 9 → (frostTakesRecord r s).frost.account = s.frost.account)
        ∧ (10 ≤ x → (frostTakesRecord r s).frost.account
            = s.frost.account - x.toNat * r.flowPercent * r.duration / 600))
      ∧ (∀ m, r.moisture = some m → ∀ rh, r.rh = some rh → ∀ (step half ceil : Int),
        step = 5 * (s.cfg.humidityStep : Int) → half = ((5 * s.cfg.humidityStep / 2 : Nat) : Int) →
        ceil = 10 * (s.cfg.rhCeiling : Int) →
        (s.humid.state = .disabled → humidTakesRecord r s = s)
        ∧ (s.humid.state = .seeding → (humidTakesRecord r s).humid
            = { s.humid with state := .watching, baseline := some m.ah })
        ∧ (∀ b, s.humid.state = .watching → s.humid.baseline = some b →
          (step ≤ m.ah - b ∨ ceil ≤ rh →
            (humidTakesRecord r s).humid = { s.humid with
              state := .boosting, boostStart := some s.now, falling := 0 }
            ∧ (humidTakesRecord r s).demand.stack
                = ⟨.humidity, ownNumber s, 90, none⟩ :: (without .humidity (ownNumber s) s.demand.stack).take 3
            ∧ probeAbandoned s.now s (humidTakesRecord r s)
            ∧ (humidTakesRecord r s).demand.requested = 90)
          ∧ ((m.ah : Int) - b < step → rh < ceil →
            ∃ b' : Nat, (b' : Int) = b + ((m.ah : Int) - b).tdiv 16
              ∧ humidTakesRecord r s = { s with humid := { s.humid with baseline := some b' } }))
        ∧ (∀ n, s.humid.state = .boosting →
          n = (match s.humid.baseline with
            | some b => if step ≤ m.ah - b then 0 else if (m.ah : Int) - b ≤ half then min 2 (s.humid.falling + 1)
                else s.humid.falling
            | none => if ceil ≤ rh then 0 else if rh < ceil - 50 then min 2 (s.humid.falling + 1)
                else s.humid.falling) →
          (n = 2 → rh < ceil - 50 →
            (humidTakesRecord r s).humid = { s.humid with
              state := if s.humid.baseline = none then .seeding else .watching, boostStart := none, falling := 0 }
            ∧ (humidTakesRecord r s).demand.stack = without .humidity (ownNumber s) s.demand.stack)
          ∧ (n ≠ 2 ∨ ceil - 50 ≤ rh → humidTakesRecord r s = { s with humid := { s.humid with falling := n } }))
        ∧ (s.humid.state = .rearming →
          (∀ b, s.humid.baseline = some b →
            ((m.ah : Int) - b ≤ half → ∃ b' : Nat, (b' : Int) = b + ((m.ah : Int) - b).tdiv 16
              ∧ humidTakesRecord r s = { s with humid := { s.humid with state := .watching, baseline := some b' } })
            ∧ (half < (m.ah : Int) - b → humidTakesRecord r s = s))
          ∧ (s.humid.baseline = none →
            (rh < ceil - 50 → humidTakesRecord r s
              = { s with humid := { s.humid with state := .watching, baseline := some m.ah } })
            ∧ (ceil - 50 ≤ rh → humidTakesRecord r s = s))))))
  ∧ (∀ (t e : Time) (s : State), s.inReset = false → s.clock.running = true → s.clock.endTime = some e → e ≤ timeAfter t s →
    ∃ s' r, exec (.halfBoundary t) s = .next s' ∧ s'.climate.ring.getLast? = some r
      ∧ ((∀ i o h t', Instr.sample i o h t' ∈ s.pending → thermistorValid i = true ∧ thermistorValid o = true) →
        s'.frost.account = (frostTakesRecord r (advance t s)).frost.account
        ∧ (s.seq.state ≠ .rest → s'.humid = (humidTakesRecord r (advance t s)).humid
          ∧ s'.demand.stack = (humidTakesRecord r (advance t s)).demand.stack))
      ∧ (∀ i o h t' rest, s.pending = .sample i o h t' :: rest → t' ≤ timeAfter t s →
          (s.climate.inner.fault = false ∧ thermistorValid i = false)
            ∨ (s.climate.outer.fault = false ∧ thermistorValid o = false) →
        s'.frost.account = s.frost.account
        ∧ (s.seq.state ≠ .rest → s'.humid = s.humid ∧ s'.demand.stack = s.demand.stack))
      ∧ (s.filter.probing = true → (∀ h, s.filter.halfStart = some h → h < timeAfter t s) →
        (∀ d : Dir, s.seq.state = d.state → s.house.summer = false → r.valid = true → s.filter.expected = some d →
            s.filter.speeds.length = 10 →
          (s.filter.probe = .firstHalf → s'.frost.stage = s.frost.stage → s'.humid.state = s.humid.state →
            s'.filter = { s.filter with
              firstSpeed := some ⟨s.filter.speeds.sum / 10, d⟩, firstClose := some (timeAfter t s)
              halfStart := some (timeAfter t s), expected := some d.other, speeds := [], probe := .secondHalf
              holdPlaced := false }
            ∧ s'.fan.probeHold = false)
          ∧ (∀ f sp, s.filter.probe = .secondHalf → s.filter.firstSpeed = some f →
              (∃ q ∈ s'.climate.ring, s.filter.firstClose = some q.close ∧ q.valid = true) →
              sp = (f.rpm + s.filter.speeds.sum / 10) / 2 → 0 < sp →
            ∃ (load : Nat) (rise : FilterState),
              (s.filter.baseline = 0 → load = 0 ∧ rise = s.filter.state)
              ∧ (0 < s.filter.baseline →
                  (load : Int) = max 0 (min 999
                    ((((sp : Int) - (s.filter.baseline : Int)) * 1000).tdiv (s.filter.baseline : Int)))
                  ∧ rise = (if s.cfg.blockedRise ≤ load then .blocked
                    else if s.cfg.dueRise ≤ load ∧ s.filter.state = .clean then .due else s.filter.state))
              ∧ s'.filter = { s.filter with
                  baseline := if s.filter.baseline = 0 then sp else s.filter.baseline
                  load := load, state := rise, firstSpeed := none, firstClose := none, halfStart := none
                  expected := none, speeds := [], holdPlaced := false, probe := .idle, hoursToProbe := 24 }
              ∧ s'.fan.probeHold = false
              ∧ (s.loader.writeEnabled = true → s.loader.inFlight = false →
                  s.filter.baseline = 0 ∨ rise ≠ s.filter.state →
                  s'.loader = { s.loader with inFlight := true, writeBytes := filterRecordBytes s'.filter })
              ∧ (s.loader.writeEnabled = false ∨ (s.filter.baseline ≠ 0 ∧ rise = s.filter.state) →
                  s'.loader = s.loader)))
        ∧ (r.valid = false ∨ r.direction ≠ s.filter.expected ∨ s.filter.speeds.length ≠ 10
            ∨ (s.filter.probe = .secondHalf ∧
              ((∀ q ∈ s'.climate.ring, s.filter.firstClose = some q.close → q.valid = false)
                ∨ ∃ f, s.filter.firstSpeed = some f ∧ (f.rpm + s.filter.speeds.sum / 10) / 2 = 0)) →
          s'.filter = { s.filter with
            probe := .waiting, abandonTime := some (timeAfter t s), holdPlaced := false, speeds := []
            firstSpeed := none, firstClose := none, halfStart := none, expected := none }
          ∧ s'.fan.probeHold = false)))
end

