-- ==== Sys2Proof/Laws/KeepsOps.lean ====
section
/-! SUPPORT. What the shared operations and the operations of the filter monitor, the humidity monitor and
the frost stage leave as it was: one theorem for each operation. -/

namespace Sys2Proof.Machine

@[simp] theorem selectLamps_keeps (s : State) :
    (selectLamps s).now = s.now ∧ (selectLamps s).inReset = s.inReset ∧ (selectLamps s).strapsRead = s.strapsRead
    ∧ (selectLamps s).stationIndex = s.stationIndex ∧ (selectLamps s).lane = s.lane
    ∧ (selectLamps s).roomClass = s.roomClass ∧ (selectLamps s).cfg = s.cfg ∧ (selectLamps s).clock = s.clock
    ∧ (selectLamps s).seq = s.seq ∧ (selectLamps s).fan = s.fan ∧ (selectLamps s).climate = s.climate
    ∧ (selectLamps s).frost = s.frost ∧ (selectLamps s).humid = s.humid ∧ (selectLamps s).demand = s.demand
    ∧ (selectLamps s).filter = s.filter ∧ (selectLamps s).peers = s.peers ∧ (selectLamps s).house = s.house
    ∧ (selectLamps s).line = s.line ∧ (selectLamps s).loader = s.loader ∧ (selectLamps s).pending = s.pending
    ∧ (selectLamps s).ctl.steady = s.ctl.steady ∧ (selectLamps s).ctl.levels = s.ctl.levels
    ∧ (selectLamps s).ctl.stall = s.ctl.stall :=
  ⟨rfl, rfl, rfl, rfl, rfl, rfl, rfl, rfl, rfl, rfl, rfl, rfl, rfl, rfl, rfl, rfl, rfl, rfl, rfl, rfl,
    rfl, rfl, rfl⟩

@[simp] theorem moveTime_keeps (t : Time) (s : State) :
    (moveTime t s).inReset = s.inReset ∧ (moveTime t s).strapsRead = s.strapsRead
    ∧ (moveTime t s).stationIndex = s.stationIndex ∧ (moveTime t s).lane = s.lane
    ∧ (moveTime t s).roomClass = s.roomClass ∧ (moveTime t s).cfg = s.cfg ∧ (moveTime t s).clock = s.clock
    ∧ (moveTime t s).seq = s.seq ∧ (moveTime t s).climate = s.climate ∧ (moveTime t s).frost = s.frost
    ∧ (moveTime t s).humid = s.humid ∧ (moveTime t s).demand = s.demand ∧ (moveTime t s).filter = s.filter
    ∧ (moveTime t s).peers = s.peers ∧ (moveTime t s).house = s.house ∧ (moveTime t s).ctl = s.ctl
    ∧ (moveTime t s).loader = s.loader ∧ (moveTime t s).pending = s.pending
    ∧ (moveTime t s).fan.direction = s.fan.direction ∧ (moveTime t s).fan.speed = s.fan.speed
    ∧ (moveTime t s).fan.periods = s.fan.periods ∧ (moveTime t s).fan.holdEnd = s.fan.holdEnd
    ∧ (moveTime t s).line.active = s.line.active ∧ (moveTime t s).line.transmission = s.line.transmission
    ∧ (moveTime t s).line.assembly = s.line.assembly ∧ (moveTime t s).line.busyUntil = s.line.busyUntil
    ∧ (moveTime t s).line.modeSlot = s.line.modeSlot ∧ (moveTime t s).line.boostSlot = s.line.boostSlot
    ∧ (moveTime t s).line.steady = s.line.steady :=
  ⟨rfl, rfl, rfl, rfl, rfl, rfl, rfl, rfl, rfl, rfl, rfl, rfl, rfl, rfl, rfl, rfl, rfl, rfl, rfl, rfl,
    rfl, rfl, rfl, rfl, rfl, rfl, rfl, rfl, rfl⟩

@[simp] theorem trackStall_keeps (m : State) (start : Time) (s : State) :
    (trackStall m start s).now = s.now ∧ (trackStall m start s).inReset = s.inReset
    ∧ (trackStall m start s).strapsRead = s.strapsRead ∧ (trackStall m start s).stationIndex = s.stationIndex
    ∧ (trackStall m start s).lane = s.lane ∧ (trackStall m start s).roomClass = s.roomClass
    ∧ (trackStall m start s).cfg = s.cfg ∧ (trackStall m start s).clock = s.clock
    ∧ (trackStall m start s).seq = s.seq ∧ (trackStall m start s).climate = s.climate
    ∧ (trackStall m start s).frost = s.frost ∧ (trackStall m start s).humid = s.humid
    ∧ (trackStall m start s).demand = s.demand ∧ (trackStall m start s).filter = s.filter
    ∧ (trackStall m start s).peers = s.peers ∧ (trackStall m start s).house = s.house
    ∧ (trackStall m start s).line = s.line ∧ (trackStall m start s).ctl = s.ctl
    ∧ (trackStall m start s).loader = s.loader ∧ (trackStall m start s).pending = s.pending
    ∧ (trackStall m start s).fan.direction = s.fan.direction ∧ (trackStall m start s).fan.speed = s.fan.speed
    ∧ (trackStall m start s).fan.periods = s.fan.periods
    ∧ (trackStall m start s).fan.driveOutput = s.fan.driveOutput
    ∧ (trackStall m start s).fan.holdEnd = s.fan.holdEnd
    ∧ (trackStall m start s).fan.captureCounter = s.fan.captureCounter :=
  ⟨rfl, rfl, rfl, rfl, rfl, rfl, rfl, rfl, rfl, rfl, rfl, rfl, rfl, rfl, rfl, rfl, rfl, rfl, rfl, rfl,
    rfl, rfl, rfl, rfl, rfl, rfl⟩

@[simp] theorem advance_keeps (t : Time) (s : State) :
    (advance t s).inReset = s.inReset ∧ (advance t s).strapsRead = s.strapsRead
    ∧ (advance t s).stationIndex = s.stationIndex ∧ (advance t s).lane = s.lane
    ∧ (advance t s).roomClass = s.roomClass ∧ (advance t s).cfg = s.cfg ∧ (advance t s).clock = s.clock
    ∧ (advance t s).seq = s.seq ∧ (advance t s).climate = s.climate ∧ (advance t s).frost = s.frost
    ∧ (advance t s).humid = s.humid ∧ (advance t s).demand = s.demand ∧ (advance t s).filter = s.filter
    ∧ (advance t s).peers = s.peers ∧ (advance t s).house = s.house ∧ (advance t s).ctl = s.ctl
    ∧ (advance t s).loader = s.loader ∧ (advance t s).pending = s.pending
    ∧ (advance t s).fan.direction = s.fan.direction ∧ (advance t s).fan.speed = s.fan.speed
    ∧ (advance t s).fan.periods = s.fan.periods ∧ (advance t s).fan.holdEnd = s.fan.holdEnd
    ∧ (advance t s).line.active = s.line.active ∧ (advance t s).line.transmission = s.line.transmission
    ∧ (advance t s).line.assembly = s.line.assembly ∧ (advance t s).line.busyUntil = s.line.busyUntil
    ∧ (advance t s).line.modeSlot = s.line.modeSlot ∧ (advance t s).line.boostSlot = s.line.boostSlot
    ∧ (advance t s).line.steady = s.line.steady :=
  ⟨rfl, rfl, rfl, rfl, rfl, rfl, rfl, rfl, rfl, rfl, rfl, rfl, rfl, rfl, rfl, rfl, rfl, rfl, rfl, rfl,
    rfl, rfl, rfl, rfl, rfl, rfl, rfl, rfl, rfl⟩

@[simp] theorem requestStatus_keeps (mark : Bool) (s : State) :
    (requestStatus mark s).now = s.now ∧ (requestStatus mark s).inReset = s.inReset
    ∧ (requestStatus mark s).strapsRead = s.strapsRead ∧ (requestStatus mark s).stationIndex = s.stationIndex
    ∧ (requestStatus mark s).lane = s.lane ∧ (requestStatus mark s).roomClass = s.roomClass
    ∧ (requestStatus mark s).cfg = s.cfg ∧ (requestStatus mark s).clock = s.clock
    ∧ (requestStatus mark s).seq = s.seq ∧ (requestStatus mark s).fan = s.fan
    ∧ (requestStatus mark s).climate = s.climate ∧ (requestStatus mark s).frost = s.frost
    ∧ (requestStatus mark s).humid = s.humid ∧ (requestStatus mark s).demand = s.demand
    ∧ (requestStatus mark s).filter = s.filter ∧ (requestStatus mark s).peers = s.peers
    ∧ (requestStatus mark s).house = s.house ∧ (requestStatus mark s).ctl = s.ctl
    ∧ (requestStatus mark s).loader = s.loader ∧ (requestStatus mark s).pending = s.pending
    ∧ (requestStatus mark s).line.active = s.line.active
    ∧ (requestStatus mark s).line.transmission = s.line.transmission
    ∧ (requestStatus mark s).line.assembly = s.line.assembly
    ∧ (requestStatus mark s).line.idleTime = s.line.idleTime
    ∧ (requestStatus mark s).line.busyUntil = s.line.busyUntil
    ∧ (requestStatus mark s).line.modeSlot = s.line.modeSlot
    ∧ (requestStatus mark s).line.boostSlot = s.line.boostSlot
    ∧ (requestStatus mark s).line.steady = s.line.steady :=
  ⟨rfl, rfl, rfl, rfl, rfl, rfl, rfl, rfl, rfl, rfl, rfl, rfl, rfl, rfl, rfl, rfl, rfl, rfl, rfl, rfl,
    rfl, rfl, rfl, rfl, rfl, rfl, rfl, rfl⟩

@[simp] theorem queueMode_keeps (s : State) :
    (queueMode s).now = s.now ∧ (queueMode s).inReset = s.inReset ∧ (queueMode s).strapsRead = s.strapsRead
    ∧ (queueMode s).stationIndex = s.stationIndex ∧ (queueMode s).lane = s.lane
    ∧ (queueMode s).roomClass = s.roomClass ∧ (queueMode s).cfg = s.cfg ∧ (queueMode s).clock = s.clock
    ∧ (queueMode s).seq = s.seq ∧ (queueMode s).fan = s.fan ∧ (queueMode s).climate = s.climate
    ∧ (queueMode s).frost = s.frost ∧ (queueMode s).humid = s.humid ∧ (queueMode s).demand = s.demand
    ∧ (queueMode s).filter = s.filter ∧ (queueMode s).peers = s.peers ∧ (queueMode s).house = s.house
    ∧ (queueMode s).ctl = s.ctl ∧ (queueMode s).loader = s.loader ∧ (queueMode s).pending = s.pending
    ∧ (queueMode s).line.active = s.line.active ∧ (queueMode s).line.transmission = s.line.transmission
    ∧ (queueMode s).line.assembly = s.line.assembly ∧ (queueMode s).line.idleTime = s.line.idleTime
    ∧ (queueMode s).line.busyUntil = s.line.busyUntil ∧ (queueMode s).line.boostSlot = s.line.boostSlot :=
  ⟨rfl, rfl, rfl, rfl, rfl, rfl, rfl, rfl, rfl, rfl, rfl, rfl, rfl, rfl, rfl, rfl, rfl, rfl, rfl, rfl,
    rfl, rfl, rfl, rfl, rfl, rfl⟩

@[simp] theorem queueBoost_keeps (b : BoostCall) (s : State) :
    (queueBoost b s).now = s.now ∧ (queueBoost b s).inReset = s.inReset
    ∧ (queueBoost b s).strapsRead = s.strapsRead ∧ (queueBoost b s).stationIndex = s.stationIndex
    ∧ (queueBoost b s).lane = s.lane ∧ (queueBoost b s).roomClass = s.roomClass ∧ (queueBoost b s).cfg = s.cfg
    ∧ (queueBoost b s).clock = s.clock ∧ (queueBoost b s).seq = s.seq ∧ (queueBoost b s).fan = s.fan
    ∧ (queueBoost b s).climate = s.climate ∧ (queueBoost b s).frost = s.frost ∧ (queueBoost b s).humid = s.humid
    ∧ (queueBoost b s).demand = s.demand ∧ (queueBoost b s).filter = s.filter ∧ (queueBoost b s).peers = s.peers
    ∧ (queueBoost b s).house = s.house ∧ (queueBoost b s).ctl = s.ctl ∧ (queueBoost b s).loader = s.loader
    ∧ (queueBoost b s).pending = s.pending ∧ (queueBoost b s).line.active = s.line.active
    ∧ (queueBoost b s).line.transmission = s.line.transmission ∧ (queueBoost b s).line.assembly = s.line.assembly
    ∧ (queueBoost b s).line.idleTime = s.line.idleTime ∧ (queueBoost b s).line.busyUntil = s.line.busyUntil
    ∧ (queueBoost b s).line.modeSlot = s.line.modeSlot :=
  ⟨rfl, rfl, rfl, rfl, rfl, rfl, rfl, rfl, rfl, rfl, rfl, rfl, rfl, rfl, rfl, rfl, rfl, rfl, rfl, rfl,
    rfl, rfl, rfl, rfl, rfl, rfl⟩

@[simp] theorem queueNotice_keeps (a : NoticeAction) (forced : Bool) (s : State) :
    (queueNotice a forced s).now = s.now ∧ (queueNotice a forced s).inReset = s.inReset
    ∧ (queueNotice a forced s).strapsRead = s.strapsRead ∧ (queueNotice a forced s).stationIndex = s.stationIndex
    ∧ (queueNotice a forced s).lane = s.lane ∧ (queueNotice a forced s).roomClass = s.roomClass
    ∧ (queueNotice a forced s).cfg = s.cfg ∧ (queueNotice a forced s).clock = s.clock
    ∧ (queueNotice a forced s).seq = s.seq ∧ (queueNotice a forced s).fan = s.fan
    ∧ (queueNotice a forced s).climate = s.climate ∧ (queueNotice a forced s).humid = s.humid
    ∧ (queueNotice a forced s).demand = s.demand ∧ (queueNotice a forced s).filter = s.filter
    ∧ (queueNotice a forced s).peers = s.peers ∧ (queueNotice a forced s).house = s.house
    ∧ (queueNotice a forced s).ctl = s.ctl ∧ (queueNotice a forced s).loader = s.loader
    ∧ (queueNotice a forced s).pending = s.pending ∧ (queueNotice a forced s).frost.account = s.frost.account
    ∧ (queueNotice a forced s).frost.stage = s.frost.stage
    ∧ (queueNotice a forced s).frost.meltStepEnd = s.frost.meltStepEnd
    ∧ (queueNotice a forced s).line.active = s.line.active
    ∧ (queueNotice a forced s).line.transmission = s.line.transmission
    ∧ (queueNotice a forced s).line.assembly = s.line.assembly
    ∧ (queueNotice a forced s).line.idleTime = s.line.idleTime
    ∧ (queueNotice a forced s).line.busyUntil = s.line.busyUntil
    ∧ (queueNotice a forced s).line.modeSlot = s.line.modeSlot
    ∧ (queueNotice a forced s).line.boostSlot = s.line.boostSlot :=
  ⟨rfl, rfl, rfl, rfl, rfl, rfl, rfl, rfl, rfl, rfl, rfl, rfl, rfl, rfl, rfl, rfl, rfl, rfl, rfl, rfl,
    rfl, rfl, rfl, rfl, rfl, rfl, rfl, rfl, rfl⟩

@[simp] theorem startWrite_keeps (s : State) :
    (startWrite s).now = s.now ∧ (startWrite s).inReset = s.inReset ∧ (startWrite s).strapsRead = s.strapsRead
    ∧ (startWrite s).stationIndex = s.stationIndex ∧ (startWrite s).lane = s.lane
    ∧ (startWrite s).roomClass = s.roomClass ∧ (startWrite s).cfg = s.cfg ∧ (startWrite s).clock = s.clock
    ∧ (startWrite s).seq = s.seq ∧ (startWrite s).fan = s.fan ∧ (startWrite s).climate = s.climate
    ∧ (startWrite s).frost = s.frost ∧ (startWrite s).humid = s.humid ∧ (startWrite s).demand = s.demand
    ∧ (startWrite s).filter = s.filter ∧ (startWrite s).peers = s.peers ∧ (startWrite s).house = s.house
    ∧ (startWrite s).line = s.line ∧ (startWrite s).ctl = s.ctl ∧ (startWrite s).pending = s.pending :=
  ⟨rfl, rfl, rfl, rfl, rfl, rfl, rfl, rfl, rfl, rfl, rfl, rfl, rfl, rfl, rfl, rfl, rfl, rfl, rfl, rfl⟩

@[simp] theorem requestWriteBack_keeps (s : State) :
    (requestWriteBack s).now = s.now ∧ (requestWriteBack s).inReset = s.inReset
    ∧ (requestWriteBack s).strapsRead = s.strapsRead ∧ (requestWriteBack s).stationIndex = s.stationIndex
    ∧ (requestWriteBack s).lane = s.lane ∧ (requestWriteBack s).roomClass = s.roomClass
    ∧ (requestWriteBack s).cfg = s.cfg ∧ (requestWriteBack s).clock = s.clock ∧ (requestWriteBack s).seq = s.seq
    ∧ (requestWriteBack s).fan = s.fan ∧ (requestWriteBack s).climate = s.climate
    ∧ (requestWriteBack s).frost = s.frost ∧ (requestWriteBack s).humid = s.humid
    ∧ (requestWriteBack s).demand = s.demand ∧ (requestWriteBack s).filter = s.filter
    ∧ (requestWriteBack s).peers = s.peers ∧ (requestWriteBack s).house = s.house
    ∧ (requestWriteBack s).line = s.line ∧ (requestWriteBack s).ctl = s.ctl
    ∧ (requestWriteBack s).pending = s.pending := by
  unfold requestWriteBack
  (repeat' split) <;> simp

@[simp] theorem endWrite_keeps (s : State) :
    (endWrite s).now = s.now ∧ (endWrite s).inReset = s.inReset ∧ (endWrite s).strapsRead = s.strapsRead
    ∧ (endWrite s).stationIndex = s.stationIndex ∧ (endWrite s).lane = s.lane
    ∧ (endWrite s).roomClass = s.roomClass ∧ (endWrite s).cfg = s.cfg ∧ (endWrite s).clock = s.clock
    ∧ (endWrite s).seq = s.seq ∧ (endWrite s).fan = s.fan ∧ (endWrite s).climate = s.climate
    ∧ (endWrite s).frost = s.frost ∧ (endWrite s).humid = s.humid ∧ (endWrite s).demand = s.demand
    ∧ (endWrite s).filter = s.filter ∧ (endWrite s).peers = s.peers ∧ (endWrite s).house = s.house
    ∧ (endWrite s).line = s.line ∧ (endWrite s).ctl = s.ctl ∧ (endWrite s).pending = s.pending := by
  unfold endWrite
  (repeat' split) <;> simp

@[simp] theorem liftHold_keeps (s : State) :
    (liftHold s).now = s.now ∧ (liftHold s).inReset = s.inReset ∧ (liftHold s).strapsRead = s.strapsRead
    ∧ (liftHold s).stationIndex = s.stationIndex ∧ (liftHold s).lane = s.lane
    ∧ (liftHold s).roomClass = s.roomClass ∧ (liftHold s).cfg = s.cfg ∧ (liftHold s).clock = s.clock
    ∧ (liftHold s).seq = s.seq ∧ (liftHold s).climate = s.climate ∧ (liftHold s).frost = s.frost
    ∧ (liftHold s).humid = s.humid ∧ (liftHold s).demand = s.demand ∧ (liftHold s).peers = s.peers
    ∧ (liftHold s).house = s.house ∧ (liftHold s).line = s.line ∧ (liftHold s).ctl = s.ctl
    ∧ (liftHold s).loader = s.loader ∧ (liftHold s).pending = s.pending
    ∧ (liftHold s).fan.direction = s.fan.direction ∧ (liftHold s).fan.speed = s.fan.speed
    ∧ (liftHold s).fan.periods = s.fan.periods ∧ (liftHold s).fan.driveOutput = s.fan.driveOutput
    ∧ (liftHold s).fan.holdEnd = s.fan.holdEnd ∧ (liftHold s).fan.captureCounter = s.fan.captureCounter
    ∧ (liftHold s).filter.state = s.filter.state ∧ (liftHold s).filter.baseline = s.filter.baseline
    ∧ (liftHold s).filter.runHours = s.filter.runHours :=
  ⟨rfl, rfl, rfl, rfl, rfl, rfl, rfl, rfl, rfl, rfl, rfl, rfl, rfl, rfl, rfl, rfl, rfl, rfl, rfl, rfl,
    rfl, rfl, rfl, rfl, rfl, rfl, rfl, rfl⟩

@[simp] theorem dropProbe_keeps (s : State) :
    (dropProbe s).now = s.now ∧ (dropProbe s).inReset = s.inReset ∧ (dropProbe s).strapsRead = s.strapsRead
    ∧ (dropProbe s).stationIndex = s.stationIndex ∧ (dropProbe s).lane = s.lane
    ∧ (dropProbe s).roomClass = s.roomClass ∧ (dropProbe s).cfg = s.cfg ∧ (dropProbe s).clock = s.clock
    ∧ (dropProbe s).seq = s.seq ∧ (dropProbe s).climate = s.climate ∧ (dropProbe s).frost = s.frost
    ∧ (dropProbe s).humid = s.humid ∧ (dropProbe s).demand = s.demand ∧ (dropProbe s).peers = s.peers
    ∧ (dropProbe s).house = s.house ∧ (dropProbe s).line = s.line ∧ (dropProbe s).ctl = s.ctl
    ∧ (dropProbe s).loader = s.loader ∧ (dropProbe s).pending = s.pending
    ∧ (dropProbe s).fan.direction = s.fan.direction ∧ (dropProbe s).fan.speed = s.fan.speed
    ∧ (dropProbe s).fan.periods = s.fan.periods ∧ (dropProbe s).fan.driveOutput = s.fan.driveOutput
    ∧ (dropProbe s).fan.holdEnd = s.fan.holdEnd ∧ (dropProbe s).fan.captureCounter = s.fan.captureCounter
    ∧ (dropProbe s).filter.state = s.filter.state ∧ (dropProbe s).filter.baseline = s.filter.baseline
    ∧ (dropProbe s).filter.runHours = s.filter.runHours :=
  ⟨rfl, rfl, rfl, rfl, rfl, rfl, rfl, rfl, rfl, rfl, rfl, rfl, rfl, rfl, rfl, rfl, rfl, rfl, rfl, rfl,
    rfl, rfl, rfl, rfl, rfl, rfl, rfl, rfl⟩

@[simp] theorem abandonProbe_keeps (s : State) :
    (abandonProbe s).now = s.now ∧ (abandonProbe s).inReset = s.inReset
    ∧ (abandonProbe s).strapsRead = s.strapsRead ∧ (abandonProbe s).stationIndex = s.stationIndex
    ∧ (abandonProbe s).lane = s.lane ∧ (abandonProbe s).roomClass = s.roomClass ∧ (abandonProbe s).cfg = s.cfg
    ∧ (abandonProbe s).clock = s.clock ∧ (abandonProbe s).seq = s.seq ∧ (abandonProbe s).climate = s.climate
    ∧ (abandonProbe s).frost = s.frost ∧ (abandonProbe s).humid = s.humid ∧ (abandonProbe s).demand = s.demand
    ∧ (abandonProbe s).peers = s.peers ∧ (abandonProbe s).house = s.house ∧ (abandonProbe s).line = s.line
    ∧ (abandonProbe s).ctl = s.ctl ∧ (abandonProbe s).loader = s.loader ∧ (abandonProbe s).pending = s.pending
    ∧ (abandonProbe s).fan.direction = s.fan.direction ∧ (abandonProbe s).fan.speed = s.fan.speed
    ∧ (abandonProbe s).fan.periods = s.fan.periods ∧ (abandonProbe s).fan.driveOutput = s.fan.driveOutput
    ∧ (abandonProbe s).fan.holdEnd = s.fan.holdEnd ∧ (abandonProbe s).fan.captureCounter = s.fan.captureCounter
    ∧ (abandonProbe s).filter.state = s.filter.state ∧ (abandonProbe s).filter.baseline = s.filter.baseline
    ∧ (abandonProbe s).filter.runHours = s.filter.runHours := by
  unfold abandonProbe
  (repeat' split) <;> simp

@[simp] theorem reformLevels_keeps (s : State) :
    (reformLevels s).now = s.now ∧ (reformLevels s).inReset = s.inReset
    ∧ (reformLevels s).strapsRead = s.strapsRead ∧ (reformLevels s).stationIndex = s.stationIndex
    ∧ (reformLevels s).lane = s.lane ∧ (reformLevels s).roomClass = s.roomClass ∧ (reformLevels s).cfg = s.cfg
    ∧ (reformLevels s).clock = s.clock ∧ (reformLevels s).seq = s.seq ∧ (reformLevels s).fan = s.fan
    ∧ (reformLevels s).climate = s.climate ∧ (reformLevels s).frost = s.frost ∧ (reformLevels s).humid = s.humid
    ∧ (reformLevels s).filter = s.filter ∧ (reformLevels s).peers = s.peers ∧ (reformLevels s).house = s.house
    ∧ (reformLevels s).line = s.line ∧ (reformLevels s).ctl = s.ctl ∧ (reformLevels s).loader = s.loader
    ∧ (reformLevels s).pending = s.pending ∧ (reformLevels s).demand.stack = s.demand.stack
    ∧ (reformLevels s).demand.supply = s.demand.supply :=
  ⟨rfl, rfl, rfl, rfl, rfl, rfl, rfl, rfl, rfl, rfl, rfl, rfl, rfl, rfl, rfl, rfl, rfl, rfl, rfl, rfl,
    rfl, rfl⟩

@[simp] theorem push_keeps (e : Override) (s : State) :
    (push e s).now = s.now ∧ (push e s).inReset = s.inReset ∧ (push e s).strapsRead = s.strapsRead
    ∧ (push e s).stationIndex = s.stationIndex ∧ (push e s).lane = s.lane ∧ (push e s).roomClass = s.roomClass
    ∧ (push e s).cfg = s.cfg ∧ (push e s).clock = s.clock ∧ (push e s).seq = s.seq
    ∧ (push e s).climate = s.climate ∧ (push e s).frost = s.frost ∧ (push e s).humid = s.humid
    ∧ (push e s).peers = s.peers ∧ (push e s).house = s.house ∧ (push e s).line = s.line ∧ (push e s).ctl = s.ctl
    ∧ (push e s).loader = s.loader ∧ (push e s).pending = s.pending ∧ (push e s).fan.direction = s.fan.direction
    ∧ (push e s).fan.speed = s.fan.speed ∧ (push e s).fan.periods = s.fan.periods
    ∧ (push e s).fan.driveOutput = s.fan.driveOutput ∧ (push e s).fan.holdEnd = s.fan.holdEnd
    ∧ (push e s).fan.captureCounter = s.fan.captureCounter ∧ (push e s).demand.supply = s.demand.supply
    ∧ (push e s).filter.state = s.filter.state ∧ (push e s).filter.baseline = s.filter.baseline
    ∧ (push e s).filter.runHours = s.filter.runHours := by simp [push]

@[simp] theorem removeEntry_keeps (src : Source) (origin : Nat) (s : State) :
    (removeEntry src origin s).now = s.now ∧ (removeEntry src origin s).inReset = s.inReset
    ∧ (removeEntry src origin s).strapsRead = s.strapsRead
    ∧ (removeEntry src origin s).stationIndex = s.stationIndex ∧ (removeEntry src origin s).lane = s.lane
    ∧ (removeEntry src origin s).roomClass = s.roomClass ∧ (removeEntry src origin s).cfg = s.cfg
    ∧ (removeEntry src origin s).clock = s.clock ∧ (removeEntry src origin s).seq = s.seq
    ∧ (removeEntry src origin s).fan = s.fan ∧ (removeEntry src origin s).climate = s.climate
    ∧ (removeEntry src origin s).frost = s.frost ∧ (removeEntry src origin s).humid = s.humid
    ∧ (removeEntry src origin s).filter = s.filter ∧ (removeEntry src origin s).peers = s.peers
    ∧ (removeEntry src origin s).house = s.house ∧ (removeEntry src origin s).line = s.line
    ∧ (removeEntry src origin s).ctl = s.ctl ∧ (removeEntry src origin s).loader = s.loader
    ∧ (removeEntry src origin s).pending = s.pending ∧ (removeEntry src origin s).demand.supply = s.demand.supply :=
  ⟨rfl, rfl, rfl, rfl, rfl, rfl, rfl, rfl, rfl, rfl, rfl, rfl, rfl, rfl, rfl, rfl, rfl, rfl, rfl, rfl,
    rfl⟩

@[simp] theorem takeRise_keeps (s : State) :
    (takeRise s).now = s.now ∧ (takeRise s).inReset = s.inReset ∧ (takeRise s).strapsRead = s.strapsRead
    ∧ (takeRise s).stationIndex = s.stationIndex ∧ (takeRise s).lane = s.lane
    ∧ (takeRise s).roomClass = s.roomClass ∧ (takeRise s).cfg = s.cfg ∧ (takeRise s).clock = s.clock
    ∧ (takeRise s).seq = s.seq ∧ (takeRise s).fan = s.fan ∧ (takeRise s).climate = s.climate
    ∧ (takeRise s).frost = s.frost ∧ (takeRise s).humid = s.humid ∧ (takeRise s).filter = s.filter
    ∧ (takeRise s).peers = s.peers ∧ (takeRise s).house = s.house ∧ (takeRise s).line = s.line
    ∧ (takeRise s).ctl = s.ctl ∧ (takeRise s).loader = s.loader ∧ (takeRise s).pending = s.pending
    ∧ (takeRise s).demand.stack = s.demand.stack ∧ (takeRise s).demand.supply = s.demand.supply :=
  ⟨rfl, rfl, rfl, rfl, rfl, rfl, rfl, rfl, rfl, rfl, rfl, rfl, rfl, rfl, rfl, rfl, rfl, rfl, rfl, rfl,
    rfl, rfl⟩

@[simp] theorem recompute_keeps (s : State) :
    (recompute s).now = s.now ∧ (recompute s).inReset = s.inReset ∧ (recompute s).strapsRead = s.strapsRead
    ∧ (recompute s).stationIndex = s.stationIndex ∧ (recompute s).lane = s.lane
    ∧ (recompute s).roomClass = s.roomClass ∧ (recompute s).cfg = s.cfg ∧ (recompute s).clock = s.clock
    ∧ (recompute s).seq = s.seq ∧ (recompute s).climate = s.climate ∧ (recompute s).frost = s.frost
    ∧ (recompute s).humid = s.humid ∧ (recompute s).filter = s.filter ∧ (recompute s).peers = s.peers
    ∧ (recompute s).house = s.house ∧ (recompute s).line = s.line ∧ (recompute s).ctl = s.ctl
    ∧ (recompute s).loader = s.loader ∧ (recompute s).pending = s.pending
    ∧ (recompute s).fan.direction = s.fan.direction ∧ (recompute s).fan.speed = s.fan.speed
    ∧ (recompute s).fan.periods = s.fan.periods ∧ (recompute s).fan.driveOutput = s.fan.driveOutput
    ∧ (recompute s).fan.holdEnd = s.fan.holdEnd ∧ (recompute s).fan.captureCounter = s.fan.captureCounter
    ∧ (recompute s).demand.stack = s.demand.stack := by
  unfold recompute
  (repeat' split) <;> simp

@[simp] theorem trackDemand_keeps (m : State) (s : State) :
    (trackDemand m s).now = s.now ∧ (trackDemand m s).inReset = s.inReset
    ∧ (trackDemand m s).strapsRead = s.strapsRead ∧ (trackDemand m s).stationIndex = s.stationIndex
    ∧ (trackDemand m s).lane = s.lane ∧ (trackDemand m s).roomClass = s.roomClass ∧ (trackDemand m s).cfg = s.cfg
    ∧ (trackDemand m s).clock = s.clock ∧ (trackDemand m s).seq = s.seq ∧ (trackDemand m s).climate = s.climate
    ∧ (trackDemand m s).frost = s.frost ∧ (trackDemand m s).humid = s.humid ∧ (trackDemand m s).filter = s.filter
    ∧ (trackDemand m s).peers = s.peers ∧ (trackDemand m s).house = s.house ∧ (trackDemand m s).line = s.line
    ∧ (trackDemand m s).ctl = s.ctl ∧ (trackDemand m s).loader = s.loader ∧ (trackDemand m s).pending = s.pending
    ∧ (trackDemand m s).fan.direction = s.fan.direction ∧ (trackDemand m s).fan.speed = s.fan.speed
    ∧ (trackDemand m s).fan.periods = s.fan.periods ∧ (trackDemand m s).fan.driveOutput = s.fan.driveOutput
    ∧ (trackDemand m s).fan.holdEnd = s.fan.holdEnd ∧ (trackDemand m s).fan.captureCounter = s.fan.captureCounter
    ∧ (trackDemand m s).demand.stack = s.demand.stack := by
  unfold trackDemand
  (repeat' split) <;> simp

@[simp] theorem trackAnnounced_keeps (m : State) (s : State) :
    (trackAnnounced m s).now = s.now ∧ (trackAnnounced m s).inReset = s.inReset
    ∧ (trackAnnounced m s).strapsRead = s.strapsRead ∧ (trackAnnounced m s).stationIndex = s.stationIndex
    ∧ (trackAnnounced m s).lane = s.lane ∧ (trackAnnounced m s).roomClass = s.roomClass
    ∧ (trackAnnounced m s).cfg = s.cfg ∧ (trackAnnounced m s).clock = s.clock ∧ (trackAnnounced m s).seq = s.seq
    ∧ (trackAnnounced m s).fan = s.fan ∧ (trackAnnounced m s).climate = s.climate
    ∧ (trackAnnounced m s).frost = s.frost ∧ (trackAnnounced m s).humid = s.humid
    ∧ (trackAnnounced m s).demand = s.demand ∧ (trackAnnounced m s).filter = s.filter
    ∧ (trackAnnounced m s).peers = s.peers ∧ (trackAnnounced m s).house = s.house
    ∧ (trackAnnounced m s).ctl = s.ctl ∧ (trackAnnounced m s).loader = s.loader
    ∧ (trackAnnounced m s).pending = s.pending ∧ (trackAnnounced m s).line.active = s.line.active
    ∧ (trackAnnounced m s).line.transmission = s.line.transmission
    ∧ (trackAnnounced m s).line.assembly = s.line.assembly ∧ (trackAnnounced m s).line.idleTime = s.line.idleTime
    ∧ (trackAnnounced m s).line.busyUntil = s.line.busyUntil
    ∧ (trackAnnounced m s).line.modeSlot = s.line.modeSlot
    ∧ (trackAnnounced m s).line.boostSlot = s.line.boostSlot ∧ (trackAnnounced m s).line.steady = s.line.steady := by
  unfold trackAnnounced
  (repeat' split) <;> simp

@[simp] theorem trackLamps_keeps (m : State) (s : State) :
    (trackLamps m s).now = s.now ∧ (trackLamps m s).inReset = s.inReset
    ∧ (trackLamps m s).strapsRead = s.strapsRead ∧ (trackLamps m s).stationIndex = s.stationIndex
    ∧ (trackLamps m s).lane = s.lane ∧ (trackLamps m s).roomClass = s.roomClass ∧ (trackLamps m s).cfg = s.cfg
    ∧ (trackLamps m s).clock = s.clock ∧ (trackLamps m s).seq = s.seq ∧ (trackLamps m s).fan = s.fan
    ∧ (trackLamps m s).climate = s.climate ∧ (trackLamps m s).frost = s.frost ∧ (trackLamps m s).humid = s.humid
    ∧ (trackLamps m s).demand = s.demand ∧ (trackLamps m s).filter = s.filter ∧ (trackLamps m s).peers = s.peers
    ∧ (trackLamps m s).house = s.house ∧ (trackLamps m s).line = s.line ∧ (trackLamps m s).loader = s.loader
    ∧ (trackLamps m s).pending = s.pending ∧ (trackLamps m s).ctl.steady = s.ctl.steady
    ∧ (trackLamps m s).ctl.levels = s.ctl.levels ∧ (trackLamps m s).ctl.stall = s.ctl.stall := by
  unfold trackLamps
  (repeat' split) <;> simp

@[simp] theorem restartRamp_keeps (s : State) :
    (restartRamp s).now = s.now ∧ (restartRamp s).inReset = s.inReset ∧ (restartRamp s).strapsRead = s.strapsRead
    ∧ (restartRamp s).stationIndex = s.stationIndex ∧ (restartRamp s).lane = s.lane
    ∧ (restartRamp s).roomClass = s.roomClass ∧ (restartRamp s).cfg = s.cfg ∧ (restartRamp s).clock = s.clock
    ∧ (restartRamp s).seq = s.seq ∧ (restartRamp s).climate = s.climate ∧ (restartRamp s).frost = s.frost
    ∧ (restartRamp s).humid = s.humid ∧ (restartRamp s).demand = s.demand ∧ (restartRamp s).filter = s.filter
    ∧ (restartRamp s).peers = s.peers ∧ (restartRamp s).house = s.house ∧ (restartRamp s).line = s.line
    ∧ (restartRamp s).ctl = s.ctl ∧ (restartRamp s).loader = s.loader ∧ (restartRamp s).pending = s.pending
    ∧ (restartRamp s).fan.direction = s.fan.direction ∧ (restartRamp s).fan.speed = s.fan.speed
    ∧ (restartRamp s).fan.periods = s.fan.periods ∧ (restartRamp s).fan.driveOutput = s.fan.driveOutput
    ∧ (restartRamp s).fan.holdEnd = s.fan.holdEnd ∧ (restartRamp s).fan.captureCounter = s.fan.captureCounter :=
  ⟨rfl, rfl, rfl, rfl, rfl, rfl, rfl, rfl, rfl, rfl, rfl, rfl, rfl, rfl, rfl, rfl, rfl, rfl, rfl, rfl,
    rfl, rfl, rfl, rfl, rfl, rfl⟩

@[simp] theorem trackRamp_keeps (m : State) (s : State) :
    (trackRamp m s).now = s.now ∧ (trackRamp m s).inReset = s.inReset ∧ (trackRamp m s).strapsRead = s.strapsRead
    ∧ (trackRamp m s).stationIndex = s.stationIndex ∧ (trackRamp m s).lane = s.lane
    ∧ (trackRamp m s).roomClass = s.roomClass ∧ (trackRamp m s).cfg = s.cfg ∧ (trackRamp m s).clock = s.clock
    ∧ (trackRamp m s).seq = s.seq ∧ (trackRamp m s).climate = s.climate ∧ (trackRamp m s).frost = s.frost
    ∧ (trackRamp m s).humid = s.humid ∧ (trackRamp m s).demand = s.demand ∧ (trackRamp m s).filter = s.filter
    ∧ (trackRamp m s).peers = s.peers ∧ (trackRamp m s).house = s.house ∧ (trackRamp m s).line = s.line
    ∧ (trackRamp m s).ctl = s.ctl ∧ (trackRamp m s).loader = s.loader ∧ (trackRamp m s).pending = s.pending
    ∧ (trackRamp m s).fan.direction = s.fan.direction ∧ (trackRamp m s).fan.speed = s.fan.speed
    ∧ (trackRamp m s).fan.periods = s.fan.periods ∧ (trackRamp m s).fan.driveOutput = s.fan.driveOutput
    ∧ (trackRamp m s).fan.holdEnd = s.fan.holdEnd ∧ (trackRamp m s).fan.captureCounter = s.fan.captureCounter := by
  unfold trackRamp
  (repeat' split) <;> simp

@[simp] theorem showChange_keeps (m : State) (s : State) :
    (showChange m s).now = s.now ∧ (showChange m s).inReset = s.inReset
    ∧ (showChange m s).strapsRead = s.strapsRead ∧ (showChange m s).stationIndex = s.stationIndex
    ∧ (showChange m s).lane = s.lane ∧ (showChange m s).roomClass = s.roomClass ∧ (showChange m s).cfg = s.cfg
    ∧ (showChange m s).clock = s.clock ∧ (showChange m s).seq = s.seq ∧ (showChange m s).fan = s.fan
    ∧ (showChange m s).climate = s.climate ∧ (showChange m s).frost = s.frost ∧ (showChange m s).humid = s.humid
    ∧ (showChange m s).demand = s.demand ∧ (showChange m s).filter = s.filter ∧ (showChange m s).peers = s.peers
    ∧ (showChange m s).house = s.house ∧ (showChange m s).loader = s.loader ∧ (showChange m s).pending = s.pending
    ∧ (showChange m s).line.active = s.line.active ∧ (showChange m s).line.transmission = s.line.transmission
    ∧ (showChange m s).line.assembly = s.line.assembly ∧ (showChange m s).line.idleTime = s.line.idleTime
    ∧ (showChange m s).line.busyUntil = s.line.busyUntil ∧ (showChange m s).line.modeSlot = s.line.modeSlot
    ∧ (showChange m s).line.boostSlot = s.line.boostSlot ∧ (showChange m s).line.steady = s.line.steady
    ∧ (showChange m s).ctl.steady = s.ctl.steady ∧ (showChange m s).ctl.levels = s.ctl.levels
    ∧ (showChange m s).ctl.stall = s.ctl.stall := by simp [showChange]

@[simp] theorem finish_keeps (m : State) (s : State) :
    (finish m s).now = s.now ∧ (finish m s).inReset = s.inReset ∧ (finish m s).strapsRead = s.strapsRead
    ∧ (finish m s).stationIndex = s.stationIndex ∧ (finish m s).lane = s.lane
    ∧ (finish m s).roomClass = s.roomClass ∧ (finish m s).cfg = s.cfg ∧ (finish m s).clock = s.clock
    ∧ (finish m s).seq = s.seq ∧ (finish m s).climate = s.climate ∧ (finish m s).frost = s.frost
    ∧ (finish m s).humid = s.humid ∧ (finish m s).filter = s.filter ∧ (finish m s).peers = s.peers
    ∧ (finish m s).house = s.house ∧ (finish m s).loader = s.loader ∧ (finish m s).pending = s.pending
    ∧ (finish m s).fan.direction = s.fan.direction ∧ (finish m s).fan.speed = s.fan.speed
    ∧ (finish m s).fan.periods = s.fan.periods ∧ (finish m s).fan.driveOutput = s.fan.driveOutput
    ∧ (finish m s).fan.holdEnd = s.fan.holdEnd ∧ (finish m s).fan.captureCounter = s.fan.captureCounter
    ∧ (finish m s).demand.stack = s.demand.stack ∧ (finish m s).line.active = s.line.active
    ∧ (finish m s).line.transmission = s.line.transmission ∧ (finish m s).line.assembly = s.line.assembly
    ∧ (finish m s).line.idleTime = s.line.idleTime ∧ (finish m s).line.busyUntil = s.line.busyUntil
    ∧ (finish m s).line.modeSlot = s.line.modeSlot ∧ (finish m s).line.boostSlot = s.line.boostSlot
    ∧ (finish m s).line.steady = s.line.steady ∧ (finish m s).ctl.steady = s.ctl.steady
    ∧ (finish m s).ctl.levels = s.ctl.levels ∧ (finish m s).ctl.stall = s.ctl.stall := by
  simp [finish]

@[simp] theorem filterOnSequencer_keeps (s : State) :
    (filterOnSequencer s).now = s.now ∧ (filterOnSequencer s).inReset = s.inReset
    ∧ (filterOnSequencer s).strapsRead = s.strapsRead ∧ (filterOnSequencer s).stationIndex = s.stationIndex
    ∧ (filterOnSequencer s).lane = s.lane ∧ (filterOnSequencer s).roomClass = s.roomClass
    ∧ (filterOnSequencer s).cfg = s.cfg ∧ (filterOnSequencer s).clock = s.clock
    ∧ (filterOnSequencer s).seq = s.seq ∧ (filterOnSequencer s).climate = s.climate
    ∧ (filterOnSequencer s).frost = s.frost ∧ (filterOnSequencer s).humid = s.humid
    ∧ (filterOnSequencer s).demand = s.demand ∧ (filterOnSequencer s).peers = s.peers
    ∧ (filterOnSequencer s).house = s.house ∧ (filterOnSequencer s).line = s.line
    ∧ (filterOnSequencer s).ctl = s.ctl ∧ (filterOnSequencer s).loader = s.loader
    ∧ (filterOnSequencer s).pending = s.pending ∧ (filterOnSequencer s).fan.direction = s.fan.direction
    ∧ (filterOnSequencer s).fan.speed = s.fan.speed ∧ (filterOnSequencer s).fan.periods = s.fan.periods
    ∧ (filterOnSequencer s).fan.driveOutput = s.fan.driveOutput
    ∧ (filterOnSequencer s).fan.holdEnd = s.fan.holdEnd
    ∧ (filterOnSequencer s).fan.captureCounter = s.fan.captureCounter
    ∧ (filterOnSequencer s).filter.state = s.filter.state
    ∧ (filterOnSequencer s).filter.baseline = s.filter.baseline
    ∧ (filterOnSequencer s).filter.runHours = s.filter.runHours := by
  unfold filterOnSequencer
  (repeat' split) <;> simp

@[simp] theorem placeHold_keeps (s : State) :
    (placeHold s).now = s.now ∧ (placeHold s).inReset = s.inReset ∧ (placeHold s).strapsRead = s.strapsRead
    ∧ (placeHold s).stationIndex = s.stationIndex ∧ (placeHold s).lane = s.lane
    ∧ (placeHold s).roomClass = s.roomClass ∧ (placeHold s).cfg = s.cfg ∧ (placeHold s).clock = s.clock
    ∧ (placeHold s).seq = s.seq ∧ (placeHold s).climate = s.climate ∧ (placeHold s).frost = s.frost
    ∧ (placeHold s).humid = s.humid ∧ (placeHold s).demand = s.demand ∧ (placeHold s).peers = s.peers
    ∧ (placeHold s).house = s.house ∧ (placeHold s).line = s.line ∧ (placeHold s).ctl = s.ctl
    ∧ (placeHold s).loader = s.loader ∧ (placeHold s).pending = s.pending
    ∧ (placeHold s).fan.direction = s.fan.direction ∧ (placeHold s).fan.speed = s.fan.speed
    ∧ (placeHold s).fan.periods = s.fan.periods ∧ (placeHold s).fan.driveOutput = s.fan.driveOutput
    ∧ (placeHold s).fan.holdEnd = s.fan.holdEnd ∧ (placeHold s).fan.captureCounter = s.fan.captureCounter
    ∧ (placeHold s).filter.state = s.filter.state ∧ (placeHold s).filter.baseline = s.filter.baseline
    ∧ (placeHold s).filter.runHours = s.filter.runHours :=
  ⟨rfl, rfl, rfl, rfl, rfl, rfl, rfl, rfl, rfl, rfl, rfl, rfl, rfl, rfl, rfl, rfl, rfl, rfl, rfl, rfl,
    rfl, rfl, rfl, rfl, rfl, rfl, rfl, rfl⟩

@[simp] theorem filterOnCompletion_keeps (g : Target) (s : State) :
    (filterOnCompletion g s).now = s.now ∧ (filterOnCompletion g s).inReset = s.inReset
    ∧ (filterOnCompletion g s).strapsRead = s.strapsRead ∧ (filterOnCompletion g s).stationIndex = s.stationIndex
    ∧ (filterOnCompletion g s).lane = s.lane ∧ (filterOnCompletion g s).roomClass = s.roomClass
    ∧ (filterOnCompletion g s).cfg = s.cfg ∧ (filterOnCompletion g s).clock = s.clock
    ∧ (filterOnCompletion g s).seq = s.seq ∧ (filterOnCompletion g s).climate = s.climate
    ∧ (filterOnCompletion g s).frost = s.frost ∧ (filterOnCompletion g s).humid = s.humid
    ∧ (filterOnCompletion g s).demand = s.demand ∧ (filterOnCompletion g s).peers = s.peers
    ∧ (filterOnCompletion g s).house = s.house ∧ (filterOnCompletion g s).line = s.line
    ∧ (filterOnCompletion g s).ctl = s.ctl ∧ (filterOnCompletion g s).loader = s.loader
    ∧ (filterOnCompletion g s).pending = s.pending ∧ (filterOnCompletion g s).fan.direction = s.fan.direction
    ∧ (filterOnCompletion g s).fan.speed = s.fan.speed ∧ (filterOnCompletion g s).fan.periods = s.fan.periods
    ∧ (filterOnCompletion g s).fan.driveOutput = s.fan.driveOutput
    ∧ (filterOnCompletion g s).fan.holdEnd = s.fan.holdEnd
    ∧ (filterOnCompletion g s).fan.captureCounter = s.fan.captureCounter
    ∧ (filterOnCompletion g s).filter.state = s.filter.state
    ∧ (filterOnCompletion g s).filter.baseline = s.filter.baseline
    ∧ (filterOnCompletion g s).filter.runHours = s.filter.runHours := by
  unfold filterOnCompletion
  (repeat' split) <;> simp

@[simp] theorem startProbe_keeps (d : Dir) (s : State) :
    (startProbe d s).now = s.now ∧ (startProbe d s).inReset = s.inReset
    ∧ (startProbe d s).strapsRead = s.strapsRead ∧ (startProbe d s).stationIndex = s.stationIndex
    ∧ (startProbe d s).lane = s.lane ∧ (startProbe d s).roomClass = s.roomClass ∧ (startProbe d s).cfg = s.cfg
    ∧ (startProbe d s).clock = s.clock ∧ (startProbe d s).seq = s.seq ∧ (startProbe d s).fan = s.fan
    ∧ (startProbe d s).climate = s.climate ∧ (startProbe d s).frost = s.frost ∧ (startProbe d s).humid = s.humid
    ∧ (startProbe d s).demand = s.demand ∧ (startProbe d s).peers = s.peers ∧ (startProbe d s).house = s.house
    ∧ (startProbe d s).line = s.line ∧ (startProbe d s).ctl = s.ctl ∧ (startProbe d s).loader = s.loader
    ∧ (startProbe d s).pending = s.pending ∧ (startProbe d s).filter.state = s.filter.state
    ∧ (startProbe d s).filter.baseline = s.filter.baseline ∧ (startProbe d s).filter.runHours = s.filter.runHours :=
  ⟨rfl, rfl, rfl, rfl, rfl, rfl, rfl, rfl, rfl, rfl, rfl, rfl, rfl, rfl, rfl, rfl, rfl, rfl, rfl, rfl,
    rfl, rfl, rfl⟩

@[simp] theorem startTestAtBoundary_keeps (before : SeqState) (s : State) :
    (startTestAtBoundary before s).now = s.now ∧ (startTestAtBoundary before s).inReset = s.inReset
    ∧ (startTestAtBoundary before s).strapsRead = s.strapsRead
    ∧ (startTestAtBoundary before s).stationIndex = s.stationIndex ∧ (startTestAtBoundary before s).lane = s.lane
    ∧ (startTestAtBoundary before s).roomClass = s.roomClass ∧ (startTestAtBoundary before s).cfg = s.cfg
    ∧ (startTestAtBoundary before s).clock = s.clock ∧ (startTestAtBoundary before s).seq = s.seq
    ∧ (startTestAtBoundary before s).fan = s.fan ∧ (startTestAtBoundary before s).climate = s.climate
    ∧ (startTestAtBoundary before s).frost = s.frost ∧ (startTestAtBoundary before s).humid = s.humid
    ∧ (startTestAtBoundary before s).demand = s.demand ∧ (startTestAtBoundary before s).peers = s.peers
    ∧ (startTestAtBoundary before s).house = s.house ∧ (startTestAtBoundary before s).line = s.line
    ∧ (startTestAtBoundary before s).ctl = s.ctl ∧ (startTestAtBoundary before s).loader = s.loader
    ∧ (startTestAtBoundary before s).pending = s.pending
    ∧ (startTestAtBoundary before s).filter.state = s.filter.state
    ∧ (startTestAtBoundary before s).filter.baseline = s.filter.baseline
    ∧ (startTestAtBoundary before s).filter.runHours = s.filter.runHours := by
  unfold startTestAtBoundary
  (repeat' split) <;> simp

@[simp] theorem raiseFilter_keeps (f : FilterState) (s : State) :
    (raiseFilter f s).now = s.now ∧ (raiseFilter f s).inReset = s.inReset
    ∧ (raiseFilter f s).strapsRead = s.strapsRead ∧ (raiseFilter f s).stationIndex = s.stationIndex
    ∧ (raiseFilter f s).lane = s.lane ∧ (raiseFilter f s).roomClass = s.roomClass ∧ (raiseFilter f s).cfg = s.cfg
    ∧ (raiseFilter f s).clock = s.clock ∧ (raiseFilter f s).seq = s.seq ∧ (raiseFilter f s).fan = s.fan
    ∧ (raiseFilter f s).climate = s.climate ∧ (raiseFilter f s).frost = s.frost
    ∧ (raiseFilter f s).humid = s.humid ∧ (raiseFilter f s).demand = s.demand ∧ (raiseFilter f s).peers = s.peers
    ∧ (raiseFilter f s).house = s.house ∧ (raiseFilter f s).line = s.line ∧ (raiseFilter f s).ctl = s.ctl
    ∧ (raiseFilter f s).pending = s.pending ∧ (raiseFilter f s).filter.baseline = s.filter.baseline
    ∧ (raiseFilter f s).filter.runHours = s.filter.runHours := by
  unfold raiseFilter
  (repeat' split) <;> simp

@[simp] theorem filterByLoad_keeps (s : State) :
    (filterByLoad s).now = s.now ∧ (filterByLoad s).inReset = s.inReset
    ∧ (filterByLoad s).strapsRead = s.strapsRead ∧ (filterByLoad s).stationIndex = s.stationIndex
    ∧ (filterByLoad s).lane = s.lane ∧ (filterByLoad s).roomClass = s.roomClass ∧ (filterByLoad s).cfg = s.cfg
    ∧ (filterByLoad s).clock = s.clock ∧ (filterByLoad s).seq = s.seq ∧ (filterByLoad s).fan = s.fan
    ∧ (filterByLoad s).climate = s.climate ∧ (filterByLoad s).frost = s.frost ∧ (filterByLoad s).humid = s.humid
    ∧ (filterByLoad s).demand = s.demand ∧ (filterByLoad s).peers = s.peers ∧ (filterByLoad s).house = s.house
    ∧ (filterByLoad s).line = s.line ∧ (filterByLoad s).ctl = s.ctl ∧ (filterByLoad s).pending = s.pending
    ∧ (filterByLoad s).filter.baseline = s.filter.baseline ∧ (filterByLoad s).filter.runHours = s.filter.runHours := by
  unfold filterByLoad
  (repeat' split) <;> simp

@[simp] theorem acceptFirst_keeps (r : HalfRecord) (d : Dir) (s : State) :
    (acceptFirst r d s).now = s.now ∧ (acceptFirst r d s).inReset = s.inReset
    ∧ (acceptFirst r d s).strapsRead = s.strapsRead ∧ (acceptFirst r d s).stationIndex = s.stationIndex
    ∧ (acceptFirst r d s).lane = s.lane ∧ (acceptFirst r d s).roomClass = s.roomClass
    ∧ (acceptFirst r d s).cfg = s.cfg ∧ (acceptFirst r d s).clock = s.clock ∧ (acceptFirst r d s).seq = s.seq
    ∧ (acceptFirst r d s).fan = s.fan ∧ (acceptFirst r d s).climate = s.climate
    ∧ (acceptFirst r d s).frost = s.frost ∧ (acceptFirst r d s).humid = s.humid
    ∧ (acceptFirst r d s).demand = s.demand ∧ (acceptFirst r d s).peers = s.peers
    ∧ (acceptFirst r d s).house = s.house ∧ (acceptFirst r d s).line = s.line ∧ (acceptFirst r d s).ctl = s.ctl
    ∧ (acceptFirst r d s).loader = s.loader ∧ (acceptFirst r d s).pending = s.pending
    ∧ (acceptFirst r d s).filter.state = s.filter.state ∧ (acceptFirst r d s).filter.baseline = s.filter.baseline
    ∧ (acceptFirst r d s).filter.runHours = s.filter.runHours :=
  ⟨rfl, rfl, rfl, rfl, rfl, rfl, rfl, rfl, rfl, rfl, rfl, rfl, rfl, rfl, rfl, rfl, rfl, rfl, rfl, rfl,
    rfl, rfl, rfl⟩

@[simp] theorem probeResult_keeps (sp : Nat) (s : State) :
    (probeResult sp s).now = s.now ∧ (probeResult sp s).inReset = s.inReset
    ∧ (probeResult sp s).strapsRead = s.strapsRead ∧ (probeResult sp s).stationIndex = s.stationIndex
    ∧ (probeResult sp s).lane = s.lane ∧ (probeResult sp s).roomClass = s.roomClass
    ∧ (probeResult sp s).cfg = s.cfg ∧ (probeResult sp s).clock = s.clock ∧ (probeResult sp s).seq = s.seq
    ∧ (probeResult sp s).fan = s.fan ∧ (probeResult sp s).climate = s.climate ∧ (probeResult sp s).frost = s.frost
    ∧ (probeResult sp s).humid = s.humid ∧ (probeResult sp s).demand = s.demand
    ∧ (probeResult sp s).peers = s.peers ∧ (probeResult sp s).house = s.house ∧ (probeResult sp s).line = s.line
    ∧ (probeResult sp s).ctl = s.ctl ∧ (probeResult sp s).pending = s.pending := by
  unfold probeResult
  (repeat' split) <;> simp

@[simp] theorem judgeHalf_keeps (r : HalfRecord) (s : State) :
    (judgeHalf r s).now = s.now ∧ (judgeHalf r s).inReset = s.inReset ∧ (judgeHalf r s).strapsRead = s.strapsRead
    ∧ (judgeHalf r s).stationIndex = s.stationIndex ∧ (judgeHalf r s).lane = s.lane
    ∧ (judgeHalf r s).roomClass = s.roomClass ∧ (judgeHalf r s).cfg = s.cfg ∧ (judgeHalf r s).clock = s.clock
    ∧ (judgeHalf r s).seq = s.seq ∧ (judgeHalf r s).climate = s.climate ∧ (judgeHalf r s).frost = s.frost
    ∧ (judgeHalf r s).humid = s.humid ∧ (judgeHalf r s).demand = s.demand ∧ (judgeHalf r s).peers = s.peers
    ∧ (judgeHalf r s).house = s.house ∧ (judgeHalf r s).line = s.line ∧ (judgeHalf r s).ctl = s.ctl
    ∧ (judgeHalf r s).pending = s.pending ∧ (judgeHalf r s).fan.direction = s.fan.direction
    ∧ (judgeHalf r s).fan.speed = s.fan.speed ∧ (judgeHalf r s).fan.periods = s.fan.periods
    ∧ (judgeHalf r s).fan.driveOutput = s.fan.driveOutput ∧ (judgeHalf r s).fan.holdEnd = s.fan.holdEnd
    ∧ (judgeHalf r s).fan.captureCounter = s.fan.captureCounter := by
  unfold judgeHalf
  (repeat' split) <;> simp

@[simp] theorem filterTakesRecord_keeps (r : HalfRecord) (s : State) :
    (filterTakesRecord r s).now = s.now ∧ (filterTakesRecord r s).inReset = s.inReset
    ∧ (filterTakesRecord r s).strapsRead = s.strapsRead ∧ (filterTakesRecord r s).stationIndex = s.stationIndex
    ∧ (filterTakesRecord r s).lane = s.lane ∧ (filterTakesRecord r s).roomClass = s.roomClass
    ∧ (filterTakesRecord r s).cfg = s.cfg ∧ (filterTakesRecord r s).clock = s.clock
    ∧ (filterTakesRecord r s).seq = s.seq ∧ (filterTakesRecord r s).climate = s.climate
    ∧ (filterTakesRecord r s).frost = s.frost ∧ (filterTakesRecord r s).humid = s.humid
    ∧ (filterTakesRecord r s).demand = s.demand ∧ (filterTakesRecord r s).peers = s.peers
    ∧ (filterTakesRecord r s).house = s.house ∧ (filterTakesRecord r s).line = s.line
    ∧ (filterTakesRecord r s).ctl = s.ctl ∧ (filterTakesRecord r s).pending = s.pending
    ∧ (filterTakesRecord r s).fan.direction = s.fan.direction ∧ (filterTakesRecord r s).fan.speed = s.fan.speed
    ∧ (filterTakesRecord r s).fan.periods = s.fan.periods
    ∧ (filterTakesRecord r s).fan.driveOutput = s.fan.driveOutput
    ∧ (filterTakesRecord r s).fan.holdEnd = s.fan.holdEnd
    ∧ (filterTakesRecord r s).fan.captureCounter = s.fan.captureCounter := by
  unfold filterTakesRecord
  (repeat' split) <;> simp

@[simp] theorem takeSpeedReading_keeps (s : State) :
    (takeSpeedReading s).now = s.now ∧ (takeSpeedReading s).inReset = s.inReset
    ∧ (takeSpeedReading s).strapsRead = s.strapsRead ∧ (takeSpeedReading s).stationIndex = s.stationIndex
    ∧ (takeSpeedReading s).lane = s.lane ∧ (takeSpeedReading s).roomClass = s.roomClass
    ∧ (takeSpeedReading s).cfg = s.cfg ∧ (takeSpeedReading s).clock = s.clock ∧ (takeSpeedReading s).seq = s.seq
    ∧ (takeSpeedReading s).fan = s.fan ∧ (takeSpeedReading s).climate = s.climate
    ∧ (takeSpeedReading s).frost = s.frost ∧ (takeSpeedReading s).humid = s.humid
    ∧ (takeSpeedReading s).demand = s.demand ∧ (takeSpeedReading s).peers = s.peers
    ∧ (takeSpeedReading s).house = s.house ∧ (takeSpeedReading s).line = s.line ∧ (takeSpeedReading s).ctl = s.ctl
    ∧ (takeSpeedReading s).loader = s.loader ∧ (takeSpeedReading s).pending = s.pending
    ∧ (takeSpeedReading s).filter.state = s.filter.state
    ∧ (takeSpeedReading s).filter.baseline = s.filter.baseline
    ∧ (takeSpeedReading s).filter.runHours = s.filter.runHours := by
  unfold takeSpeedReading
  (repeat' split) <;> simp

@[simp] theorem runHour_keeps (s : State) :
    (runHour s).now = s.now ∧ (runHour s).inReset = s.inReset ∧ (runHour s).strapsRead = s.strapsRead
    ∧ (runHour s).stationIndex = s.stationIndex ∧ (runHour s).lane = s.lane ∧ (runHour s).roomClass = s.roomClass
    ∧ (runHour s).cfg = s.cfg ∧ (runHour s).clock = s.clock ∧ (runHour s).seq = s.seq ∧ (runHour s).fan = s.fan
    ∧ (runHour s).climate = s.climate ∧ (runHour s).frost = s.frost ∧ (runHour s).humid = s.humid
    ∧ (runHour s).demand = s.demand ∧ (runHour s).peers = s.peers ∧ (runHour s).house = s.house
    ∧ (runHour s).line = s.line ∧ (runHour s).ctl = s.ctl ∧ (runHour s).pending = s.pending := by
  simp only [runHour]
  (repeat' split) <;> simp

@[simp] theorem countRunSecond_keeps (s : State) :
    (countRunSecond s).now = s.now ∧ (countRunSecond s).inReset = s.inReset
    ∧ (countRunSecond s).strapsRead = s.strapsRead ∧ (countRunSecond s).stationIndex = s.stationIndex
    ∧ (countRunSecond s).lane = s.lane ∧ (countRunSecond s).roomClass = s.roomClass
    ∧ (countRunSecond s).cfg = s.cfg ∧ (countRunSecond s).clock = s.clock ∧ (countRunSecond s).seq = s.seq
    ∧ (countRunSecond s).fan = s.fan ∧ (countRunSecond s).climate = s.climate ∧ (countRunSecond s).frost = s.frost
    ∧ (countRunSecond s).humid = s.humid ∧ (countRunSecond s).demand = s.demand
    ∧ (countRunSecond s).peers = s.peers ∧ (countRunSecond s).house = s.house ∧ (countRunSecond s).line = s.line
    ∧ (countRunSecond s).ctl = s.ctl ∧ (countRunSecond s).pending = s.pending := by
  unfold countRunSecond
  (repeat' split) <;> simp

@[simp] theorem resetFilter_keeps (s : State) :
    (resetFilter s).now = s.now ∧ (resetFilter s).inReset = s.inReset ∧ (resetFilter s).strapsRead = s.strapsRead
    ∧ (resetFilter s).stationIndex = s.stationIndex ∧ (resetFilter s).lane = s.lane
    ∧ (resetFilter s).roomClass = s.roomClass ∧ (resetFilter s).cfg = s.cfg ∧ (resetFilter s).clock = s.clock
    ∧ (resetFilter s).seq = s.seq ∧ (resetFilter s).climate = s.climate ∧ (resetFilter s).frost = s.frost
    ∧ (resetFilter s).humid = s.humid ∧ (resetFilter s).demand = s.demand ∧ (resetFilter s).peers = s.peers
    ∧ (resetFilter s).house = s.house ∧ (resetFilter s).line = s.line ∧ (resetFilter s).ctl = s.ctl
    ∧ (resetFilter s).pending = s.pending ∧ (resetFilter s).fan.direction = s.fan.direction
    ∧ (resetFilter s).fan.speed = s.fan.speed ∧ (resetFilter s).fan.periods = s.fan.periods
    ∧ (resetFilter s).fan.driveOutput = s.fan.driveOutput ∧ (resetFilter s).fan.holdEnd = s.fan.holdEnd
    ∧ (resetFilter s).fan.captureCounter = s.fan.captureCounter
    ∧ (resetFilter s).filter.runHours = s.filter.runHours := by simp [resetFilter]

@[simp] theorem takeFilterValues_keeps (v : FilterValues) (s : State) :
    (takeFilterValues v s).now = s.now ∧ (takeFilterValues v s).inReset = s.inReset
    ∧ (takeFilterValues v s).strapsRead = s.strapsRead ∧ (takeFilterValues v s).stationIndex = s.stationIndex
    ∧ (takeFilterValues v s).lane = s.lane ∧ (takeFilterValues v s).roomClass = s.roomClass
    ∧ (takeFilterValues v s).cfg = s.cfg ∧ (takeFilterValues v s).clock = s.clock
    ∧ (takeFilterValues v s).seq = s.seq ∧ (takeFilterValues v s).fan = s.fan
    ∧ (takeFilterValues v s).climate = s.climate ∧ (takeFilterValues v s).frost = s.frost
    ∧ (takeFilterValues v s).humid = s.humid ∧ (takeFilterValues v s).demand = s.demand
    ∧ (takeFilterValues v s).peers = s.peers ∧ (takeFilterValues v s).house = s.house
    ∧ (takeFilterValues v s).line = s.line ∧ (takeFilterValues v s).ctl = s.ctl
    ∧ (takeFilterValues v s).loader = s.loader ∧ (takeFilterValues v s).pending = s.pending :=
  ⟨rfl, rfl, rfl, rfl, rfl, rfl, rfl, rfl, rfl, rfl, rfl, rfl, rfl, rfl, rfl, rfl, rfl, rfl, rfl, rfl⟩

@[simp] theorem startBoost_keeps (s : State) :
    (startBoost s).now = s.now ∧ (startBoost s).inReset = s.inReset ∧ (startBoost s).strapsRead = s.strapsRead
    ∧ (startBoost s).stationIndex = s.stationIndex ∧ (startBoost s).lane = s.lane
    ∧ (startBoost s).roomClass = s.roomClass ∧ (startBoost s).cfg = s.cfg ∧ (startBoost s).clock = s.clock
    ∧ (startBoost s).seq = s.seq ∧ (startBoost s).climate = s.climate ∧ (startBoost s).frost = s.frost
    ∧ (startBoost s).peers = s.peers ∧ (startBoost s).house = s.house ∧ (startBoost s).line = s.line
    ∧ (startBoost s).ctl = s.ctl ∧ (startBoost s).loader = s.loader ∧ (startBoost s).pending = s.pending
    ∧ (startBoost s).fan.direction = s.fan.direction ∧ (startBoost s).fan.speed = s.fan.speed
    ∧ (startBoost s).fan.periods = s.fan.periods ∧ (startBoost s).fan.driveOutput = s.fan.driveOutput
    ∧ (startBoost s).fan.holdEnd = s.fan.holdEnd ∧ (startBoost s).fan.captureCounter = s.fan.captureCounter
    ∧ (startBoost s).demand.supply = s.demand.supply ∧ (startBoost s).filter.state = s.filter.state
    ∧ (startBoost s).filter.baseline = s.filter.baseline ∧ (startBoost s).filter.runHours = s.filter.runHours := by
  simp [startBoost]

@[simp] theorem endBoost_keeps (next : HumidState) (s : State) :
    (endBoost next s).now = s.now ∧ (endBoost next s).inReset = s.inReset
    ∧ (endBoost next s).strapsRead = s.strapsRead ∧ (endBoost next s).stationIndex = s.stationIndex
    ∧ (endBoost next s).lane = s.lane ∧ (endBoost next s).roomClass = s.roomClass ∧ (endBoost next s).cfg = s.cfg
    ∧ (endBoost next s).clock = s.clock ∧ (endBoost next s).seq = s.seq ∧ (endBoost next s).fan = s.fan
    ∧ (endBoost next s).climate = s.climate ∧ (endBoost next s).frost = s.frost
    ∧ (endBoost next s).filter = s.filter ∧ (endBoost next s).peers = s.peers ∧ (endBoost next s).house = s.house
    ∧ (endBoost next s).line = s.line ∧ (endBoost next s).ctl = s.ctl ∧ (endBoost next s).loader = s.loader
    ∧ (endBoost next s).pending = s.pending ∧ (endBoost next s).demand.supply = s.demand.supply :=
  ⟨rfl, rfl, rfl, rfl, rfl, rfl, rfl, rfl, rfl, rfl, rfl, rfl, rfl, rfl, rfl, rfl, rfl, rfl, rfl, rfl⟩

@[simp] theorem leaveBoost_keeps (next : HumidState) (s : State) :
    (leaveBoost next s).now = s.now ∧ (leaveBoost next s).inReset = s.inReset
    ∧ (leaveBoost next s).strapsRead = s.strapsRead ∧ (leaveBoost next s).stationIndex = s.stationIndex
    ∧ (leaveBoost next s).lane = s.lane ∧ (leaveBoost next s).roomClass = s.roomClass
    ∧ (leaveBoost next s).cfg = s.cfg ∧ (leaveBoost next s).clock = s.clock ∧ (leaveBoost next s).seq = s.seq
    ∧ (leaveBoost next s).fan = s.fan ∧ (leaveBoost next s).climate = s.climate
    ∧ (leaveBoost next s).frost = s.frost ∧ (leaveBoost next s).filter = s.filter
    ∧ (leaveBoost next s).peers = s.peers ∧ (leaveBoost next s).house = s.house
    ∧ (leaveBoost next s).line = s.line ∧ (leaveBoost next s).ctl = s.ctl ∧ (leaveBoost next s).loader = s.loader
    ∧ (leaveBoost next s).pending = s.pending ∧ (leaveBoost next s).demand.supply = s.demand.supply := by
  unfold leaveBoost
  (repeat' split) <;> simp

@[simp] theorem reseed_keeps (s : State) :
    (reseed s).now = s.now ∧ (reseed s).inReset = s.inReset ∧ (reseed s).strapsRead = s.strapsRead
    ∧ (reseed s).stationIndex = s.stationIndex ∧ (reseed s).lane = s.lane ∧ (reseed s).roomClass = s.roomClass
    ∧ (reseed s).cfg = s.cfg ∧ (reseed s).clock = s.clock ∧ (reseed s).seq = s.seq ∧ (reseed s).fan = s.fan
    ∧ (reseed s).climate = s.climate ∧ (reseed s).frost = s.frost ∧ (reseed s).filter = s.filter
    ∧ (reseed s).peers = s.peers ∧ (reseed s).house = s.house ∧ (reseed s).line = s.line ∧ (reseed s).ctl = s.ctl
    ∧ (reseed s).loader = s.loader ∧ (reseed s).pending = s.pending ∧ (reseed s).demand.supply = s.demand.supply := by
  simp [reseed]

@[simp] theorem humidOnRest_keeps (s : State) :
    (humidOnRest s).now = s.now ∧ (humidOnRest s).inReset = s.inReset ∧ (humidOnRest s).strapsRead = s.strapsRead
    ∧ (humidOnRest s).stationIndex = s.stationIndex ∧ (humidOnRest s).lane = s.lane
    ∧ (humidOnRest s).roomClass = s.roomClass ∧ (humidOnRest s).cfg = s.cfg ∧ (humidOnRest s).clock = s.clock
    ∧ (humidOnRest s).seq = s.seq ∧ (humidOnRest s).fan = s.fan ∧ (humidOnRest s).climate = s.climate
    ∧ (humidOnRest s).frost = s.frost ∧ (humidOnRest s).filter = s.filter ∧ (humidOnRest s).peers = s.peers
    ∧ (humidOnRest s).house = s.house ∧ (humidOnRest s).line = s.line ∧ (humidOnRest s).ctl = s.ctl
    ∧ (humidOnRest s).loader = s.loader ∧ (humidOnRest s).pending = s.pending
    ∧ (humidOnRest s).demand.supply = s.demand.supply := by
  unfold humidOnRest
  (repeat' split) <;> simp

@[simp] theorem humidOnStopped_keeps (s : State) :
    (humidOnStopped s).now = s.now ∧ (humidOnStopped s).inReset = s.inReset
    ∧ (humidOnStopped s).strapsRead = s.strapsRead ∧ (humidOnStopped s).stationIndex = s.stationIndex
    ∧ (humidOnStopped s).lane = s.lane ∧ (humidOnStopped s).roomClass = s.roomClass
    ∧ (humidOnStopped s).cfg = s.cfg ∧ (humidOnStopped s).clock = s.clock ∧ (humidOnStopped s).seq = s.seq
    ∧ (humidOnStopped s).fan = s.fan ∧ (humidOnStopped s).climate = s.climate ∧ (humidOnStopped s).frost = s.frost
    ∧ (humidOnStopped s).filter = s.filter ∧ (humidOnStopped s).peers = s.peers
    ∧ (humidOnStopped s).house = s.house ∧ (humidOnStopped s).line = s.line ∧ (humidOnStopped s).ctl = s.ctl
    ∧ (humidOnStopped s).loader = s.loader ∧ (humidOnStopped s).pending = s.pending
    ∧ (humidOnStopped s).demand.supply = s.demand.supply := by
  unfold humidOnStopped
  (repeat' split) <;> simp

@[simp] theorem humidOnSequencer_keeps (old : SeqState) (s : State) :
    (humidOnSequencer old s).now = s.now ∧ (humidOnSequencer old s).inReset = s.inReset
    ∧ (humidOnSequencer old s).strapsRead = s.strapsRead ∧ (humidOnSequencer old s).stationIndex = s.stationIndex
    ∧ (humidOnSequencer old s).lane = s.lane ∧ (humidOnSequencer old s).roomClass = s.roomClass
    ∧ (humidOnSequencer old s).cfg = s.cfg ∧ (humidOnSequencer old s).clock = s.clock
    ∧ (humidOnSequencer old s).seq = s.seq ∧ (humidOnSequencer old s).fan = s.fan
    ∧ (humidOnSequencer old s).climate = s.climate ∧ (humidOnSequencer old s).frost = s.frost
    ∧ (humidOnSequencer old s).filter = s.filter ∧ (humidOnSequencer old s).peers = s.peers
    ∧ (humidOnSequencer old s).house = s.house ∧ (humidOnSequencer old s).line = s.line
    ∧ (humidOnSequencer old s).ctl = s.ctl ∧ (humidOnSequencer old s).loader = s.loader
    ∧ (humidOnSequencer old s).pending = s.pending ∧ (humidOnSequencer old s).demand.supply = s.demand.supply := by
  unfold humidOnSequencer
  (repeat' split) <;> simp

@[simp] theorem humidOnListenEnd_keeps (s : State) :
    (humidOnListenEnd s).now = s.now ∧ (humidOnListenEnd s).inReset = s.inReset
    ∧ (humidOnListenEnd s).strapsRead = s.strapsRead ∧ (humidOnListenEnd s).stationIndex = s.stationIndex
    ∧ (humidOnListenEnd s).lane = s.lane ∧ (humidOnListenEnd s).roomClass = s.roomClass
    ∧ (humidOnListenEnd s).cfg = s.cfg ∧ (humidOnListenEnd s).clock = s.clock ∧ (humidOnListenEnd s).seq = s.seq
    ∧ (humidOnListenEnd s).fan = s.fan ∧ (humidOnListenEnd s).climate = s.climate
    ∧ (humidOnListenEnd s).frost = s.frost ∧ (humidOnListenEnd s).filter = s.filter
    ∧ (humidOnListenEnd s).peers = s.peers ∧ (humidOnListenEnd s).house = s.house
    ∧ (humidOnListenEnd s).line = s.line ∧ (humidOnListenEnd s).ctl = s.ctl
    ∧ (humidOnListenEnd s).loader = s.loader ∧ (humidOnListenEnd s).pending = s.pending
    ∧ (humidOnListenEnd s).demand.supply = s.demand.supply := by
  unfold humidOnListenEnd
  (repeat' split) <;> simp

@[simp] theorem humidOnDeepExit_keeps (s : State) :
    (humidOnDeepExit s).now = s.now ∧ (humidOnDeepExit s).inReset = s.inReset
    ∧ (humidOnDeepExit s).strapsRead = s.strapsRead ∧ (humidOnDeepExit s).stationIndex = s.stationIndex
    ∧ (humidOnDeepExit s).lane = s.lane ∧ (humidOnDeepExit s).roomClass = s.roomClass
    ∧ (humidOnDeepExit s).cfg = s.cfg ∧ (humidOnDeepExit s).clock = s.clock ∧ (humidOnDeepExit s).seq = s.seq
    ∧ (humidOnDeepExit s).fan = s.fan ∧ (humidOnDeepExit s).climate = s.climate
    ∧ (humidOnDeepExit s).frost = s.frost ∧ (humidOnDeepExit s).demand = s.demand
    ∧ (humidOnDeepExit s).filter = s.filter ∧ (humidOnDeepExit s).peers = s.peers
    ∧ (humidOnDeepExit s).house = s.house ∧ (humidOnDeepExit s).line = s.line ∧ (humidOnDeepExit s).ctl = s.ctl
    ∧ (humidOnDeepExit s).loader = s.loader ∧ (humidOnDeepExit s).pending = s.pending := by
  unfold humidOnDeepExit
  (repeat' split) <;> simp

@[simp] theorem humidFaultRaised_keeps (s : State) :
    (humidFaultRaised s).now = s.now ∧ (humidFaultRaised s).inReset = s.inReset
    ∧ (humidFaultRaised s).strapsRead = s.strapsRead ∧ (humidFaultRaised s).stationIndex = s.stationIndex
    ∧ (humidFaultRaised s).lane = s.lane ∧ (humidFaultRaised s).roomClass = s.roomClass
    ∧ (humidFaultRaised s).cfg = s.cfg ∧ (humidFaultRaised s).clock = s.clock ∧ (humidFaultRaised s).seq = s.seq
    ∧ (humidFaultRaised s).fan = s.fan ∧ (humidFaultRaised s).climate = s.climate
    ∧ (humidFaultRaised s).frost = s.frost ∧ (humidFaultRaised s).filter = s.filter
    ∧ (humidFaultRaised s).peers = s.peers ∧ (humidFaultRaised s).house = s.house
    ∧ (humidFaultRaised s).line = s.line ∧ (humidFaultRaised s).ctl = s.ctl
    ∧ (humidFaultRaised s).loader = s.loader ∧ (humidFaultRaised s).pending = s.pending
    ∧ (humidFaultRaised s).demand.supply = s.demand.supply := by
  unfold humidFaultRaised
  (repeat' split) <;> simp

@[simp] theorem humidFaultCleared_keeps (s : State) :
    (humidFaultCleared s).now = s.now ∧ (humidFaultCleared s).inReset = s.inReset
    ∧ (humidFaultCleared s).strapsRead = s.strapsRead ∧ (humidFaultCleared s).stationIndex = s.stationIndex
    ∧ (humidFaultCleared s).lane = s.lane ∧ (humidFaultCleared s).roomClass = s.roomClass
    ∧ (humidFaultCleared s).cfg = s.cfg ∧ (humidFaultCleared s).clock = s.clock
    ∧ (humidFaultCleared s).seq = s.seq ∧ (humidFaultCleared s).fan = s.fan
    ∧ (humidFaultCleared s).climate = s.climate ∧ (humidFaultCleared s).frost = s.frost
    ∧ (humidFaultCleared s).demand = s.demand ∧ (humidFaultCleared s).filter = s.filter
    ∧ (humidFaultCleared s).peers = s.peers ∧ (humidFaultCleared s).house = s.house
    ∧ (humidFaultCleared s).line = s.line ∧ (humidFaultCleared s).ctl = s.ctl
    ∧ (humidFaultCleared s).loader = s.loader ∧ (humidFaultCleared s).pending = s.pending := by
  unfold humidFaultCleared
  (repeat' split) <;> simp

@[simp] theorem watchRecord_keeps (b ah : Nat) (rh : Int) (s : State) :
    (watchRecord b ah rh s).now = s.now ∧ (watchRecord b ah rh s).inReset = s.inReset
    ∧ (watchRecord b ah rh s).strapsRead = s.strapsRead ∧ (watchRecord b ah rh s).stationIndex = s.stationIndex
    ∧ (watchRecord b ah rh s).lane = s.lane ∧ (watchRecord b ah rh s).roomClass = s.roomClass
    ∧ (watchRecord b ah rh s).cfg = s.cfg ∧ (watchRecord b ah rh s).clock = s.clock
    ∧ (watchRecord b ah rh s).seq = s.seq ∧ (watchRecord b ah rh s).climate = s.climate
    ∧ (watchRecord b ah rh s).frost = s.frost ∧ (watchRecord b ah rh s).peers = s.peers
    ∧ (watchRecord b ah rh s).house = s.house ∧ (watchRecord b ah rh s).line = s.line
    ∧ (watchRecord b ah rh s).ctl = s.ctl ∧ (watchRecord b ah rh s).loader = s.loader
    ∧ (watchRecord b ah rh s).pending = s.pending ∧ (watchRecord b ah rh s).fan.direction = s.fan.direction
    ∧ (watchRecord b ah rh s).fan.speed = s.fan.speed ∧ (watchRecord b ah rh s).fan.periods = s.fan.periods
    ∧ (watchRecord b ah rh s).fan.driveOutput = s.fan.driveOutput
    ∧ (watchRecord b ah rh s).fan.holdEnd = s.fan.holdEnd
    ∧ (watchRecord b ah rh s).fan.captureCounter = s.fan.captureCounter
    ∧ (watchRecord b ah rh s).demand.supply = s.demand.supply
    ∧ (watchRecord b ah rh s).filter.state = s.filter.state
    ∧ (watchRecord b ah rh s).filter.baseline = s.filter.baseline
    ∧ (watchRecord b ah rh s).filter.runHours = s.filter.runHours := by
  unfold watchRecord
  (repeat' split) <;> simp

@[simp] theorem boostRecord_keeps (ah : Nat) (rh : Int) (s : State) :
    (boostRecord ah rh s).now = s.now ∧ (boostRecord ah rh s).inReset = s.inReset
    ∧ (boostRecord ah rh s).strapsRead = s.strapsRead ∧ (boostRecord ah rh s).stationIndex = s.stationIndex
    ∧ (boostRecord ah rh s).lane = s.lane ∧ (boostRecord ah rh s).roomClass = s.roomClass
    ∧ (boostRecord ah rh s).cfg = s.cfg ∧ (boostRecord ah rh s).clock = s.clock
    ∧ (boostRecord ah rh s).seq = s.seq ∧ (boostRecord ah rh s).fan = s.fan
    ∧ (boostRecord ah rh s).climate = s.climate ∧ (boostRecord ah rh s).frost = s.frost
    ∧ (boostRecord ah rh s).filter = s.filter ∧ (boostRecord ah rh s).peers = s.peers
    ∧ (boostRecord ah rh s).house = s.house ∧ (boostRecord ah rh s).line = s.line
    ∧ (boostRecord ah rh s).ctl = s.ctl ∧ (boostRecord ah rh s).loader = s.loader
    ∧ (boostRecord ah rh s).pending = s.pending ∧ (boostRecord ah rh s).demand.supply = s.demand.supply := by
  simp only [boostRecord]
  (repeat' split) <;> simp

@[simp] theorem rearmRecord_keeps (ah : Nat) (rh : Int) (s : State) :
    (rearmRecord ah rh s).now = s.now ∧ (rearmRecord ah rh s).inReset = s.inReset
    ∧ (rearmRecord ah rh s).strapsRead = s.strapsRead ∧ (rearmRecord ah rh s).stationIndex = s.stationIndex
    ∧ (rearmRecord ah rh s).lane = s.lane ∧ (rearmRecord ah rh s).roomClass = s.roomClass
    ∧ (rearmRecord ah rh s).cfg = s.cfg ∧ (rearmRecord ah rh s).clock = s.clock
    ∧ (rearmRecord ah rh s).seq = s.seq ∧ (rearmRecord ah rh s).fan = s.fan
    ∧ (rearmRecord ah rh s).climate = s.climate ∧ (rearmRecord ah rh s).frost = s.frost
    ∧ (rearmRecord ah rh s).demand = s.demand ∧ (rearmRecord ah rh s).filter = s.filter
    ∧ (rearmRecord ah rh s).peers = s.peers ∧ (rearmRecord ah rh s).house = s.house
    ∧ (rearmRecord ah rh s).line = s.line ∧ (rearmRecord ah rh s).ctl = s.ctl
    ∧ (rearmRecord ah rh s).loader = s.loader ∧ (rearmRecord ah rh s).pending = s.pending := by
  unfold rearmRecord
  (repeat' split) <;> simp

@[simp] theorem humidRecord_keeps (ah : Nat) (rh : Int) (s : State) :
    (humidRecord ah rh s).now = s.now ∧ (humidRecord ah rh s).inReset = s.inReset
    ∧ (humidRecord ah rh s).strapsRead = s.strapsRead ∧ (humidRecord ah rh s).stationIndex = s.stationIndex
    ∧ (humidRecord ah rh s).lane = s.lane ∧ (humidRecord ah rh s).roomClass = s.roomClass
    ∧ (humidRecord ah rh s).cfg = s.cfg ∧ (humidRecord ah rh s).clock = s.clock
    ∧ (humidRecord ah rh s).seq = s.seq ∧ (humidRecord ah rh s).climate = s.climate
    ∧ (humidRecord ah rh s).frost = s.frost ∧ (humidRecord ah rh s).peers = s.peers
    ∧ (humidRecord ah rh s).house = s.house ∧ (humidRecord ah rh s).line = s.line
    ∧ (humidRecord ah rh s).ctl = s.ctl ∧ (humidRecord ah rh s).loader = s.loader
    ∧ (humidRecord ah rh s).pending = s.pending ∧ (humidRecord ah rh s).fan.direction = s.fan.direction
    ∧ (humidRecord ah rh s).fan.speed = s.fan.speed ∧ (humidRecord ah rh s).fan.periods = s.fan.periods
    ∧ (humidRecord ah rh s).fan.driveOutput = s.fan.driveOutput
    ∧ (humidRecord ah rh s).fan.holdEnd = s.fan.holdEnd
    ∧ (humidRecord ah rh s).fan.captureCounter = s.fan.captureCounter
    ∧ (humidRecord ah rh s).demand.supply = s.demand.supply ∧ (humidRecord ah rh s).filter.state = s.filter.state
    ∧ (humidRecord ah rh s).filter.baseline = s.filter.baseline
    ∧ (humidRecord ah rh s).filter.runHours = s.filter.runHours := by
  unfold humidRecord
  (repeat' split) <;> simp

@[simp] theorem humidTakesRecord_keeps (r : HalfRecord) (s : State) :
    (humidTakesRecord r s).now = s.now ∧ (humidTakesRecord r s).inReset = s.inReset
    ∧ (humidTakesRecord r s).strapsRead = s.strapsRead ∧ (humidTakesRecord r s).stationIndex = s.stationIndex
    ∧ (humidTakesRecord r s).lane = s.lane ∧ (humidTakesRecord r s).roomClass = s.roomClass
    ∧ (humidTakesRecord r s).cfg = s.cfg ∧ (humidTakesRecord r s).clock = s.clock
    ∧ (humidTakesRecord r s).seq = s.seq ∧ (humidTakesRecord r s).climate = s.climate
    ∧ (humidTakesRecord r s).frost = s.frost ∧ (humidTakesRecord r s).peers = s.peers
    ∧ (humidTakesRecord r s).house = s.house ∧ (humidTakesRecord r s).line = s.line
    ∧ (humidTakesRecord r s).ctl = s.ctl ∧ (humidTakesRecord r s).loader = s.loader
    ∧ (humidTakesRecord r s).pending = s.pending ∧ (humidTakesRecord r s).fan.direction = s.fan.direction
    ∧ (humidTakesRecord r s).fan.speed = s.fan.speed ∧ (humidTakesRecord r s).fan.periods = s.fan.periods
    ∧ (humidTakesRecord r s).fan.driveOutput = s.fan.driveOutput
    ∧ (humidTakesRecord r s).fan.holdEnd = s.fan.holdEnd
    ∧ (humidTakesRecord r s).fan.captureCounter = s.fan.captureCounter
    ∧ (humidTakesRecord r s).demand.supply = s.demand.supply
    ∧ (humidTakesRecord r s).filter.state = s.filter.state
    ∧ (humidTakesRecord r s).filter.baseline = s.filter.baseline
    ∧ (humidTakesRecord r s).filter.runHours = s.filter.runHours := by
  unfold humidTakesRecord
  (repeat' split) <;> simp

@[simp] theorem setStage_keeps (st : FrostStage) (s : State) :
    (setStage st s).now = s.now ∧ (setStage st s).inReset = s.inReset ∧ (setStage st s).strapsRead = s.strapsRead
    ∧ (setStage st s).stationIndex = s.stationIndex ∧ (setStage st s).lane = s.lane
    ∧ (setStage st s).roomClass = s.roomClass ∧ (setStage st s).cfg = s.cfg ∧ (setStage st s).clock = s.clock
    ∧ (setStage st s).seq = s.seq ∧ (setStage st s).climate = s.climate ∧ (setStage st s).humid = s.humid
    ∧ (setStage st s).demand = s.demand ∧ (setStage st s).peers = s.peers ∧ (setStage st s).house = s.house
    ∧ (setStage st s).loader = s.loader ∧ (setStage st s).pending = s.pending
    ∧ (setStage st s).fan.direction = s.fan.direction ∧ (setStage st s).fan.speed = s.fan.speed
    ∧ (setStage st s).fan.periods = s.fan.periods ∧ (setStage st s).fan.driveOutput = s.fan.driveOutput
    ∧ (setStage st s).fan.holdEnd = s.fan.holdEnd ∧ (setStage st s).fan.captureCounter = s.fan.captureCounter
    ∧ (setStage st s).frost.account = s.frost.account ∧ (setStage st s).frost.meltStepEnd = s.frost.meltStepEnd
    ∧ (setStage st s).line.active = s.line.active ∧ (setStage st s).line.transmission = s.line.transmission
    ∧ (setStage st s).line.assembly = s.line.assembly ∧ (setStage st s).line.idleTime = s.line.idleTime
    ∧ (setStage st s).line.busyUntil = s.line.busyUntil ∧ (setStage st s).line.modeSlot = s.line.modeSlot
    ∧ (setStage st s).line.boostSlot = s.line.boostSlot ∧ (setStage st s).line.steady = s.line.steady
    ∧ (setStage st s).filter.state = s.filter.state ∧ (setStage st s).filter.baseline = s.filter.baseline
    ∧ (setStage st s).filter.runHours = s.filter.runHours ∧ (setStage st s).ctl.steady = s.ctl.steady
    ∧ (setStage st s).ctl.levels = s.ctl.levels ∧ (setStage st s).ctl.stall = s.ctl.stall := by
  unfold setStage
  (repeat' split) <;> simp

@[simp] theorem clearContention_keeps (s : State) :
    (clearContention s).now = s.now ∧ (clearContention s).inReset = s.inReset
    ∧ (clearContention s).strapsRead = s.strapsRead ∧ (clearContention s).stationIndex = s.stationIndex
    ∧ (clearContention s).lane = s.lane ∧ (clearContention s).roomClass = s.roomClass
    ∧ (clearContention s).cfg = s.cfg ∧ (clearContention s).clock = s.clock ∧ (clearContention s).seq = s.seq
    ∧ (clearContention s).fan = s.fan ∧ (clearContention s).climate = s.climate
    ∧ (clearContention s).humid = s.humid ∧ (clearContention s).demand = s.demand
    ∧ (clearContention s).filter = s.filter ∧ (clearContention s).peers = s.peers
    ∧ (clearContention s).house = s.house ∧ (clearContention s).line = s.line ∧ (clearContention s).ctl = s.ctl
    ∧ (clearContention s).loader = s.loader ∧ (clearContention s).pending = s.pending
    ∧ (clearContention s).frost.account = s.frost.account ∧ (clearContention s).frost.stage = s.frost.stage
    ∧ (clearContention s).frost.meltStepEnd = s.frost.meltStepEnd :=
  ⟨rfl, rfl, rfl, rfl, rfl, rfl, rfl, rfl, rfl, rfl, rfl, rfl, rfl, rfl, rfl, rfl, rfl, rfl, rfl, rfl,
    rfl, rfl, rfl⟩

@[simp] theorem withdraw_keeps (st : FrostStage) (s : State) :
    (withdraw st s).now = s.now ∧ (withdraw st s).inReset = s.inReset ∧ (withdraw st s).strapsRead = s.strapsRead
    ∧ (withdraw st s).stationIndex = s.stationIndex ∧ (withdraw st s).lane = s.lane
    ∧ (withdraw st s).roomClass = s.roomClass ∧ (withdraw st s).cfg = s.cfg ∧ (withdraw st s).clock = s.clock
    ∧ (withdraw st s).seq = s.seq ∧ (withdraw st s).climate = s.climate ∧ (withdraw st s).humid = s.humid
    ∧ (withdraw st s).demand = s.demand ∧ (withdraw st s).peers = s.peers ∧ (withdraw st s).house = s.house
    ∧ (withdraw st s).loader = s.loader ∧ (withdraw st s).pending = s.pending
    ∧ (withdraw st s).fan.direction = s.fan.direction ∧ (withdraw st s).fan.speed = s.fan.speed
    ∧ (withdraw st s).fan.periods = s.fan.periods ∧ (withdraw st s).fan.driveOutput = s.fan.driveOutput
    ∧ (withdraw st s).fan.holdEnd = s.fan.holdEnd ∧ (withdraw st s).fan.captureCounter = s.fan.captureCounter
    ∧ (withdraw st s).frost.account = s.frost.account ∧ (withdraw st s).frost.meltStepEnd = s.frost.meltStepEnd
    ∧ (withdraw st s).line.active = s.line.active ∧ (withdraw st s).line.transmission = s.line.transmission
    ∧ (withdraw st s).line.assembly = s.line.assembly ∧ (withdraw st s).line.idleTime = s.line.idleTime
    ∧ (withdraw st s).line.busyUntil = s.line.busyUntil ∧ (withdraw st s).line.modeSlot = s.line.modeSlot
    ∧ (withdraw st s).line.boostSlot = s.line.boostSlot ∧ (withdraw st s).filter.state = s.filter.state
    ∧ (withdraw st s).filter.baseline = s.filter.baseline ∧ (withdraw st s).filter.runHours = s.filter.runHours
    ∧ (withdraw st s).ctl.steady = s.ctl.steady ∧ (withdraw st s).ctl.levels = s.ctl.levels
    ∧ (withdraw st s).ctl.stall = s.ctl.stall := by simp [withdraw]

@[simp] theorem clearDefrost_keeps (s : State) :
    (clearDefrost s).now = s.now ∧ (clearDefrost s).inReset = s.inReset
    ∧ (clearDefrost s).strapsRead = s.strapsRead ∧ (clearDefrost s).stationIndex = s.stationIndex
    ∧ (clearDefrost s).lane = s.lane ∧ (clearDefrost s).roomClass = s.roomClass ∧ (clearDefrost s).cfg = s.cfg
    ∧ (clearDefrost s).clock = s.clock ∧ (clearDefrost s).seq = s.seq ∧ (clearDefrost s).fan = s.fan
    ∧ (clearDefrost s).climate = s.climate ∧ (clearDefrost s).humid = s.humid ∧ (clearDefrost s).demand = s.demand
    ∧ (clearDefrost s).filter = s.filter ∧ (clearDefrost s).peers = s.peers ∧ (clearDefrost s).house = s.house
    ∧ (clearDefrost s).line = s.line ∧ (clearDefrost s).ctl = s.ctl ∧ (clearDefrost s).loader = s.loader
    ∧ (clearDefrost s).pending = s.pending ∧ (clearDefrost s).frost.account = s.frost.account
    ∧ (clearDefrost s).frost.stage = s.frost.stage :=
  ⟨rfl, rfl, rfl, rfl, rfl, rfl, rfl, rfl, rfl, rfl, rfl, rfl, rfl, rfl, rfl, rfl, rfl, rfl, rfl, rfl,
    rfl, rfl⟩

@[simp] theorem leaveDefrost_keeps (s : State) :
    (leaveDefrost s).now = s.now ∧ (leaveDefrost s).inReset = s.inReset
    ∧ (leaveDefrost s).strapsRead = s.strapsRead ∧ (leaveDefrost s).stationIndex = s.stationIndex
    ∧ (leaveDefrost s).lane = s.lane ∧ (leaveDefrost s).roomClass = s.roomClass ∧ (leaveDefrost s).cfg = s.cfg
    ∧ (leaveDefrost s).clock = s.clock ∧ (leaveDefrost s).seq = s.seq ∧ (leaveDefrost s).fan = s.fan
    ∧ (leaveDefrost s).climate = s.climate ∧ (leaveDefrost s).humid = s.humid ∧ (leaveDefrost s).demand = s.demand
    ∧ (leaveDefrost s).filter = s.filter ∧ (leaveDefrost s).peers = s.peers ∧ (leaveDefrost s).house = s.house
    ∧ (leaveDefrost s).ctl = s.ctl ∧ (leaveDefrost s).loader = s.loader ∧ (leaveDefrost s).pending = s.pending
    ∧ (leaveDefrost s).frost.account = s.frost.account ∧ (leaveDefrost s).frost.stage = s.frost.stage
    ∧ (leaveDefrost s).line.active = s.line.active ∧ (leaveDefrost s).line.transmission = s.line.transmission
    ∧ (leaveDefrost s).line.assembly = s.line.assembly ∧ (leaveDefrost s).line.idleTime = s.line.idleTime
    ∧ (leaveDefrost s).line.busyUntil = s.line.busyUntil ∧ (leaveDefrost s).line.modeSlot = s.line.modeSlot
    ∧ (leaveDefrost s).line.boostSlot = s.line.boostSlot :=
  ⟨rfl, rfl, rfl, rfl, rfl, rfl, rfl, rfl, rfl, rfl, rfl, rfl, rfl, rfl, rfl, rfl, rfl, rfl, rfl, rfl,
    rfl, rfl, rfl, rfl, rfl, rfl, rfl, rfl⟩

@[simp] theorem startMelt_keeps (s : State) :
    (startMelt s).now = s.now ∧ (startMelt s).inReset = s.inReset ∧ (startMelt s).strapsRead = s.strapsRead
    ∧ (startMelt s).stationIndex = s.stationIndex ∧ (startMelt s).lane = s.lane
    ∧ (startMelt s).roomClass = s.roomClass ∧ (startMelt s).cfg = s.cfg ∧ (startMelt s).clock = s.clock
    ∧ (startMelt s).seq = s.seq ∧ (startMelt s).fan = s.fan ∧ (startMelt s).climate = s.climate
    ∧ (startMelt s).humid = s.humid ∧ (startMelt s).demand = s.demand ∧ (startMelt s).filter = s.filter
    ∧ (startMelt s).peers = s.peers ∧ (startMelt s).house = s.house ∧ (startMelt s).line = s.line
    ∧ (startMelt s).ctl = s.ctl ∧ (startMelt s).loader = s.loader ∧ (startMelt s).pending = s.pending
    ∧ (startMelt s).frost.account = s.frost.account ∧ (startMelt s).frost.stage = s.frost.stage :=
  ⟨rfl, rfl, rfl, rfl, rfl, rfl, rfl, rfl, rfl, rfl, rfl, rfl, rfl, rfl, rfl, rfl, rfl, rfl, rfl, rfl,
    rfl, rfl⟩

@[simp] theorem dropMelt_keeps (s : State) :
    (dropMelt s).now = s.now ∧ (dropMelt s).inReset = s.inReset ∧ (dropMelt s).strapsRead = s.strapsRead
    ∧ (dropMelt s).stationIndex = s.stationIndex ∧ (dropMelt s).lane = s.lane
    ∧ (dropMelt s).roomClass = s.roomClass ∧ (dropMelt s).cfg = s.cfg ∧ (dropMelt s).clock = s.clock
    ∧ (dropMelt s).seq = s.seq ∧ (dropMelt s).fan = s.fan ∧ (dropMelt s).climate = s.climate
    ∧ (dropMelt s).humid = s.humid ∧ (dropMelt s).demand = s.demand ∧ (dropMelt s).filter = s.filter
    ∧ (dropMelt s).peers = s.peers ∧ (dropMelt s).house = s.house ∧ (dropMelt s).line = s.line
    ∧ (dropMelt s).ctl = s.ctl ∧ (dropMelt s).loader = s.loader ∧ (dropMelt s).pending = s.pending
    ∧ (dropMelt s).frost.account = s.frost.account ∧ (dropMelt s).frost.stage = s.frost.stage :=
  ⟨rfl, rfl, rfl, rfl, rfl, rfl, rfl, rfl, rfl, rfl, rfl, rfl, rfl, rfl, rfl, rfl, rfl, rfl, rfl, rfl,
    rfl, rfl⟩

@[simp] theorem startLockout_keeps (s : State) :
    (startLockout s).now = s.now ∧ (startLockout s).inReset = s.inReset
    ∧ (startLockout s).strapsRead = s.strapsRead ∧ (startLockout s).stationIndex = s.stationIndex
    ∧ (startLockout s).lane = s.lane ∧ (startLockout s).roomClass = s.roomClass ∧ (startLockout s).cfg = s.cfg
    ∧ (startLockout s).clock = s.clock ∧ (startLockout s).seq = s.seq ∧ (startLockout s).fan = s.fan
    ∧ (startLockout s).climate = s.climate ∧ (startLockout s).humid = s.humid ∧ (startLockout s).demand = s.demand
    ∧ (startLockout s).filter = s.filter ∧ (startLockout s).peers = s.peers ∧ (startLockout s).house = s.house
    ∧ (startLockout s).line = s.line ∧ (startLockout s).ctl = s.ctl ∧ (startLockout s).loader = s.loader
    ∧ (startLockout s).pending = s.pending ∧ (startLockout s).frost.account = s.frost.account
    ∧ (startLockout s).frost.stage = s.frost.stage ∧ (startLockout s).frost.meltStepEnd = s.frost.meltStepEnd :=
  ⟨rfl, rfl, rfl, rfl, rfl, rfl, rfl, rfl, rfl, rfl, rfl, rfl, rfl, rfl, rfl, rfl, rfl, rfl, rfl, rfl,
    rfl, rfl, rfl⟩

@[simp] theorem clearBlindDefrost_keeps (s : State) :
    (clearBlindDefrost s).now = s.now ∧ (clearBlindDefrost s).inReset = s.inReset
    ∧ (clearBlindDefrost s).strapsRead = s.strapsRead ∧ (clearBlindDefrost s).stationIndex = s.stationIndex
    ∧ (clearBlindDefrost s).lane = s.lane ∧ (clearBlindDefrost s).roomClass = s.roomClass
    ∧ (clearBlindDefrost s).cfg = s.cfg ∧ (clearBlindDefrost s).clock = s.clock
    ∧ (clearBlindDefrost s).seq = s.seq ∧ (clearBlindDefrost s).fan = s.fan
    ∧ (clearBlindDefrost s).climate = s.climate ∧ (clearBlindDefrost s).humid = s.humid
    ∧ (clearBlindDefrost s).demand = s.demand ∧ (clearBlindDefrost s).filter = s.filter
    ∧ (clearBlindDefrost s).peers = s.peers ∧ (clearBlindDefrost s).house = s.house
    ∧ (clearBlindDefrost s).line = s.line ∧ (clearBlindDefrost s).ctl = s.ctl
    ∧ (clearBlindDefrost s).loader = s.loader ∧ (clearBlindDefrost s).pending = s.pending
    ∧ (clearBlindDefrost s).frost.account = s.frost.account ∧ (clearBlindDefrost s).frost.stage = s.frost.stage
    ∧ (clearBlindDefrost s).frost.meltStepEnd = s.frost.meltStepEnd :=
  ⟨rfl, rfl, rfl, rfl, rfl, rfl, rfl, rfl, rfl, rfl, rfl, rfl, rfl, rfl, rfl, rfl, rfl, rfl, rfl, rfl,
    rfl, rfl, rfl⟩

@[simp] theorem frostOnStopped_keeps (s : State) :
    (frostOnStopped s).now = s.now ∧ (frostOnStopped s).inReset = s.inReset
    ∧ (frostOnStopped s).strapsRead = s.strapsRead ∧ (frostOnStopped s).stationIndex = s.stationIndex
    ∧ (frostOnStopped s).lane = s.lane ∧ (frostOnStopped s).roomClass = s.roomClass
    ∧ (frostOnStopped s).cfg = s.cfg ∧ (frostOnStopped s).clock = s.clock ∧ (frostOnStopped s).seq = s.seq
    ∧ (frostOnStopped s).climate = s.climate ∧ (frostOnStopped s).humid = s.humid
    ∧ (frostOnStopped s).demand = s.demand ∧ (frostOnStopped s).peers = s.peers
    ∧ (frostOnStopped s).house = s.house ∧ (frostOnStopped s).loader = s.loader
    ∧ (frostOnStopped s).pending = s.pending ∧ (frostOnStopped s).fan.direction = s.fan.direction
    ∧ (frostOnStopped s).fan.speed = s.fan.speed ∧ (frostOnStopped s).fan.periods = s.fan.periods
    ∧ (frostOnStopped s).fan.driveOutput = s.fan.driveOutput ∧ (frostOnStopped s).fan.holdEnd = s.fan.holdEnd
    ∧ (frostOnStopped s).fan.captureCounter = s.fan.captureCounter
    ∧ (frostOnStopped s).frost.account = s.frost.account ∧ (frostOnStopped s).line.active = s.line.active
    ∧ (frostOnStopped s).line.transmission = s.line.transmission
    ∧ (frostOnStopped s).line.assembly = s.line.assembly ∧ (frostOnStopped s).line.idleTime = s.line.idleTime
    ∧ (frostOnStopped s).line.busyUntil = s.line.busyUntil ∧ (frostOnStopped s).line.modeSlot = s.line.modeSlot
    ∧ (frostOnStopped s).line.boostSlot = s.line.boostSlot ∧ (frostOnStopped s).filter.state = s.filter.state
    ∧ (frostOnStopped s).filter.baseline = s.filter.baseline
    ∧ (frostOnStopped s).filter.runHours = s.filter.runHours ∧ (frostOnStopped s).ctl.steady = s.ctl.steady
    ∧ (frostOnStopped s).ctl.levels = s.ctl.levels ∧ (frostOnStopped s).ctl.stall = s.ctl.stall := by
  unfold frostOnStopped
  (repeat' split) <;> simp

@[simp] theorem defrostOnSequencer_keeps (old : SeqState) (s : State) :
    (defrostOnSequencer old s).now = s.now ∧ (defrostOnSequencer old s).inReset = s.inReset
    ∧ (defrostOnSequencer old s).strapsRead = s.strapsRead
    ∧ (defrostOnSequencer old s).stationIndex = s.stationIndex ∧ (defrostOnSequencer old s).lane = s.lane
    ∧ (defrostOnSequencer old s).roomClass = s.roomClass ∧ (defrostOnSequencer old s).cfg = s.cfg
    ∧ (defrostOnSequencer old s).clock = s.clock ∧ (defrostOnSequencer old s).seq = s.seq
    ∧ (defrostOnSequencer old s).climate = s.climate ∧ (defrostOnSequencer old s).humid = s.humid
    ∧ (defrostOnSequencer old s).demand = s.demand ∧ (defrostOnSequencer old s).peers = s.peers
    ∧ (defrostOnSequencer old s).house = s.house ∧ (defrostOnSequencer old s).loader = s.loader
    ∧ (defrostOnSequencer old s).pending = s.pending ∧ (defrostOnSequencer old s).fan.direction = s.fan.direction
    ∧ (defrostOnSequencer old s).fan.speed = s.fan.speed ∧ (defrostOnSequencer old s).fan.periods = s.fan.periods
    ∧ (defrostOnSequencer old s).fan.driveOutput = s.fan.driveOutput
    ∧ (defrostOnSequencer old s).fan.holdEnd = s.fan.holdEnd
    ∧ (defrostOnSequencer old s).fan.captureCounter = s.fan.captureCounter
    ∧ (defrostOnSequencer old s).frost.account = s.frost.account
    ∧ (defrostOnSequencer old s).line.active = s.line.active
    ∧ (defrostOnSequencer old s).line.transmission = s.line.transmission
    ∧ (defrostOnSequencer old s).line.assembly = s.line.assembly
    ∧ (defrostOnSequencer old s).line.idleTime = s.line.idleTime
    ∧ (defrostOnSequencer old s).line.busyUntil = s.line.busyUntil
    ∧ (defrostOnSequencer old s).line.modeSlot = s.line.modeSlot
    ∧ (defrostOnSequencer old s).line.boostSlot = s.line.boostSlot
    ∧ (defrostOnSequencer old s).filter.state = s.filter.state
    ∧ (defrostOnSequencer old s).filter.baseline = s.filter.baseline
    ∧ (defrostOnSequencer old s).filter.runHours = s.filter.runHours
    ∧ (defrostOnSequencer old s).ctl.steady = s.ctl.steady ∧ (defrostOnSequencer old s).ctl.levels = s.ctl.levels
    ∧ (defrostOnSequencer old s).ctl.stall = s.ctl.stall := by
  unfold defrostOnSequencer
  (repeat' split) <;> simp

@[simp] theorem frostOnSequencer_keeps (old : SeqState) (s : State) :
    (frostOnSequencer old s).now = s.now ∧ (frostOnSequencer old s).inReset = s.inReset
    ∧ (frostOnSequencer old s).strapsRead = s.strapsRead ∧ (frostOnSequencer old s).stationIndex = s.stationIndex
    ∧ (frostOnSequencer old s).lane = s.lane ∧ (frostOnSequencer old s).roomClass = s.roomClass
    ∧ (frostOnSequencer old s).cfg = s.cfg ∧ (frostOnSequencer old s).clock = s.clock
    ∧ (frostOnSequencer old s).seq = s.seq ∧ (frostOnSequencer old s).climate = s.climate
    ∧ (frostOnSequencer old s).humid = s.humid ∧ (frostOnSequencer old s).demand = s.demand
    ∧ (frostOnSequencer old s).peers = s.peers ∧ (frostOnSequencer old s).house = s.house
    ∧ (frostOnSequencer old s).loader = s.loader ∧ (frostOnSequencer old s).pending = s.pending
    ∧ (frostOnSequencer old s).fan.direction = s.fan.direction ∧ (frostOnSequencer old s).fan.speed = s.fan.speed
    ∧ (frostOnSequencer old s).fan.periods = s.fan.periods
    ∧ (frostOnSequencer old s).fan.driveOutput = s.fan.driveOutput
    ∧ (frostOnSequencer old s).fan.holdEnd = s.fan.holdEnd
    ∧ (frostOnSequencer old s).fan.captureCounter = s.fan.captureCounter
    ∧ (frostOnSequencer old s).frost.account = s.frost.account
    ∧ (frostOnSequencer old s).line.active = s.line.active
    ∧ (frostOnSequencer old s).line.transmission = s.line.transmission
    ∧ (frostOnSequencer old s).line.assembly = s.line.assembly
    ∧ (frostOnSequencer old s).line.idleTime = s.line.idleTime
    ∧ (frostOnSequencer old s).line.busyUntil = s.line.busyUntil
    ∧ (frostOnSequencer old s).line.modeSlot = s.line.modeSlot
    ∧ (frostOnSequencer old s).line.boostSlot = s.line.boostSlot
    ∧ (frostOnSequencer old s).filter.state = s.filter.state
    ∧ (frostOnSequencer old s).filter.baseline = s.filter.baseline
    ∧ (frostOnSequencer old s).filter.runHours = s.filter.runHours
    ∧ (frostOnSequencer old s).ctl.steady = s.ctl.steady ∧ (frostOnSequencer old s).ctl.levels = s.ctl.levels
    ∧ (frostOnSequencer old s).ctl.stall = s.ctl.stall := by
  unfold frostOnSequencer
  (repeat' split) <;> simp

end Sys2Proof.Machine
end

