-- ==== Sys2Proof/Laws/KeepsMotion.lean ====
section
/-! SUPPORT. What the sequencer and the frost guard leave as it was: one theorem for each operation. -/

namespace Sys2Proof.Machine

@[simp] theorem zeroDrive_keeps (s : State) :
    (zeroDrive s).now = s.now ∧ (zeroDrive s).inReset = s.inReset ∧ (zeroDrive s).strapsRead = s.strapsRead
    ∧ (zeroDrive s).stationIndex = s.stationIndex ∧ (zeroDrive s).lane = s.lane
    ∧ (zeroDrive s).roomClass = s.roomClass ∧ (zeroDrive s).cfg = s.cfg ∧ (zeroDrive s).clock = s.clock
    ∧ (zeroDrive s).seq = s.seq ∧ (zeroDrive s).climate = s.climate ∧ (zeroDrive s).frost = s.frost
    ∧ (zeroDrive s).humid = s.humid ∧ (zeroDrive s).demand = s.demand ∧ (zeroDrive s).filter = s.filter
    ∧ (zeroDrive s).peers = s.peers ∧ (zeroDrive s).house = s.house ∧ (zeroDrive s).line = s.line
    ∧ (zeroDrive s).ctl = s.ctl ∧ (zeroDrive s).loader = s.loader ∧ (zeroDrive s).pending = s.pending
    ∧ (zeroDrive s).fan.direction = s.fan.direction ∧ (zeroDrive s).fan.speed = s.fan.speed
    ∧ (zeroDrive s).fan.periods = s.fan.periods ∧ (zeroDrive s).fan.captureCounter = s.fan.captureCounter :=
  ⟨rfl, rfl, rfl, rfl, rfl, rfl, rfl, rfl, rfl, rfl, rfl, rfl, rfl, rfl, rfl, rfl, rfl, rfl, rfl, rfl,
    rfl, rfl, rfl, rfl⟩

@[simp] theorem endHold_keeps (s : State) :
    (endHold s).now = s.now ∧ (endHold s).inReset = s.inReset ∧ (endHold s).strapsRead = s.strapsRead
    ∧ (endHold s).stationIndex = s.stationIndex ∧ (endHold s).lane = s.lane ∧ (endHold s).roomClass = s.roomClass
    ∧ (endHold s).cfg = s.cfg ∧ (endHold s).clock = s.clock ∧ (endHold s).seq = s.seq
    ∧ (endHold s).climate = s.climate ∧ (endHold s).frost = s.frost ∧ (endHold s).humid = s.humid
    ∧ (endHold s).demand = s.demand ∧ (endHold s).filter = s.filter ∧ (endHold s).peers = s.peers
    ∧ (endHold s).house = s.house ∧ (endHold s).line = s.line ∧ (endHold s).ctl = s.ctl
    ∧ (endHold s).loader = s.loader ∧ (endHold s).pending = s.pending
    ∧ (endHold s).fan.direction = s.fan.direction ∧ (endHold s).fan.speed = s.fan.speed
    ∧ (endHold s).fan.periods = s.fan.periods ∧ (endHold s).fan.driveOutput = s.fan.driveOutput
    ∧ (endHold s).fan.captureCounter = s.fan.captureCounter := by
  unfold endHold
  (repeat' split) <;> simp

@[simp] theorem orderDirection_keeps (d : Dir) (s : State) :
    (orderDirection d s).now = s.now ∧ (orderDirection d s).inReset = s.inReset
    ∧ (orderDirection d s).strapsRead = s.strapsRead ∧ (orderDirection d s).stationIndex = s.stationIndex
    ∧ (orderDirection d s).lane = s.lane ∧ (orderDirection d s).roomClass = s.roomClass
    ∧ (orderDirection d s).cfg = s.cfg ∧ (orderDirection d s).clock = s.clock ∧ (orderDirection d s).seq = s.seq
    ∧ (orderDirection d s).climate = s.climate ∧ (orderDirection d s).frost = s.frost
    ∧ (orderDirection d s).humid = s.humid ∧ (orderDirection d s).demand = s.demand
    ∧ (orderDirection d s).filter = s.filter ∧ (orderDirection d s).peers = s.peers
    ∧ (orderDirection d s).house = s.house ∧ (orderDirection d s).line = s.line ∧ (orderDirection d s).ctl = s.ctl
    ∧ (orderDirection d s).loader = s.loader ∧ (orderDirection d s).pending = s.pending
    ∧ (orderDirection d s).fan.speed = s.fan.speed ∧ (orderDirection d s).fan.periods = s.fan.periods
    ∧ (orderDirection d s).fan.driveOutput = s.fan.driveOutput ∧ (orderDirection d s).fan.holdEnd = s.fan.holdEnd
    ∧ (orderDirection d s).fan.captureCounter = s.fan.captureCounter :=
  ⟨rfl, rfl, rfl, rfl, rfl, rfl, rfl, rfl, rfl, rfl, rfl, rfl, rfl, rfl, rfl, rfl, rfl, rfl, rfl, rfl,
    rfl, rfl, rfl, rfl, rfl⟩

@[simp] theorem notify_keeps (old : SeqState) (s : State) :
    (notify old s).now = s.now ∧ (notify old s).inReset = s.inReset ∧ (notify old s).strapsRead = s.strapsRead
    ∧ (notify old s).stationIndex = s.stationIndex ∧ (notify old s).lane = s.lane
    ∧ (notify old s).roomClass = s.roomClass ∧ (notify old s).cfg = s.cfg ∧ (notify old s).clock = s.clock
    ∧ (notify old s).seq = s.seq ∧ (notify old s).climate = s.climate ∧ (notify old s).peers = s.peers
    ∧ (notify old s).house = s.house ∧ (notify old s).loader = s.loader ∧ (notify old s).pending = s.pending
    ∧ (notify old s).fan.direction = s.fan.direction ∧ (notify old s).fan.speed = s.fan.speed
    ∧ (notify old s).fan.periods = s.fan.periods ∧ (notify old s).fan.driveOutput = s.fan.driveOutput
    ∧ (notify old s).fan.holdEnd = s.fan.holdEnd ∧ (notify old s).fan.captureCounter = s.fan.captureCounter
    ∧ (notify old s).frost.account = s.frost.account ∧ (notify old s).demand.supply = s.demand.supply
    ∧ (notify old s).line.active = s.line.active ∧ (notify old s).line.transmission = s.line.transmission
    ∧ (notify old s).line.assembly = s.line.assembly ∧ (notify old s).line.idleTime = s.line.idleTime
    ∧ (notify old s).line.busyUntil = s.line.busyUntil ∧ (notify old s).line.modeSlot = s.line.modeSlot
    ∧ (notify old s).line.boostSlot = s.line.boostSlot ∧ (notify old s).filter.state = s.filter.state
    ∧ (notify old s).filter.baseline = s.filter.baseline ∧ (notify old s).filter.runHours = s.filter.runHours
    ∧ (notify old s).ctl.steady = s.ctl.steady ∧ (notify old s).ctl.levels = s.ctl.levels
    ∧ (notify old s).ctl.stall = s.ctl.stall := by simp [notify]

@[simp] theorem changeSeq_keeps (q : SeqRec) (s : State) :
    (changeSeq q s).now = s.now ∧ (changeSeq q s).inReset = s.inReset ∧ (changeSeq q s).strapsRead = s.strapsRead
    ∧ (changeSeq q s).stationIndex = s.stationIndex ∧ (changeSeq q s).lane = s.lane
    ∧ (changeSeq q s).roomClass = s.roomClass ∧ (changeSeq q s).cfg = s.cfg ∧ (changeSeq q s).clock = s.clock
    ∧ (changeSeq q s).climate = s.climate ∧ (changeSeq q s).peers = s.peers ∧ (changeSeq q s).house = s.house
    ∧ (changeSeq q s).loader = s.loader ∧ (changeSeq q s).pending = s.pending
    ∧ (changeSeq q s).fan.direction = s.fan.direction ∧ (changeSeq q s).fan.speed = s.fan.speed
    ∧ (changeSeq q s).fan.periods = s.fan.periods ∧ (changeSeq q s).fan.driveOutput = s.fan.driveOutput
    ∧ (changeSeq q s).fan.holdEnd = s.fan.holdEnd ∧ (changeSeq q s).fan.captureCounter = s.fan.captureCounter
    ∧ (changeSeq q s).frost.account = s.frost.account ∧ (changeSeq q s).demand.supply = s.demand.supply
    ∧ (changeSeq q s).line.active = s.line.active ∧ (changeSeq q s).line.transmission = s.line.transmission
    ∧ (changeSeq q s).line.assembly = s.line.assembly ∧ (changeSeq q s).line.idleTime = s.line.idleTime
    ∧ (changeSeq q s).line.busyUntil = s.line.busyUntil ∧ (changeSeq q s).line.modeSlot = s.line.modeSlot
    ∧ (changeSeq q s).line.boostSlot = s.line.boostSlot ∧ (changeSeq q s).filter.state = s.filter.state
    ∧ (changeSeq q s).filter.baseline = s.filter.baseline ∧ (changeSeq q s).filter.runHours = s.filter.runHours
    ∧ (changeSeq q s).ctl.steady = s.ctl.steady ∧ (changeSeq q s).ctl.levels = s.ctl.levels
    ∧ (changeSeq q s).ctl.stall = s.ctl.stall := by simp [changeSeq]

@[simp] theorem reformReference_keeps (s : State) :
    (reformReference s).now = s.now ∧ (reformReference s).inReset = s.inReset
    ∧ (reformReference s).strapsRead = s.strapsRead ∧ (reformReference s).stationIndex = s.stationIndex
    ∧ (reformReference s).lane = s.lane ∧ (reformReference s).roomClass = s.roomClass
    ∧ (reformReference s).cfg = s.cfg ∧ (reformReference s).seq = s.seq ∧ (reformReference s).fan = s.fan
    ∧ (reformReference s).climate = s.climate ∧ (reformReference s).frost = s.frost
    ∧ (reformReference s).humid = s.humid ∧ (reformReference s).demand = s.demand
    ∧ (reformReference s).filter = s.filter ∧ (reformReference s).peers = s.peers
    ∧ (reformReference s).house = s.house ∧ (reformReference s).line = s.line ∧ (reformReference s).ctl = s.ctl
    ∧ (reformReference s).loader = s.loader ∧ (reformReference s).pending = s.pending
    ∧ (reformReference s).clock.running = s.clock.running ∧ (reformReference s).clock.c = s.clock.c
    ∧ (reformReference s).clock.length = s.clock.length := by
  unfold reformReference
  (repeat' split) <;> simp

@[simp] theorem stopClock_keeps (s : State) :
    (stopClock s).now = s.now ∧ (stopClock s).inReset = s.inReset ∧ (stopClock s).strapsRead = s.strapsRead
    ∧ (stopClock s).stationIndex = s.stationIndex ∧ (stopClock s).lane = s.lane
    ∧ (stopClock s).roomClass = s.roomClass ∧ (stopClock s).cfg = s.cfg ∧ (stopClock s).seq = s.seq
    ∧ (stopClock s).fan = s.fan ∧ (stopClock s).climate = s.climate ∧ (stopClock s).frost = s.frost
    ∧ (stopClock s).humid = s.humid ∧ (stopClock s).demand = s.demand ∧ (stopClock s).filter = s.filter
    ∧ (stopClock s).peers = s.peers ∧ (stopClock s).house = s.house ∧ (stopClock s).line = s.line
    ∧ (stopClock s).ctl = s.ctl ∧ (stopClock s).loader = s.loader ∧ (stopClock s).pending = s.pending
    ∧ (stopClock s).clock.c = s.clock.c ∧ (stopClock s).clock.length = s.clock.length := by
  simp [stopClock]

@[simp] theorem closeCollection_keeps (s : State) :
    (closeCollection s).now = s.now ∧ (closeCollection s).inReset = s.inReset
    ∧ (closeCollection s).strapsRead = s.strapsRead ∧ (closeCollection s).stationIndex = s.stationIndex
    ∧ (closeCollection s).lane = s.lane ∧ (closeCollection s).roomClass = s.roomClass
    ∧ (closeCollection s).cfg = s.cfg ∧ (closeCollection s).clock = s.clock ∧ (closeCollection s).seq = s.seq
    ∧ (closeCollection s).fan = s.fan ∧ (closeCollection s).frost = s.frost ∧ (closeCollection s).humid = s.humid
    ∧ (closeCollection s).demand = s.demand ∧ (closeCollection s).filter = s.filter
    ∧ (closeCollection s).peers = s.peers ∧ (closeCollection s).house = s.house
    ∧ (closeCollection s).line = s.line ∧ (closeCollection s).ctl = s.ctl ∧ (closeCollection s).loader = s.loader
    ∧ (closeCollection s).pending = s.pending ∧ (closeCollection s).climate.humidity = s.climate.humidity
    ∧ (closeCollection s).climate.outer = s.climate.outer ∧ (closeCollection s).climate.inner = s.climate.inner :=
  ⟨rfl, rfl, rfl, rfl, rfl, rfl, rfl, rfl, rfl, rfl, rfl, rfl, rfl, rfl, rfl, rfl, rfl, rfl, rfl, rfl,
    rfl, rfl, rfl⟩

@[simp] theorem enterSwitch_keeps (g : Target) (s : State) :
    (enterSwitch g s).now = s.now ∧ (enterSwitch g s).inReset = s.inReset
    ∧ (enterSwitch g s).strapsRead = s.strapsRead ∧ (enterSwitch g s).stationIndex = s.stationIndex
    ∧ (enterSwitch g s).lane = s.lane ∧ (enterSwitch g s).roomClass = s.roomClass ∧ (enterSwitch g s).cfg = s.cfg
    ∧ (enterSwitch g s).clock = s.clock ∧ (enterSwitch g s).climate = s.climate
    ∧ (enterSwitch g s).frost = s.frost ∧ (enterSwitch g s).humid = s.humid ∧ (enterSwitch g s).demand = s.demand
    ∧ (enterSwitch g s).filter = s.filter ∧ (enterSwitch g s).peers = s.peers ∧ (enterSwitch g s).house = s.house
    ∧ (enterSwitch g s).line = s.line ∧ (enterSwitch g s).ctl = s.ctl ∧ (enterSwitch g s).loader = s.loader
    ∧ (enterSwitch g s).pending = s.pending ∧ (enterSwitch g s).seq.state = s.seq.state
    ∧ (enterSwitch g s).seq.target = s.seq.target ∧ (enterSwitch g s).seq.stallHistory = s.seq.stallHistory
    ∧ (enterSwitch g s).fan.speed = s.fan.speed ∧ (enterSwitch g s).fan.periods = s.fan.periods
    ∧ (enterSwitch g s).fan.driveOutput = s.fan.driveOutput ∧ (enterSwitch g s).fan.holdEnd = s.fan.holdEnd
    ∧ (enterSwitch g s).fan.captureCounter = s.fan.captureCounter :=
  ⟨rfl, rfl, rfl, rfl, rfl, rfl, rfl, rfl, rfl, rfl, rfl, rfl, rfl, rfl, rfl, rfl, rfl, rfl, rfl, rfl,
    rfl, rfl, rfl, rfl, rfl, rfl, rfl⟩

@[simp] theorem enterRundown_keeps (g : Target) (s : State) :
    (enterRundown g s).now = s.now ∧ (enterRundown g s).inReset = s.inReset
    ∧ (enterRundown g s).strapsRead = s.strapsRead ∧ (enterRundown g s).stationIndex = s.stationIndex
    ∧ (enterRundown g s).lane = s.lane ∧ (enterRundown g s).roomClass = s.roomClass
    ∧ (enterRundown g s).cfg = s.cfg ∧ (enterRundown g s).clock = s.clock ∧ (enterRundown g s).climate = s.climate
    ∧ (enterRundown g s).frost = s.frost ∧ (enterRundown g s).humid = s.humid
    ∧ (enterRundown g s).demand = s.demand ∧ (enterRundown g s).filter = s.filter
    ∧ (enterRundown g s).peers = s.peers ∧ (enterRundown g s).house = s.house ∧ (enterRundown g s).line = s.line
    ∧ (enterRundown g s).ctl = s.ctl ∧ (enterRundown g s).loader = s.loader
    ∧ (enterRundown g s).pending = s.pending ∧ (enterRundown g s).seq.state = s.seq.state
    ∧ (enterRundown g s).seq.target = s.seq.target ∧ (enterRundown g s).seq.stallHistory = s.seq.stallHistory
    ∧ (enterRundown g s).fan.speed = s.fan.speed ∧ (enterRundown g s).fan.periods = s.fan.periods
    ∧ (enterRundown g s).fan.captureCounter = s.fan.captureCounter := by
  unfold enterRundown
  (repeat' split) <;> simp

@[simp] theorem beginReversing_keeps (g : Target) (s : State) :
    (beginReversing g s).now = s.now ∧ (beginReversing g s).inReset = s.inReset
    ∧ (beginReversing g s).strapsRead = s.strapsRead ∧ (beginReversing g s).stationIndex = s.stationIndex
    ∧ (beginReversing g s).lane = s.lane ∧ (beginReversing g s).roomClass = s.roomClass
    ∧ (beginReversing g s).cfg = s.cfg ∧ (beginReversing g s).clock = s.clock
    ∧ (beginReversing g s).climate = s.climate ∧ (beginReversing g s).peers = s.peers
    ∧ (beginReversing g s).house = s.house ∧ (beginReversing g s).loader = s.loader
    ∧ (beginReversing g s).pending = s.pending ∧ (beginReversing g s).fan.speed = s.fan.speed
    ∧ (beginReversing g s).fan.periods = s.fan.periods
    ∧ (beginReversing g s).fan.captureCounter = s.fan.captureCounter
    ∧ (beginReversing g s).frost.account = s.frost.account ∧ (beginReversing g s).demand.supply = s.demand.supply
    ∧ (beginReversing g s).line.active = s.line.active
    ∧ (beginReversing g s).line.transmission = s.line.transmission
    ∧ (beginReversing g s).line.assembly = s.line.assembly ∧ (beginReversing g s).line.idleTime = s.line.idleTime
    ∧ (beginReversing g s).line.busyUntil = s.line.busyUntil
    ∧ (beginReversing g s).line.modeSlot = s.line.modeSlot
    ∧ (beginReversing g s).line.boostSlot = s.line.boostSlot ∧ (beginReversing g s).filter.state = s.filter.state
    ∧ (beginReversing g s).filter.baseline = s.filter.baseline
    ∧ (beginReversing g s).filter.runHours = s.filter.runHours ∧ (beginReversing g s).ctl.steady = s.ctl.steady
    ∧ (beginReversing g s).ctl.levels = s.ctl.levels ∧ (beginReversing g s).ctl.stall = s.ctl.stall := by
  simp [beginReversing]

@[simp] theorem enterRest_keeps (s : State) :
    (enterRest s).now = s.now ∧ (enterRest s).inReset = s.inReset ∧ (enterRest s).strapsRead = s.strapsRead
    ∧ (enterRest s).stationIndex = s.stationIndex ∧ (enterRest s).lane = s.lane
    ∧ (enterRest s).roomClass = s.roomClass ∧ (enterRest s).cfg = s.cfg ∧ (enterRest s).clock = s.clock
    ∧ (enterRest s).climate = s.climate ∧ (enterRest s).peers = s.peers ∧ (enterRest s).house = s.house
    ∧ (enterRest s).loader = s.loader ∧ (enterRest s).pending = s.pending
    ∧ (enterRest s).fan.direction = s.fan.direction ∧ (enterRest s).fan.speed = s.fan.speed
    ∧ (enterRest s).fan.periods = s.fan.periods ∧ (enterRest s).fan.captureCounter = s.fan.captureCounter
    ∧ (enterRest s).frost.account = s.frost.account ∧ (enterRest s).demand.supply = s.demand.supply
    ∧ (enterRest s).line.active = s.line.active ∧ (enterRest s).line.transmission = s.line.transmission
    ∧ (enterRest s).line.assembly = s.line.assembly ∧ (enterRest s).line.idleTime = s.line.idleTime
    ∧ (enterRest s).line.busyUntil = s.line.busyUntil ∧ (enterRest s).line.modeSlot = s.line.modeSlot
    ∧ (enterRest s).line.boostSlot = s.line.boostSlot ∧ (enterRest s).filter.state = s.filter.state
    ∧ (enterRest s).filter.baseline = s.filter.baseline ∧ (enterRest s).filter.runHours = s.filter.runHours
    ∧ (enterRest s).ctl.steady = s.ctl.steady ∧ (enterRest s).ctl.levels = s.ctl.levels
    ∧ (enterRest s).ctl.stall = s.ctl.stall := by simp [enterRest]

@[simp] theorem completeReversal_keeps (g : Target) (s : State) :
    (completeReversal g s).now = s.now ∧ (completeReversal g s).inReset = s.inReset
    ∧ (completeReversal g s).strapsRead = s.strapsRead ∧ (completeReversal g s).stationIndex = s.stationIndex
    ∧ (completeReversal g s).lane = s.lane ∧ (completeReversal g s).roomClass = s.roomClass
    ∧ (completeReversal g s).cfg = s.cfg ∧ (completeReversal g s).clock = s.clock
    ∧ (completeReversal g s).peers = s.peers ∧ (completeReversal g s).house = s.house
    ∧ (completeReversal g s).loader = s.loader ∧ (completeReversal g s).pending = s.pending
    ∧ (completeReversal g s).fan.direction = s.fan.direction ∧ (completeReversal g s).fan.speed = s.fan.speed
    ∧ (completeReversal g s).fan.periods = s.fan.periods
    ∧ (completeReversal g s).fan.captureCounter = s.fan.captureCounter
    ∧ (completeReversal g s).frost.account = s.frost.account
    ∧ (completeReversal g s).demand.supply = s.demand.supply ∧ (completeReversal g s).line.active = s.line.active
    ∧ (completeReversal g s).line.transmission = s.line.transmission
    ∧ (completeReversal g s).line.assembly = s.line.assembly
    ∧ (completeReversal g s).line.idleTime = s.line.idleTime
    ∧ (completeReversal g s).line.busyUntil = s.line.busyUntil
    ∧ (completeReversal g s).line.modeSlot = s.line.modeSlot
    ∧ (completeReversal g s).line.boostSlot = s.line.boostSlot
    ∧ (completeReversal g s).climate.humidity = s.climate.humidity
    ∧ (completeReversal g s).climate.outer = s.climate.outer
    ∧ (completeReversal g s).climate.inner = s.climate.inner
    ∧ (completeReversal g s).filter.state = s.filter.state
    ∧ (completeReversal g s).filter.baseline = s.filter.baseline
    ∧ (completeReversal g s).filter.runHours = s.filter.runHours
    ∧ (completeReversal g s).ctl.steady = s.ctl.steady ∧ (completeReversal g s).ctl.levels = s.ctl.levels
    ∧ (completeReversal g s).ctl.stall = s.ctl.stall := by
  simp only [completeReversal]
  (repeat' split) <;> simp

@[simp] theorem completeAtSpeed_keeps (s : State) :
    (completeAtSpeed s).now = s.now ∧ (completeAtSpeed s).inReset = s.inReset
    ∧ (completeAtSpeed s).strapsRead = s.strapsRead ∧ (completeAtSpeed s).stationIndex = s.stationIndex
    ∧ (completeAtSpeed s).lane = s.lane ∧ (completeAtSpeed s).roomClass = s.roomClass
    ∧ (completeAtSpeed s).cfg = s.cfg ∧ (completeAtSpeed s).clock = s.clock ∧ (completeAtSpeed s).peers = s.peers
    ∧ (completeAtSpeed s).house = s.house ∧ (completeAtSpeed s).loader = s.loader
    ∧ (completeAtSpeed s).pending = s.pending ∧ (completeAtSpeed s).fan.direction = s.fan.direction
    ∧ (completeAtSpeed s).fan.speed = s.fan.speed ∧ (completeAtSpeed s).fan.periods = s.fan.periods
    ∧ (completeAtSpeed s).fan.captureCounter = s.fan.captureCounter
    ∧ (completeAtSpeed s).frost.account = s.frost.account ∧ (completeAtSpeed s).demand.supply = s.demand.supply
    ∧ (completeAtSpeed s).line.active = s.line.active
    ∧ (completeAtSpeed s).line.transmission = s.line.transmission
    ∧ (completeAtSpeed s).line.assembly = s.line.assembly ∧ (completeAtSpeed s).line.idleTime = s.line.idleTime
    ∧ (completeAtSpeed s).line.busyUntil = s.line.busyUntil ∧ (completeAtSpeed s).line.modeSlot = s.line.modeSlot
    ∧ (completeAtSpeed s).line.boostSlot = s.line.boostSlot
    ∧ (completeAtSpeed s).climate.humidity = s.climate.humidity
    ∧ (completeAtSpeed s).climate.outer = s.climate.outer ∧ (completeAtSpeed s).climate.inner = s.climate.inner
    ∧ (completeAtSpeed s).filter.state = s.filter.state ∧ (completeAtSpeed s).filter.baseline = s.filter.baseline
    ∧ (completeAtSpeed s).filter.runHours = s.filter.runHours ∧ (completeAtSpeed s).ctl.steady = s.ctl.steady
    ∧ (completeAtSpeed s).ctl.levels = s.ctl.levels ∧ (completeAtSpeed s).ctl.stall = s.ctl.stall := by
  unfold completeAtSpeed
  (repeat' split) <;> simp

@[simp] theorem enterSpinup_keeps (s : State) :
    (enterSpinup s).now = s.now ∧ (enterSpinup s).inReset = s.inReset ∧ (enterSpinup s).strapsRead = s.strapsRead
    ∧ (enterSpinup s).stationIndex = s.stationIndex ∧ (enterSpinup s).lane = s.lane
    ∧ (enterSpinup s).roomClass = s.roomClass ∧ (enterSpinup s).cfg = s.cfg ∧ (enterSpinup s).clock = s.clock
    ∧ (enterSpinup s).peers = s.peers ∧ (enterSpinup s).house = s.house ∧ (enterSpinup s).loader = s.loader
    ∧ (enterSpinup s).pending = s.pending ∧ (enterSpinup s).fan.direction = s.fan.direction
    ∧ (enterSpinup s).fan.speed = s.fan.speed ∧ (enterSpinup s).fan.periods = s.fan.periods
    ∧ (enterSpinup s).fan.captureCounter = s.fan.captureCounter ∧ (enterSpinup s).frost.account = s.frost.account
    ∧ (enterSpinup s).demand.supply = s.demand.supply ∧ (enterSpinup s).line.active = s.line.active
    ∧ (enterSpinup s).line.transmission = s.line.transmission ∧ (enterSpinup s).line.assembly = s.line.assembly
    ∧ (enterSpinup s).line.idleTime = s.line.idleTime ∧ (enterSpinup s).line.busyUntil = s.line.busyUntil
    ∧ (enterSpinup s).line.modeSlot = s.line.modeSlot ∧ (enterSpinup s).line.boostSlot = s.line.boostSlot
    ∧ (enterSpinup s).climate.humidity = s.climate.humidity ∧ (enterSpinup s).climate.outer = s.climate.outer
    ∧ (enterSpinup s).climate.inner = s.climate.inner ∧ (enterSpinup s).filter.state = s.filter.state
    ∧ (enterSpinup s).filter.baseline = s.filter.baseline ∧ (enterSpinup s).filter.runHours = s.filter.runHours
    ∧ (enterSpinup s).ctl.steady = s.ctl.steady ∧ (enterSpinup s).ctl.levels = s.ctl.levels
    ∧ (enterSpinup s).ctl.stall = s.ctl.stall := by simp [enterSpinup]

@[simp] theorem endRundown_keeps (s : State) :
    (endRundown s).now = s.now ∧ (endRundown s).inReset = s.inReset ∧ (endRundown s).strapsRead = s.strapsRead
    ∧ (endRundown s).stationIndex = s.stationIndex ∧ (endRundown s).lane = s.lane
    ∧ (endRundown s).roomClass = s.roomClass ∧ (endRundown s).cfg = s.cfg ∧ (endRundown s).clock = s.clock
    ∧ (endRundown s).climate = s.climate ∧ (endRundown s).frost = s.frost ∧ (endRundown s).humid = s.humid
    ∧ (endRundown s).demand = s.demand ∧ (endRundown s).filter = s.filter ∧ (endRundown s).peers = s.peers
    ∧ (endRundown s).house = s.house ∧ (endRundown s).line = s.line ∧ (endRundown s).ctl = s.ctl
    ∧ (endRundown s).loader = s.loader ∧ (endRundown s).pending = s.pending
    ∧ (endRundown s).seq.state = s.seq.state ∧ (endRundown s).seq.target = s.seq.target
    ∧ (endRundown s).seq.stallHistory = s.seq.stallHistory ∧ (endRundown s).fan.speed = s.fan.speed
    ∧ (endRundown s).fan.periods = s.fan.periods ∧ (endRundown s).fan.driveOutput = s.fan.driveOutput
    ∧ (endRundown s).fan.holdEnd = s.fan.holdEnd ∧ (endRundown s).fan.captureCounter = s.fan.captureCounter := by
  unfold endRundown
  (repeat' split) <;> simp

@[simp] theorem replaceTarget_keeps (g : Target) (s : State) :
    (replaceTarget g s).now = s.now ∧ (replaceTarget g s).inReset = s.inReset
    ∧ (replaceTarget g s).strapsRead = s.strapsRead ∧ (replaceTarget g s).stationIndex = s.stationIndex
    ∧ (replaceTarget g s).lane = s.lane ∧ (replaceTarget g s).roomClass = s.roomClass
    ∧ (replaceTarget g s).cfg = s.cfg ∧ (replaceTarget g s).clock = s.clock
    ∧ (replaceTarget g s).climate = s.climate ∧ (replaceTarget g s).peers = s.peers
    ∧ (replaceTarget g s).house = s.house ∧ (replaceTarget g s).loader = s.loader
    ∧ (replaceTarget g s).pending = s.pending ∧ (replaceTarget g s).fan.direction = s.fan.direction
    ∧ (replaceTarget g s).fan.speed = s.fan.speed ∧ (replaceTarget g s).fan.periods = s.fan.periods
    ∧ (replaceTarget g s).fan.driveOutput = s.fan.driveOutput ∧ (replaceTarget g s).fan.holdEnd = s.fan.holdEnd
    ∧ (replaceTarget g s).fan.captureCounter = s.fan.captureCounter
    ∧ (replaceTarget g s).frost.account = s.frost.account ∧ (replaceTarget g s).demand.supply = s.demand.supply
    ∧ (replaceTarget g s).line.active = s.line.active
    ∧ (replaceTarget g s).line.transmission = s.line.transmission
    ∧ (replaceTarget g s).line.assembly = s.line.assembly ∧ (replaceTarget g s).line.idleTime = s.line.idleTime
    ∧ (replaceTarget g s).line.busyUntil = s.line.busyUntil ∧ (replaceTarget g s).line.modeSlot = s.line.modeSlot
    ∧ (replaceTarget g s).line.boostSlot = s.line.boostSlot ∧ (replaceTarget g s).filter.state = s.filter.state
    ∧ (replaceTarget g s).filter.baseline = s.filter.baseline
    ∧ (replaceTarget g s).filter.runHours = s.filter.runHours ∧ (replaceTarget g s).ctl.steady = s.ctl.steady
    ∧ (replaceTarget g s).ctl.levels = s.ctl.levels ∧ (replaceTarget g s).ctl.stall = s.ctl.stall := by
  simp [replaceTarget]

@[simp] theorem retarget_keeps (g : Target) (s : State) :
    (retarget g s).now = s.now ∧ (retarget g s).inReset = s.inReset ∧ (retarget g s).strapsRead = s.strapsRead
    ∧ (retarget g s).stationIndex = s.stationIndex ∧ (retarget g s).lane = s.lane
    ∧ (retarget g s).roomClass = s.roomClass ∧ (retarget g s).cfg = s.cfg ∧ (retarget g s).clock = s.clock
    ∧ (retarget g s).climate = s.climate ∧ (retarget g s).peers = s.peers ∧ (retarget g s).house = s.house
    ∧ (retarget g s).loader = s.loader ∧ (retarget g s).pending = s.pending
    ∧ (retarget g s).fan.speed = s.fan.speed ∧ (retarget g s).fan.periods = s.fan.periods
    ∧ (retarget g s).fan.captureCounter = s.fan.captureCounter ∧ (retarget g s).frost.account = s.frost.account
    ∧ (retarget g s).demand.supply = s.demand.supply ∧ (retarget g s).line.active = s.line.active
    ∧ (retarget g s).line.transmission = s.line.transmission ∧ (retarget g s).line.assembly = s.line.assembly
    ∧ (retarget g s).line.idleTime = s.line.idleTime ∧ (retarget g s).line.busyUntil = s.line.busyUntil
    ∧ (retarget g s).line.modeSlot = s.line.modeSlot ∧ (retarget g s).line.boostSlot = s.line.boostSlot
    ∧ (retarget g s).filter.state = s.filter.state ∧ (retarget g s).filter.baseline = s.filter.baseline
    ∧ (retarget g s).filter.runHours = s.filter.runHours ∧ (retarget g s).ctl.steady = s.ctl.steady
    ∧ (retarget g s).ctl.levels = s.ctl.levels ∧ (retarget g s).ctl.stall = s.ctl.stall := by
  unfold retarget
  (repeat' split) <;> simp

@[simp] theorem enterDirect_keeps (st : SeqState) (s : State) :
    (enterDirect st s).now = s.now ∧ (enterDirect st s).inReset = s.inReset
    ∧ (enterDirect st s).strapsRead = s.strapsRead ∧ (enterDirect st s).stationIndex = s.stationIndex
    ∧ (enterDirect st s).lane = s.lane ∧ (enterDirect st s).roomClass = s.roomClass
    ∧ (enterDirect st s).cfg = s.cfg ∧ (enterDirect st s).clock = s.clock ∧ (enterDirect st s).climate = s.climate
    ∧ (enterDirect st s).peers = s.peers ∧ (enterDirect st s).house = s.house
    ∧ (enterDirect st s).loader = s.loader ∧ (enterDirect st s).pending = s.pending
    ∧ (enterDirect st s).fan.direction = s.fan.direction ∧ (enterDirect st s).fan.speed = s.fan.speed
    ∧ (enterDirect st s).fan.periods = s.fan.periods ∧ (enterDirect st s).fan.driveOutput = s.fan.driveOutput
    ∧ (enterDirect st s).fan.holdEnd = s.fan.holdEnd
    ∧ (enterDirect st s).fan.captureCounter = s.fan.captureCounter
    ∧ (enterDirect st s).frost.account = s.frost.account ∧ (enterDirect st s).demand.supply = s.demand.supply
    ∧ (enterDirect st s).line.active = s.line.active ∧ (enterDirect st s).line.transmission = s.line.transmission
    ∧ (enterDirect st s).line.assembly = s.line.assembly ∧ (enterDirect st s).line.idleTime = s.line.idleTime
    ∧ (enterDirect st s).line.busyUntil = s.line.busyUntil ∧ (enterDirect st s).line.modeSlot = s.line.modeSlot
    ∧ (enterDirect st s).line.boostSlot = s.line.boostSlot ∧ (enterDirect st s).filter.state = s.filter.state
    ∧ (enterDirect st s).filter.baseline = s.filter.baseline
    ∧ (enterDirect st s).filter.runHours = s.filter.runHours ∧ (enterDirect st s).ctl.steady = s.ctl.steady
    ∧ (enterDirect st s).ctl.levels = s.ctl.levels ∧ (enterDirect st s).ctl.stall = s.ctl.stall := by
  simp [enterDirect]

@[simp] theorem enterListen_keeps (s : State) :
    (enterListen s).now = s.now ∧ (enterListen s).inReset = s.inReset ∧ (enterListen s).strapsRead = s.strapsRead
    ∧ (enterListen s).stationIndex = s.stationIndex ∧ (enterListen s).lane = s.lane
    ∧ (enterListen s).roomClass = s.roomClass ∧ (enterListen s).cfg = s.cfg ∧ (enterListen s).climate = s.climate
    ∧ (enterListen s).peers = s.peers ∧ (enterListen s).house = s.house ∧ (enterListen s).loader = s.loader
    ∧ (enterListen s).pending = s.pending ∧ (enterListen s).fan.direction = s.fan.direction
    ∧ (enterListen s).fan.speed = s.fan.speed ∧ (enterListen s).fan.periods = s.fan.periods
    ∧ (enterListen s).fan.driveOutput = s.fan.driveOutput ∧ (enterListen s).fan.holdEnd = s.fan.holdEnd
    ∧ (enterListen s).fan.captureCounter = s.fan.captureCounter ∧ (enterListen s).clock.running = s.clock.running
    ∧ (enterListen s).clock.c = s.clock.c ∧ (enterListen s).clock.length = s.clock.length
    ∧ (enterListen s).clock.heardLength = s.clock.heardLength ∧ (enterListen s).frost.account = s.frost.account
    ∧ (enterListen s).demand.supply = s.demand.supply ∧ (enterListen s).line.active = s.line.active
    ∧ (enterListen s).line.transmission = s.line.transmission ∧ (enterListen s).line.assembly = s.line.assembly
    ∧ (enterListen s).line.idleTime = s.line.idleTime ∧ (enterListen s).line.busyUntil = s.line.busyUntil
    ∧ (enterListen s).line.modeSlot = s.line.modeSlot ∧ (enterListen s).line.boostSlot = s.line.boostSlot
    ∧ (enterListen s).filter.state = s.filter.state ∧ (enterListen s).filter.baseline = s.filter.baseline
    ∧ (enterListen s).filter.runHours = s.filter.runHours ∧ (enterListen s).ctl.steady = s.ctl.steady
    ∧ (enterListen s).ctl.levels = s.ctl.levels ∧ (enterListen s).ctl.stall = s.ctl.stall := by
  simp [enterListen]

@[simp] theorem enterPaused_keeps (resume : Bool) (s : State) :
    (enterPaused resume s).now = s.now ∧ (enterPaused resume s).inReset = s.inReset
    ∧ (enterPaused resume s).strapsRead = s.strapsRead ∧ (enterPaused resume s).stationIndex = s.stationIndex
    ∧ (enterPaused resume s).lane = s.lane ∧ (enterPaused resume s).roomClass = s.roomClass
    ∧ (enterPaused resume s).cfg = s.cfg ∧ (enterPaused resume s).clock = s.clock
    ∧ (enterPaused resume s).climate = s.climate ∧ (enterPaused resume s).peers = s.peers
    ∧ (enterPaused resume s).house = s.house ∧ (enterPaused resume s).loader = s.loader
    ∧ (enterPaused resume s).pending = s.pending ∧ (enterPaused resume s).fan.direction = s.fan.direction
    ∧ (enterPaused resume s).fan.speed = s.fan.speed ∧ (enterPaused resume s).fan.periods = s.fan.periods
    ∧ (enterPaused resume s).fan.captureCounter = s.fan.captureCounter
    ∧ (enterPaused resume s).frost.account = s.frost.account
    ∧ (enterPaused resume s).demand.supply = s.demand.supply ∧ (enterPaused resume s).line.active = s.line.active
    ∧ (enterPaused resume s).line.transmission = s.line.transmission
    ∧ (enterPaused resume s).line.assembly = s.line.assembly
    ∧ (enterPaused resume s).line.idleTime = s.line.idleTime
    ∧ (enterPaused resume s).line.busyUntil = s.line.busyUntil
    ∧ (enterPaused resume s).line.modeSlot = s.line.modeSlot
    ∧ (enterPaused resume s).line.boostSlot = s.line.boostSlot
    ∧ (enterPaused resume s).filter.state = s.filter.state
    ∧ (enterPaused resume s).filter.baseline = s.filter.baseline
    ∧ (enterPaused resume s).filter.runHours = s.filter.runHours
    ∧ (enterPaused resume s).ctl.steady = s.ctl.steady ∧ (enterPaused resume s).ctl.levels = s.ctl.levels
    ∧ (enterPaused resume s).ctl.stall = s.ctl.stall := by
  simp only [enterPaused]
  (repeat' split) <;> simp

@[simp] theorem enterStopped_keeps (s : State) :
    (enterStopped s).now = s.now ∧ (enterStopped s).inReset = s.inReset
    ∧ (enterStopped s).strapsRead = s.strapsRead ∧ (enterStopped s).stationIndex = s.stationIndex
    ∧ (enterStopped s).lane = s.lane ∧ (enterStopped s).roomClass = s.roomClass ∧ (enterStopped s).cfg = s.cfg
    ∧ (enterStopped s).peers = s.peers ∧ (enterStopped s).house = s.house ∧ (enterStopped s).loader = s.loader
    ∧ (enterStopped s).pending = s.pending ∧ (enterStopped s).fan.direction = s.fan.direction
    ∧ (enterStopped s).fan.speed = s.fan.speed ∧ (enterStopped s).fan.periods = s.fan.periods
    ∧ (enterStopped s).fan.captureCounter = s.fan.captureCounter ∧ (enterStopped s).clock.c = s.clock.c
    ∧ (enterStopped s).clock.length = s.clock.length ∧ (enterStopped s).frost.account = s.frost.account
    ∧ (enterStopped s).demand.supply = s.demand.supply ∧ (enterStopped s).line.active = s.line.active
    ∧ (enterStopped s).line.transmission = s.line.transmission ∧ (enterStopped s).line.assembly = s.line.assembly
    ∧ (enterStopped s).line.idleTime = s.line.idleTime ∧ (enterStopped s).line.busyUntil = s.line.busyUntil
    ∧ (enterStopped s).line.modeSlot = s.line.modeSlot ∧ (enterStopped s).line.boostSlot = s.line.boostSlot
    ∧ (enterStopped s).climate.humidity = s.climate.humidity ∧ (enterStopped s).climate.outer = s.climate.outer
    ∧ (enterStopped s).climate.inner = s.climate.inner ∧ (enterStopped s).filter.state = s.filter.state
    ∧ (enterStopped s).filter.baseline = s.filter.baseline ∧ (enterStopped s).filter.runHours = s.filter.runHours
    ∧ (enterStopped s).ctl.levels = s.ctl.levels := by simp [enterStopped]

@[simp] theorem takeStall_keeps (s : State) :
    (takeStall s).now = s.now ∧ (takeStall s).inReset = s.inReset ∧ (takeStall s).strapsRead = s.strapsRead
    ∧ (takeStall s).stationIndex = s.stationIndex ∧ (takeStall s).lane = s.lane
    ∧ (takeStall s).roomClass = s.roomClass ∧ (takeStall s).cfg = s.cfg ∧ (takeStall s).peers = s.peers
    ∧ (takeStall s).house = s.house ∧ (takeStall s).loader = s.loader ∧ (takeStall s).pending = s.pending
    ∧ (takeStall s).fan.direction = s.fan.direction ∧ (takeStall s).fan.speed = s.fan.speed
    ∧ (takeStall s).fan.periods = s.fan.periods ∧ (takeStall s).fan.captureCounter = s.fan.captureCounter
    ∧ (takeStall s).clock.c = s.clock.c ∧ (takeStall s).clock.length = s.clock.length
    ∧ (takeStall s).frost.account = s.frost.account ∧ (takeStall s).demand.supply = s.demand.supply
    ∧ (takeStall s).line.active = s.line.active ∧ (takeStall s).line.transmission = s.line.transmission
    ∧ (takeStall s).line.assembly = s.line.assembly ∧ (takeStall s).line.idleTime = s.line.idleTime
    ∧ (takeStall s).line.busyUntil = s.line.busyUntil ∧ (takeStall s).line.modeSlot = s.line.modeSlot
    ∧ (takeStall s).line.boostSlot = s.line.boostSlot ∧ (takeStall s).climate.humidity = s.climate.humidity
    ∧ (takeStall s).climate.outer = s.climate.outer ∧ (takeStall s).climate.inner = s.climate.inner
    ∧ (takeStall s).filter.state = s.filter.state ∧ (takeStall s).filter.baseline = s.filter.baseline
    ∧ (takeStall s).filter.runHours = s.filter.runHours ∧ (takeStall s).ctl.levels = s.ctl.levels := by
  simp only [takeStall]
  (repeat' split) <;> simp

@[simp] theorem takeDefrostOrder_keeps (s : State) :
    (takeDefrostOrder s).now = s.now ∧ (takeDefrostOrder s).inReset = s.inReset
    ∧ (takeDefrostOrder s).strapsRead = s.strapsRead ∧ (takeDefrostOrder s).stationIndex = s.stationIndex
    ∧ (takeDefrostOrder s).lane = s.lane ∧ (takeDefrostOrder s).roomClass = s.roomClass
    ∧ (takeDefrostOrder s).cfg = s.cfg ∧ (takeDefrostOrder s).clock = s.clock
    ∧ (takeDefrostOrder s).climate = s.climate ∧ (takeDefrostOrder s).peers = s.peers
    ∧ (takeDefrostOrder s).house = s.house ∧ (takeDefrostOrder s).loader = s.loader
    ∧ (takeDefrostOrder s).pending = s.pending ∧ (takeDefrostOrder s).fan.speed = s.fan.speed
    ∧ (takeDefrostOrder s).fan.periods = s.fan.periods
    ∧ (takeDefrostOrder s).fan.captureCounter = s.fan.captureCounter
    ∧ (takeDefrostOrder s).frost.account = s.frost.account ∧ (takeDefrostOrder s).demand.supply = s.demand.supply
    ∧ (takeDefrostOrder s).line.active = s.line.active
    ∧ (takeDefrostOrder s).line.transmission = s.line.transmission
    ∧ (takeDefrostOrder s).line.assembly = s.line.assembly ∧ (takeDefrostOrder s).line.idleTime = s.line.idleTime
    ∧ (takeDefrostOrder s).line.busyUntil = s.line.busyUntil
    ∧ (takeDefrostOrder s).line.modeSlot = s.line.modeSlot
    ∧ (takeDefrostOrder s).line.boostSlot = s.line.boostSlot ∧ (takeDefrostOrder s).filter.state = s.filter.state
    ∧ (takeDefrostOrder s).filter.baseline = s.filter.baseline
    ∧ (takeDefrostOrder s).filter.runHours = s.filter.runHours ∧ (takeDefrostOrder s).ctl.steady = s.ctl.steady
    ∧ (takeDefrostOrder s).ctl.levels = s.ctl.levels ∧ (takeDefrostOrder s).ctl.stall = s.ctl.stall := by
  unfold takeDefrostOrder
  (repeat' split) <;> simp

@[simp] theorem takeDefrostEnd_keeps (s : State) :
    (takeDefrostEnd s).now = s.now ∧ (takeDefrostEnd s).inReset = s.inReset
    ∧ (takeDefrostEnd s).strapsRead = s.strapsRead ∧ (takeDefrostEnd s).stationIndex = s.stationIndex
    ∧ (takeDefrostEnd s).lane = s.lane ∧ (takeDefrostEnd s).roomClass = s.roomClass
    ∧ (takeDefrostEnd s).cfg = s.cfg ∧ (takeDefrostEnd s).clock = s.clock ∧ (takeDefrostEnd s).climate = s.climate
    ∧ (takeDefrostEnd s).peers = s.peers ∧ (takeDefrostEnd s).house = s.house
    ∧ (takeDefrostEnd s).loader = s.loader ∧ (takeDefrostEnd s).pending = s.pending
    ∧ (takeDefrostEnd s).fan.speed = s.fan.speed ∧ (takeDefrostEnd s).fan.periods = s.fan.periods
    ∧ (takeDefrostEnd s).fan.captureCounter = s.fan.captureCounter
    ∧ (takeDefrostEnd s).frost.account = s.frost.account ∧ (takeDefrostEnd s).demand.supply = s.demand.supply
    ∧ (takeDefrostEnd s).line.active = s.line.active ∧ (takeDefrostEnd s).line.transmission = s.line.transmission
    ∧ (takeDefrostEnd s).line.assembly = s.line.assembly ∧ (takeDefrostEnd s).line.idleTime = s.line.idleTime
    ∧ (takeDefrostEnd s).line.busyUntil = s.line.busyUntil ∧ (takeDefrostEnd s).line.modeSlot = s.line.modeSlot
    ∧ (takeDefrostEnd s).line.boostSlot = s.line.boostSlot ∧ (takeDefrostEnd s).filter.state = s.filter.state
    ∧ (takeDefrostEnd s).filter.baseline = s.filter.baseline
    ∧ (takeDefrostEnd s).filter.runHours = s.filter.runHours ∧ (takeDefrostEnd s).ctl.steady = s.ctl.steady
    ∧ (takeDefrostEnd s).ctl.levels = s.ctl.levels ∧ (takeDefrostEnd s).ctl.stall = s.ctl.stall := by
  unfold takeDefrostEnd
  (repeat' split) <;> simp

@[simp] theorem restExit_keeps (s : State) :
    (restExit s).now = s.now ∧ (restExit s).inReset = s.inReset ∧ (restExit s).strapsRead = s.strapsRead
    ∧ (restExit s).stationIndex = s.stationIndex ∧ (restExit s).lane = s.lane
    ∧ (restExit s).roomClass = s.roomClass ∧ (restExit s).cfg = s.cfg ∧ (restExit s).clock = s.clock
    ∧ (restExit s).fan = s.fan ∧ (restExit s).climate = s.climate ∧ (restExit s).frost = s.frost
    ∧ (restExit s).humid = s.humid ∧ (restExit s).demand = s.demand ∧ (restExit s).filter = s.filter
    ∧ (restExit s).peers = s.peers ∧ (restExit s).house = s.house ∧ (restExit s).line = s.line
    ∧ (restExit s).ctl = s.ctl ∧ (restExit s).loader = s.loader ∧ (restExit s).pending = s.pending
    ∧ (restExit s).seq.state = s.seq.state ∧ (restExit s).seq.phase = s.seq.phase
    ∧ (restExit s).seq.target = s.seq.target ∧ (restExit s).seq.stallHistory = s.seq.stallHistory := by
  unfold restExit
  (repeat' split) <;> simp

@[simp] theorem offToggle_keeps (s : State) :
    (offToggle s).now = s.now ∧ (offToggle s).inReset = s.inReset ∧ (offToggle s).strapsRead = s.strapsRead
    ∧ (offToggle s).stationIndex = s.stationIndex ∧ (offToggle s).lane = s.lane
    ∧ (offToggle s).roomClass = s.roomClass ∧ (offToggle s).cfg = s.cfg ∧ (offToggle s).clock = s.clock
    ∧ (offToggle s).climate = s.climate ∧ (offToggle s).peers = s.peers ∧ (offToggle s).house = s.house
    ∧ (offToggle s).loader = s.loader ∧ (offToggle s).pending = s.pending
    ∧ (offToggle s).fan.direction = s.fan.direction ∧ (offToggle s).fan.speed = s.fan.speed
    ∧ (offToggle s).fan.periods = s.fan.periods ∧ (offToggle s).fan.captureCounter = s.fan.captureCounter
    ∧ (offToggle s).frost.account = s.frost.account ∧ (offToggle s).demand.supply = s.demand.supply
    ∧ (offToggle s).line.active = s.line.active ∧ (offToggle s).line.transmission = s.line.transmission
    ∧ (offToggle s).line.assembly = s.line.assembly ∧ (offToggle s).line.idleTime = s.line.idleTime
    ∧ (offToggle s).line.busyUntil = s.line.busyUntil ∧ (offToggle s).line.modeSlot = s.line.modeSlot
    ∧ (offToggle s).line.boostSlot = s.line.boostSlot ∧ (offToggle s).filter.state = s.filter.state
    ∧ (offToggle s).filter.baseline = s.filter.baseline ∧ (offToggle s).filter.runHours = s.filter.runHours
    ∧ (offToggle s).ctl.steady = s.ctl.steady ∧ (offToggle s).ctl.levels = s.ctl.levels
    ∧ (offToggle s).ctl.stall = s.ctl.stall := by
  unfold offToggle
  (repeat' split) <;> simp

@[simp] theorem release_keeps (s : State) :
    (release s).now = s.now ∧ (release s).inReset = s.inReset ∧ (release s).strapsRead = s.strapsRead
    ∧ (release s).stationIndex = s.stationIndex ∧ (release s).lane = s.lane ∧ (release s).roomClass = s.roomClass
    ∧ (release s).cfg = s.cfg ∧ (release s).climate = s.climate ∧ (release s).peers = s.peers
    ∧ (release s).house = s.house ∧ (release s).loader = s.loader ∧ (release s).pending = s.pending
    ∧ (release s).fan.direction = s.fan.direction ∧ (release s).fan.speed = s.fan.speed
    ∧ (release s).fan.periods = s.fan.periods ∧ (release s).fan.driveOutput = s.fan.driveOutput
    ∧ (release s).fan.holdEnd = s.fan.holdEnd ∧ (release s).fan.captureCounter = s.fan.captureCounter
    ∧ (release s).clock.running = s.clock.running ∧ (release s).clock.c = s.clock.c
    ∧ (release s).clock.length = s.clock.length ∧ (release s).clock.heardLength = s.clock.heardLength
    ∧ (release s).frost.account = s.frost.account ∧ (release s).demand.supply = s.demand.supply
    ∧ (release s).line.active = s.line.active ∧ (release s).line.transmission = s.line.transmission
    ∧ (release s).line.assembly = s.line.assembly ∧ (release s).line.idleTime = s.line.idleTime
    ∧ (release s).line.busyUntil = s.line.busyUntil ∧ (release s).line.modeSlot = s.line.modeSlot
    ∧ (release s).line.boostSlot = s.line.boostSlot ∧ (release s).filter.state = s.filter.state
    ∧ (release s).filter.baseline = s.filter.baseline ∧ (release s).filter.runHours = s.filter.runHours
    ∧ (release s).ctl.levels = s.ctl.levels := by
  unfold release
  (repeat' split) <;> simp

@[simp] theorem wake_keeps (s : State) :
    (wake s).now = s.now ∧ (wake s).inReset = s.inReset ∧ (wake s).strapsRead = s.strapsRead
    ∧ (wake s).stationIndex = s.stationIndex ∧ (wake s).lane = s.lane ∧ (wake s).roomClass = s.roomClass
    ∧ (wake s).cfg = s.cfg ∧ (wake s).clock = s.clock ∧ (wake s).fan = s.fan ∧ (wake s).climate = s.climate
    ∧ (wake s).frost = s.frost ∧ (wake s).humid = s.humid ∧ (wake s).demand = s.demand
    ∧ (wake s).filter = s.filter ∧ (wake s).peers = s.peers ∧ (wake s).house = s.house ∧ (wake s).line = s.line
    ∧ (wake s).ctl = s.ctl ∧ (wake s).loader = s.loader ∧ (wake s).pending = s.pending
    ∧ (wake s).seq.state = s.seq.state ∧ (wake s).seq.phase = s.seq.phase ∧ (wake s).seq.target = s.seq.target
    ∧ (wake s).seq.stallHistory = s.seq.stallHistory := by simp [wake]

@[simp] theorem sequencerOnNotice_keeps (d : Dir) (s : State) :
    (sequencerOnNotice d s).now = s.now ∧ (sequencerOnNotice d s).inReset = s.inReset
    ∧ (sequencerOnNotice d s).strapsRead = s.strapsRead ∧ (sequencerOnNotice d s).stationIndex = s.stationIndex
    ∧ (sequencerOnNotice d s).lane = s.lane ∧ (sequencerOnNotice d s).roomClass = s.roomClass
    ∧ (sequencerOnNotice d s).cfg = s.cfg ∧ (sequencerOnNotice d s).clock = s.clock
    ∧ (sequencerOnNotice d s).climate = s.climate ∧ (sequencerOnNotice d s).peers = s.peers
    ∧ (sequencerOnNotice d s).house = s.house ∧ (sequencerOnNotice d s).loader = s.loader
    ∧ (sequencerOnNotice d s).pending = s.pending ∧ (sequencerOnNotice d s).fan.speed = s.fan.speed
    ∧ (sequencerOnNotice d s).fan.periods = s.fan.periods
    ∧ (sequencerOnNotice d s).fan.captureCounter = s.fan.captureCounter
    ∧ (sequencerOnNotice d s).frost.account = s.frost.account
    ∧ (sequencerOnNotice d s).demand.supply = s.demand.supply
    ∧ (sequencerOnNotice d s).line.active = s.line.active
    ∧ (sequencerOnNotice d s).line.transmission = s.line.transmission
    ∧ (sequencerOnNotice d s).line.assembly = s.line.assembly
    ∧ (sequencerOnNotice d s).line.idleTime = s.line.idleTime
    ∧ (sequencerOnNotice d s).line.busyUntil = s.line.busyUntil
    ∧ (sequencerOnNotice d s).line.modeSlot = s.line.modeSlot
    ∧ (sequencerOnNotice d s).line.boostSlot = s.line.boostSlot
    ∧ (sequencerOnNotice d s).filter.state = s.filter.state
    ∧ (sequencerOnNotice d s).filter.baseline = s.filter.baseline
    ∧ (sequencerOnNotice d s).filter.runHours = s.filter.runHours
    ∧ (sequencerOnNotice d s).ctl.steady = s.ctl.steady ∧ (sequencerOnNotice d s).ctl.levels = s.ctl.levels
    ∧ (sequencerOnNotice d s).ctl.stall = s.ctl.stall := by
  unfold sequencerOnNotice
  (repeat' split) <;> simp

@[simp] theorem settleAtBoundary_keeps (s : State) :
    (settleAtBoundary s).now = s.now ∧ (settleAtBoundary s).inReset = s.inReset
    ∧ (settleAtBoundary s).strapsRead = s.strapsRead ∧ (settleAtBoundary s).stationIndex = s.stationIndex
    ∧ (settleAtBoundary s).lane = s.lane ∧ (settleAtBoundary s).roomClass = s.roomClass
    ∧ (settleAtBoundary s).cfg = s.cfg ∧ (settleAtBoundary s).clock = s.clock ∧ (settleAtBoundary s).fan = s.fan
    ∧ (settleAtBoundary s).climate = s.climate ∧ (settleAtBoundary s).frost = s.frost
    ∧ (settleAtBoundary s).humid = s.humid ∧ (settleAtBoundary s).demand = s.demand
    ∧ (settleAtBoundary s).filter = s.filter ∧ (settleAtBoundary s).peers = s.peers
    ∧ (settleAtBoundary s).house = s.house ∧ (settleAtBoundary s).line = s.line ∧ (settleAtBoundary s).ctl = s.ctl
    ∧ (settleAtBoundary s).loader = s.loader ∧ (settleAtBoundary s).pending = s.pending
    ∧ (settleAtBoundary s).seq.state = s.seq.state ∧ (settleAtBoundary s).seq.phase = s.seq.phase
    ∧ (settleAtBoundary s).seq.target = s.seq.target ∧ (settleAtBoundary s).seq.stallHistory = s.seq.stallHistory :=
  ⟨rfl, rfl, rfl, rfl, rfl, rfl, rfl, rfl, rfl, rfl, rfl, rfl, rfl, rfl, rfl, rfl, rfl, rfl, rfl, rfl,
    rfl, rfl, rfl, rfl⟩

@[simp] theorem rejoinAtBoundary_keeps (s : State) :
    (rejoinAtBoundary s).now = s.now ∧ (rejoinAtBoundary s).inReset = s.inReset
    ∧ (rejoinAtBoundary s).strapsRead = s.strapsRead ∧ (rejoinAtBoundary s).stationIndex = s.stationIndex
    ∧ (rejoinAtBoundary s).lane = s.lane ∧ (rejoinAtBoundary s).roomClass = s.roomClass
    ∧ (rejoinAtBoundary s).cfg = s.cfg ∧ (rejoinAtBoundary s).clock = s.clock
    ∧ (rejoinAtBoundary s).climate = s.climate ∧ (rejoinAtBoundary s).peers = s.peers
    ∧ (rejoinAtBoundary s).house = s.house ∧ (rejoinAtBoundary s).loader = s.loader
    ∧ (rejoinAtBoundary s).pending = s.pending ∧ (rejoinAtBoundary s).fan.speed = s.fan.speed
    ∧ (rejoinAtBoundary s).fan.periods = s.fan.periods
    ∧ (rejoinAtBoundary s).fan.captureCounter = s.fan.captureCounter
    ∧ (rejoinAtBoundary s).frost.account = s.frost.account ∧ (rejoinAtBoundary s).demand.supply = s.demand.supply
    ∧ (rejoinAtBoundary s).line.active = s.line.active
    ∧ (rejoinAtBoundary s).line.transmission = s.line.transmission
    ∧ (rejoinAtBoundary s).line.assembly = s.line.assembly ∧ (rejoinAtBoundary s).line.idleTime = s.line.idleTime
    ∧ (rejoinAtBoundary s).line.busyUntil = s.line.busyUntil
    ∧ (rejoinAtBoundary s).line.modeSlot = s.line.modeSlot
    ∧ (rejoinAtBoundary s).line.boostSlot = s.line.boostSlot ∧ (rejoinAtBoundary s).filter.state = s.filter.state
    ∧ (rejoinAtBoundary s).filter.baseline = s.filter.baseline
    ∧ (rejoinAtBoundary s).filter.runHours = s.filter.runHours ∧ (rejoinAtBoundary s).ctl.steady = s.ctl.steady
    ∧ (rejoinAtBoundary s).ctl.levels = s.ctl.levels ∧ (rejoinAtBoundary s).ctl.stall = s.ctl.stall := by
  unfold rejoinAtBoundary
  (repeat' split) <;> simp

@[simp] theorem cycleAtBoundary_keeps (d : Dir) (s : State) :
    (cycleAtBoundary d s).now = s.now ∧ (cycleAtBoundary d s).inReset = s.inReset
    ∧ (cycleAtBoundary d s).strapsRead = s.strapsRead ∧ (cycleAtBoundary d s).stationIndex = s.stationIndex
    ∧ (cycleAtBoundary d s).lane = s.lane ∧ (cycleAtBoundary d s).roomClass = s.roomClass
    ∧ (cycleAtBoundary d s).cfg = s.cfg ∧ (cycleAtBoundary d s).clock = s.clock
    ∧ (cycleAtBoundary d s).climate = s.climate ∧ (cycleAtBoundary d s).peers = s.peers
    ∧ (cycleAtBoundary d s).house = s.house ∧ (cycleAtBoundary d s).loader = s.loader
    ∧ (cycleAtBoundary d s).pending = s.pending ∧ (cycleAtBoundary d s).fan.speed = s.fan.speed
    ∧ (cycleAtBoundary d s).fan.periods = s.fan.periods
    ∧ (cycleAtBoundary d s).fan.captureCounter = s.fan.captureCounter
    ∧ (cycleAtBoundary d s).frost.account = s.frost.account
    ∧ (cycleAtBoundary d s).demand.supply = s.demand.supply ∧ (cycleAtBoundary d s).line.active = s.line.active
    ∧ (cycleAtBoundary d s).line.transmission = s.line.transmission
    ∧ (cycleAtBoundary d s).line.assembly = s.line.assembly
    ∧ (cycleAtBoundary d s).line.idleTime = s.line.idleTime
    ∧ (cycleAtBoundary d s).line.busyUntil = s.line.busyUntil
    ∧ (cycleAtBoundary d s).line.modeSlot = s.line.modeSlot
    ∧ (cycleAtBoundary d s).line.boostSlot = s.line.boostSlot
    ∧ (cycleAtBoundary d s).filter.state = s.filter.state
    ∧ (cycleAtBoundary d s).filter.baseline = s.filter.baseline
    ∧ (cycleAtBoundary d s).filter.runHours = s.filter.runHours ∧ (cycleAtBoundary d s).ctl.steady = s.ctl.steady
    ∧ (cycleAtBoundary d s).ctl.levels = s.ctl.levels ∧ (cycleAtBoundary d s).ctl.stall = s.ctl.stall := by
  unfold cycleAtBoundary
  (repeat' split) <;> simp

@[simp] theorem sequencerAtBoundary_keeps (s : State) :
    (sequencerAtBoundary s).now = s.now ∧ (sequencerAtBoundary s).inReset = s.inReset
    ∧ (sequencerAtBoundary s).strapsRead = s.strapsRead ∧ (sequencerAtBoundary s).stationIndex = s.stationIndex
    ∧ (sequencerAtBoundary s).lane = s.lane ∧ (sequencerAtBoundary s).roomClass = s.roomClass
    ∧ (sequencerAtBoundary s).cfg = s.cfg ∧ (sequencerAtBoundary s).clock = s.clock
    ∧ (sequencerAtBoundary s).climate = s.climate ∧ (sequencerAtBoundary s).peers = s.peers
    ∧ (sequencerAtBoundary s).house = s.house ∧ (sequencerAtBoundary s).loader = s.loader
    ∧ (sequencerAtBoundary s).pending = s.pending ∧ (sequencerAtBoundary s).fan.speed = s.fan.speed
    ∧ (sequencerAtBoundary s).fan.periods = s.fan.periods
    ∧ (sequencerAtBoundary s).fan.captureCounter = s.fan.captureCounter
    ∧ (sequencerAtBoundary s).frost.account = s.frost.account
    ∧ (sequencerAtBoundary s).demand.supply = s.demand.supply
    ∧ (sequencerAtBoundary s).line.active = s.line.active
    ∧ (sequencerAtBoundary s).line.transmission = s.line.transmission
    ∧ (sequencerAtBoundary s).line.assembly = s.line.assembly
    ∧ (sequencerAtBoundary s).line.idleTime = s.line.idleTime
    ∧ (sequencerAtBoundary s).line.busyUntil = s.line.busyUntil
    ∧ (sequencerAtBoundary s).line.modeSlot = s.line.modeSlot
    ∧ (sequencerAtBoundary s).line.boostSlot = s.line.boostSlot
    ∧ (sequencerAtBoundary s).filter.state = s.filter.state
    ∧ (sequencerAtBoundary s).filter.baseline = s.filter.baseline
    ∧ (sequencerAtBoundary s).filter.runHours = s.filter.runHours
    ∧ (sequencerAtBoundary s).ctl.steady = s.ctl.steady ∧ (sequencerAtBoundary s).ctl.levels = s.ctl.levels
    ∧ (sequencerAtBoundary s).ctl.stall = s.ctl.stall := by
  unfold sequencerAtBoundary
  (repeat' split) <;> simp

@[simp] theorem beginCycling_keeps (s : State) :
    (beginCycling s).now = s.now ∧ (beginCycling s).inReset = s.inReset
    ∧ (beginCycling s).strapsRead = s.strapsRead ∧ (beginCycling s).stationIndex = s.stationIndex
    ∧ (beginCycling s).lane = s.lane ∧ (beginCycling s).roomClass = s.roomClass ∧ (beginCycling s).cfg = s.cfg
    ∧ (beginCycling s).clock = s.clock ∧ (beginCycling s).climate = s.climate ∧ (beginCycling s).peers = s.peers
    ∧ (beginCycling s).house = s.house ∧ (beginCycling s).loader = s.loader ∧ (beginCycling s).pending = s.pending
    ∧ (beginCycling s).fan.speed = s.fan.speed ∧ (beginCycling s).fan.periods = s.fan.periods
    ∧ (beginCycling s).fan.captureCounter = s.fan.captureCounter
    ∧ (beginCycling s).frost.account = s.frost.account ∧ (beginCycling s).demand.supply = s.demand.supply
    ∧ (beginCycling s).line.active = s.line.active ∧ (beginCycling s).line.transmission = s.line.transmission
    ∧ (beginCycling s).line.assembly = s.line.assembly ∧ (beginCycling s).line.idleTime = s.line.idleTime
    ∧ (beginCycling s).line.busyUntil = s.line.busyUntil ∧ (beginCycling s).line.modeSlot = s.line.modeSlot
    ∧ (beginCycling s).line.boostSlot = s.line.boostSlot ∧ (beginCycling s).filter.state = s.filter.state
    ∧ (beginCycling s).filter.baseline = s.filter.baseline ∧ (beginCycling s).filter.runHours = s.filter.runHours
    ∧ (beginCycling s).ctl.steady = s.ctl.steady ∧ (beginCycling s).ctl.levels = s.ctl.levels
    ∧ (beginCycling s).ctl.stall = s.ctl.stall := by
  simp only [beginCycling]
  (repeat' split) <;> simp

@[simp] theorem endPause_keeps (s : State) :
    (endPause s).now = s.now ∧ (endPause s).inReset = s.inReset ∧ (endPause s).strapsRead = s.strapsRead
    ∧ (endPause s).stationIndex = s.stationIndex ∧ (endPause s).lane = s.lane
    ∧ (endPause s).roomClass = s.roomClass ∧ (endPause s).cfg = s.cfg ∧ (endPause s).clock = s.clock
    ∧ (endPause s).climate = s.climate ∧ (endPause s).peers = s.peers ∧ (endPause s).house = s.house
    ∧ (endPause s).loader = s.loader ∧ (endPause s).pending = s.pending ∧ (endPause s).fan.speed = s.fan.speed
    ∧ (endPause s).fan.periods = s.fan.periods ∧ (endPause s).fan.captureCounter = s.fan.captureCounter
    ∧ (endPause s).frost.account = s.frost.account ∧ (endPause s).demand.supply = s.demand.supply
    ∧ (endPause s).line.active = s.line.active ∧ (endPause s).line.transmission = s.line.transmission
    ∧ (endPause s).line.assembly = s.line.assembly ∧ (endPause s).line.idleTime = s.line.idleTime
    ∧ (endPause s).line.busyUntil = s.line.busyUntil ∧ (endPause s).line.modeSlot = s.line.modeSlot
    ∧ (endPause s).line.boostSlot = s.line.boostSlot ∧ (endPause s).filter.state = s.filter.state
    ∧ (endPause s).filter.baseline = s.filter.baseline ∧ (endPause s).filter.runHours = s.filter.runHours
    ∧ (endPause s).ctl.steady = s.ctl.steady ∧ (endPause s).ctl.levels = s.ctl.levels
    ∧ (endPause s).ctl.stall = s.ctl.stall := by simp [endPause]

@[simp] theorem spinupLimit_keeps (g : Target) (s : State) :
    (spinupLimit g s).now = s.now ∧ (spinupLimit g s).inReset = s.inReset
    ∧ (spinupLimit g s).strapsRead = s.strapsRead ∧ (spinupLimit g s).stationIndex = s.stationIndex
    ∧ (spinupLimit g s).lane = s.lane ∧ (spinupLimit g s).roomClass = s.roomClass ∧ (spinupLimit g s).cfg = s.cfg
    ∧ (spinupLimit g s).peers = s.peers ∧ (spinupLimit g s).house = s.house ∧ (spinupLimit g s).loader = s.loader
    ∧ (spinupLimit g s).pending = s.pending ∧ (spinupLimit g s).fan.direction = s.fan.direction
    ∧ (spinupLimit g s).fan.speed = s.fan.speed ∧ (spinupLimit g s).fan.periods = s.fan.periods
    ∧ (spinupLimit g s).fan.captureCounter = s.fan.captureCounter ∧ (spinupLimit g s).clock.c = s.clock.c
    ∧ (spinupLimit g s).clock.length = s.clock.length ∧ (spinupLimit g s).frost.account = s.frost.account
    ∧ (spinupLimit g s).demand.supply = s.demand.supply ∧ (spinupLimit g s).line.active = s.line.active
    ∧ (spinupLimit g s).line.transmission = s.line.transmission
    ∧ (spinupLimit g s).line.assembly = s.line.assembly ∧ (spinupLimit g s).line.idleTime = s.line.idleTime
    ∧ (spinupLimit g s).line.busyUntil = s.line.busyUntil ∧ (spinupLimit g s).line.modeSlot = s.line.modeSlot
    ∧ (spinupLimit g s).line.boostSlot = s.line.boostSlot
    ∧ (spinupLimit g s).climate.humidity = s.climate.humidity ∧ (spinupLimit g s).climate.outer = s.climate.outer
    ∧ (spinupLimit g s).climate.inner = s.climate.inner ∧ (spinupLimit g s).filter.state = s.filter.state
    ∧ (spinupLimit g s).filter.baseline = s.filter.baseline
    ∧ (spinupLimit g s).filter.runHours = s.filter.runHours ∧ (spinupLimit g s).ctl.levels = s.ctl.levels := by
  unfold spinupLimit
  (repeat' split) <;> simp

@[simp] theorem orderDefrost_keeps (s : State) :
    (orderDefrost s).now = s.now ∧ (orderDefrost s).inReset = s.inReset
    ∧ (orderDefrost s).strapsRead = s.strapsRead ∧ (orderDefrost s).stationIndex = s.stationIndex
    ∧ (orderDefrost s).lane = s.lane ∧ (orderDefrost s).roomClass = s.roomClass ∧ (orderDefrost s).cfg = s.cfg
    ∧ (orderDefrost s).clock = s.clock ∧ (orderDefrost s).climate = s.climate ∧ (orderDefrost s).peers = s.peers
    ∧ (orderDefrost s).house = s.house ∧ (orderDefrost s).loader = s.loader ∧ (orderDefrost s).pending = s.pending
    ∧ (orderDefrost s).fan.speed = s.fan.speed ∧ (orderDefrost s).fan.periods = s.fan.periods
    ∧ (orderDefrost s).fan.captureCounter = s.fan.captureCounter
    ∧ (orderDefrost s).frost.account = s.frost.account ∧ (orderDefrost s).demand.supply = s.demand.supply
    ∧ (orderDefrost s).line.active = s.line.active ∧ (orderDefrost s).line.transmission = s.line.transmission
    ∧ (orderDefrost s).line.assembly = s.line.assembly ∧ (orderDefrost s).line.idleTime = s.line.idleTime
    ∧ (orderDefrost s).line.busyUntil = s.line.busyUntil ∧ (orderDefrost s).line.modeSlot = s.line.modeSlot
    ∧ (orderDefrost s).line.boostSlot = s.line.boostSlot ∧ (orderDefrost s).filter.state = s.filter.state
    ∧ (orderDefrost s).filter.baseline = s.filter.baseline ∧ (orderDefrost s).filter.runHours = s.filter.runHours
    ∧ (orderDefrost s).ctl.steady = s.ctl.steady ∧ (orderDefrost s).ctl.levels = s.ctl.levels
    ∧ (orderDefrost s).ctl.stall = s.ctl.stall := by
  unfold orderDefrost
  (repeat' split) <;> simp

@[simp] theorem forcedTest_keeps (s : State) :
    (forcedTest s).now = s.now ∧ (forcedTest s).inReset = s.inReset ∧ (forcedTest s).strapsRead = s.strapsRead
    ∧ (forcedTest s).stationIndex = s.stationIndex ∧ (forcedTest s).lane = s.lane
    ∧ (forcedTest s).roomClass = s.roomClass ∧ (forcedTest s).cfg = s.cfg ∧ (forcedTest s).clock = s.clock
    ∧ (forcedTest s).climate = s.climate ∧ (forcedTest s).peers = s.peers ∧ (forcedTest s).house = s.house
    ∧ (forcedTest s).loader = s.loader ∧ (forcedTest s).pending = s.pending
    ∧ (forcedTest s).fan.speed = s.fan.speed ∧ (forcedTest s).fan.periods = s.fan.periods
    ∧ (forcedTest s).fan.captureCounter = s.fan.captureCounter ∧ (forcedTest s).frost.account = s.frost.account
    ∧ (forcedTest s).demand.supply = s.demand.supply ∧ (forcedTest s).line.active = s.line.active
    ∧ (forcedTest s).line.transmission = s.line.transmission ∧ (forcedTest s).line.assembly = s.line.assembly
    ∧ (forcedTest s).line.idleTime = s.line.idleTime ∧ (forcedTest s).line.busyUntil = s.line.busyUntil
    ∧ (forcedTest s).line.modeSlot = s.line.modeSlot ∧ (forcedTest s).line.boostSlot = s.line.boostSlot
    ∧ (forcedTest s).filter.state = s.filter.state ∧ (forcedTest s).filter.baseline = s.filter.baseline
    ∧ (forcedTest s).filter.runHours = s.filter.runHours ∧ (forcedTest s).ctl.steady = s.ctl.steady
    ∧ (forcedTest s).ctl.levels = s.ctl.levels ∧ (forcedTest s).ctl.stall = s.ctl.stall := by
  unfold forcedTest
  (repeat' split) <;> simp

@[simp] theorem moveStage_keeps (st : FrostStage) (s : State) :
    (moveStage st s).now = s.now ∧ (moveStage st s).inReset = s.inReset
    ∧ (moveStage st s).strapsRead = s.strapsRead ∧ (moveStage st s).stationIndex = s.stationIndex
    ∧ (moveStage st s).lane = s.lane ∧ (moveStage st s).roomClass = s.roomClass ∧ (moveStage st s).cfg = s.cfg
    ∧ (moveStage st s).clock = s.clock ∧ (moveStage st s).climate = s.climate ∧ (moveStage st s).peers = s.peers
    ∧ (moveStage st s).house = s.house ∧ (moveStage st s).loader = s.loader ∧ (moveStage st s).pending = s.pending
    ∧ (moveStage st s).fan.speed = s.fan.speed ∧ (moveStage st s).fan.periods = s.fan.periods
    ∧ (moveStage st s).fan.captureCounter = s.fan.captureCounter
    ∧ (moveStage st s).frost.account = s.frost.account ∧ (moveStage st s).demand.supply = s.demand.supply
    ∧ (moveStage st s).line.active = s.line.active ∧ (moveStage st s).line.transmission = s.line.transmission
    ∧ (moveStage st s).line.assembly = s.line.assembly ∧ (moveStage st s).line.idleTime = s.line.idleTime
    ∧ (moveStage st s).line.busyUntil = s.line.busyUntil ∧ (moveStage st s).line.modeSlot = s.line.modeSlot
    ∧ (moveStage st s).line.boostSlot = s.line.boostSlot ∧ (moveStage st s).filter.state = s.filter.state
    ∧ (moveStage st s).filter.baseline = s.filter.baseline ∧ (moveStage st s).filter.runHours = s.filter.runHours
    ∧ (moveStage st s).ctl.steady = s.ctl.steady ∧ (moveStage st s).ctl.levels = s.ctl.levels
    ∧ (moveStage st s).ctl.stall = s.ctl.stall := by
  unfold moveStage
  (repeat' split) <;> simp

@[simp] theorem contend_keeps (s : State) :
    (contend s).now = s.now ∧ (contend s).inReset = s.inReset ∧ (contend s).strapsRead = s.strapsRead
    ∧ (contend s).stationIndex = s.stationIndex ∧ (contend s).lane = s.lane ∧ (contend s).roomClass = s.roomClass
    ∧ (contend s).cfg = s.cfg ∧ (contend s).clock = s.clock ∧ (contend s).climate = s.climate
    ∧ (contend s).peers = s.peers ∧ (contend s).house = s.house ∧ (contend s).loader = s.loader
    ∧ (contend s).pending = s.pending ∧ (contend s).fan.speed = s.fan.speed
    ∧ (contend s).fan.periods = s.fan.periods ∧ (contend s).fan.captureCounter = s.fan.captureCounter
    ∧ (contend s).frost.account = s.frost.account ∧ (contend s).demand.supply = s.demand.supply
    ∧ (contend s).line.active = s.line.active ∧ (contend s).line.transmission = s.line.transmission
    ∧ (contend s).line.assembly = s.line.assembly ∧ (contend s).line.idleTime = s.line.idleTime
    ∧ (contend s).line.busyUntil = s.line.busyUntil ∧ (contend s).line.modeSlot = s.line.modeSlot
    ∧ (contend s).line.boostSlot = s.line.boostSlot ∧ (contend s).filter.state = s.filter.state
    ∧ (contend s).filter.baseline = s.filter.baseline ∧ (contend s).filter.runHours = s.filter.runHours
    ∧ (contend s).ctl.steady = s.ctl.steady ∧ (contend s).ctl.levels = s.ctl.levels
    ∧ (contend s).ctl.stall = s.ctl.stall := by simp [contend]

@[simp] theorem wantTest_keeps (s : State) :
    (wantTest s).now = s.now ∧ (wantTest s).inReset = s.inReset ∧ (wantTest s).strapsRead = s.strapsRead
    ∧ (wantTest s).stationIndex = s.stationIndex ∧ (wantTest s).lane = s.lane
    ∧ (wantTest s).roomClass = s.roomClass ∧ (wantTest s).cfg = s.cfg ∧ (wantTest s).clock = s.clock
    ∧ (wantTest s).climate = s.climate ∧ (wantTest s).peers = s.peers ∧ (wantTest s).house = s.house
    ∧ (wantTest s).loader = s.loader ∧ (wantTest s).pending = s.pending ∧ (wantTest s).fan.speed = s.fan.speed
    ∧ (wantTest s).fan.periods = s.fan.periods ∧ (wantTest s).fan.captureCounter = s.fan.captureCounter
    ∧ (wantTest s).frost.account = s.frost.account ∧ (wantTest s).demand.supply = s.demand.supply
    ∧ (wantTest s).line.active = s.line.active ∧ (wantTest s).line.transmission = s.line.transmission
    ∧ (wantTest s).line.assembly = s.line.assembly ∧ (wantTest s).line.idleTime = s.line.idleTime
    ∧ (wantTest s).line.busyUntil = s.line.busyUntil ∧ (wantTest s).line.modeSlot = s.line.modeSlot
    ∧ (wantTest s).line.boostSlot = s.line.boostSlot ∧ (wantTest s).filter.state = s.filter.state
    ∧ (wantTest s).filter.baseline = s.filter.baseline ∧ (wantTest s).filter.runHours = s.filter.runHours
    ∧ (wantTest s).ctl.steady = s.ctl.steady ∧ (wantTest s).ctl.levels = s.ctl.levels
    ∧ (wantTest s).ctl.stall = s.ctl.stall := by
  unfold wantTest
  (repeat' split) <;> simp

@[simp] theorem afterAccount_keeps (s : State) :
    (afterAccount s).now = s.now ∧ (afterAccount s).inReset = s.inReset
    ∧ (afterAccount s).strapsRead = s.strapsRead ∧ (afterAccount s).stationIndex = s.stationIndex
    ∧ (afterAccount s).lane = s.lane ∧ (afterAccount s).roomClass = s.roomClass ∧ (afterAccount s).cfg = s.cfg
    ∧ (afterAccount s).clock = s.clock ∧ (afterAccount s).climate = s.climate ∧ (afterAccount s).peers = s.peers
    ∧ (afterAccount s).house = s.house ∧ (afterAccount s).loader = s.loader ∧ (afterAccount s).pending = s.pending
    ∧ (afterAccount s).fan.speed = s.fan.speed ∧ (afterAccount s).fan.periods = s.fan.periods
    ∧ (afterAccount s).fan.captureCounter = s.fan.captureCounter
    ∧ (afterAccount s).frost.account = s.frost.account ∧ (afterAccount s).demand.supply = s.demand.supply
    ∧ (afterAccount s).line.active = s.line.active ∧ (afterAccount s).line.transmission = s.line.transmission
    ∧ (afterAccount s).line.assembly = s.line.assembly ∧ (afterAccount s).line.idleTime = s.line.idleTime
    ∧ (afterAccount s).line.busyUntil = s.line.busyUntil ∧ (afterAccount s).line.modeSlot = s.line.modeSlot
    ∧ (afterAccount s).line.boostSlot = s.line.boostSlot ∧ (afterAccount s).filter.state = s.filter.state
    ∧ (afterAccount s).filter.baseline = s.filter.baseline ∧ (afterAccount s).filter.runHours = s.filter.runHours
    ∧ (afterAccount s).ctl.steady = s.ctl.steady ∧ (afterAccount s).ctl.levels = s.ctl.levels
    ∧ (afterAccount s).ctl.stall = s.ctl.stall := by simp [afterAccount]

@[simp] theorem setAccount_keeps (a : Nat) (s : State) :
    (setAccount a s).now = s.now ∧ (setAccount a s).inReset = s.inReset
    ∧ (setAccount a s).strapsRead = s.strapsRead ∧ (setAccount a s).stationIndex = s.stationIndex
    ∧ (setAccount a s).lane = s.lane ∧ (setAccount a s).roomClass = s.roomClass ∧ (setAccount a s).cfg = s.cfg
    ∧ (setAccount a s).clock = s.clock ∧ (setAccount a s).seq = s.seq ∧ (setAccount a s).fan = s.fan
    ∧ (setAccount a s).climate = s.climate ∧ (setAccount a s).humid = s.humid ∧ (setAccount a s).demand = s.demand
    ∧ (setAccount a s).filter = s.filter ∧ (setAccount a s).peers = s.peers ∧ (setAccount a s).house = s.house
    ∧ (setAccount a s).line = s.line ∧ (setAccount a s).ctl = s.ctl ∧ (setAccount a s).loader = s.loader
    ∧ (setAccount a s).pending = s.pending ∧ (setAccount a s).frost.stage = s.frost.stage
    ∧ (setAccount a s).frost.meltStepEnd = s.frost.meltStepEnd :=
  ⟨rfl, rfl, rfl, rfl, rfl, rfl, rfl, rfl, rfl, rfl, rfl, rfl, rfl, rfl, rfl, rfl, rfl, rfl, rfl, rfl,
    rfl, rfl⟩

@[simp] theorem frostRecord_keeps (r : HalfRecord) (s : State) :
    (frostRecord r s).now = s.now ∧ (frostRecord r s).inReset = s.inReset
    ∧ (frostRecord r s).strapsRead = s.strapsRead ∧ (frostRecord r s).stationIndex = s.stationIndex
    ∧ (frostRecord r s).lane = s.lane ∧ (frostRecord r s).roomClass = s.roomClass ∧ (frostRecord r s).cfg = s.cfg
    ∧ (frostRecord r s).clock = s.clock ∧ (frostRecord r s).climate = s.climate
    ∧ (frostRecord r s).peers = s.peers ∧ (frostRecord r s).house = s.house ∧ (frostRecord r s).loader = s.loader
    ∧ (frostRecord r s).pending = s.pending ∧ (frostRecord r s).fan.speed = s.fan.speed
    ∧ (frostRecord r s).fan.periods = s.fan.periods ∧ (frostRecord r s).fan.captureCounter = s.fan.captureCounter
    ∧ (frostRecord r s).demand.supply = s.demand.supply ∧ (frostRecord r s).line.active = s.line.active
    ∧ (frostRecord r s).line.transmission = s.line.transmission
    ∧ (frostRecord r s).line.assembly = s.line.assembly ∧ (frostRecord r s).line.idleTime = s.line.idleTime
    ∧ (frostRecord r s).line.busyUntil = s.line.busyUntil ∧ (frostRecord r s).line.modeSlot = s.line.modeSlot
    ∧ (frostRecord r s).line.boostSlot = s.line.boostSlot ∧ (frostRecord r s).filter.state = s.filter.state
    ∧ (frostRecord r s).filter.baseline = s.filter.baseline
    ∧ (frostRecord r s).filter.runHours = s.filter.runHours ∧ (frostRecord r s).ctl.steady = s.ctl.steady
    ∧ (frostRecord r s).ctl.levels = s.ctl.levels ∧ (frostRecord r s).ctl.stall = s.ctl.stall := by
  simp only [frostRecord]
  (repeat' split) <;> simp

@[simp] theorem frostTakesRecord_keeps (r : HalfRecord) (s : State) :
    (frostTakesRecord r s).now = s.now ∧ (frostTakesRecord r s).inReset = s.inReset
    ∧ (frostTakesRecord r s).strapsRead = s.strapsRead ∧ (frostTakesRecord r s).stationIndex = s.stationIndex
    ∧ (frostTakesRecord r s).lane = s.lane ∧ (frostTakesRecord r s).roomClass = s.roomClass
    ∧ (frostTakesRecord r s).cfg = s.cfg ∧ (frostTakesRecord r s).clock = s.clock
    ∧ (frostTakesRecord r s).climate = s.climate ∧ (frostTakesRecord r s).peers = s.peers
    ∧ (frostTakesRecord r s).house = s.house ∧ (frostTakesRecord r s).loader = s.loader
    ∧ (frostTakesRecord r s).pending = s.pending ∧ (frostTakesRecord r s).fan.speed = s.fan.speed
    ∧ (frostTakesRecord r s).fan.periods = s.fan.periods
    ∧ (frostTakesRecord r s).fan.captureCounter = s.fan.captureCounter
    ∧ (frostTakesRecord r s).demand.supply = s.demand.supply ∧ (frostTakesRecord r s).line.active = s.line.active
    ∧ (frostTakesRecord r s).line.transmission = s.line.transmission
    ∧ (frostTakesRecord r s).line.assembly = s.line.assembly
    ∧ (frostTakesRecord r s).line.idleTime = s.line.idleTime
    ∧ (frostTakesRecord r s).line.busyUntil = s.line.busyUntil
    ∧ (frostTakesRecord r s).line.modeSlot = s.line.modeSlot
    ∧ (frostTakesRecord r s).line.boostSlot = s.line.boostSlot
    ∧ (frostTakesRecord r s).filter.state = s.filter.state
    ∧ (frostTakesRecord r s).filter.baseline = s.filter.baseline
    ∧ (frostTakesRecord r s).filter.runHours = s.filter.runHours
    ∧ (frostTakesRecord r s).ctl.steady = s.ctl.steady ∧ (frostTakesRecord r s).ctl.levels = s.ctl.levels
    ∧ (frostTakesRecord r s).ctl.stall = s.ctl.stall := by
  unfold frostTakesRecord
  (repeat' split) <;> simp

@[simp] theorem frostAtBoundary_keeps (s : State) :
    (frostAtBoundary s).now = s.now ∧ (frostAtBoundary s).inReset = s.inReset
    ∧ (frostAtBoundary s).strapsRead = s.strapsRead ∧ (frostAtBoundary s).stationIndex = s.stationIndex
    ∧ (frostAtBoundary s).lane = s.lane ∧ (frostAtBoundary s).roomClass = s.roomClass
    ∧ (frostAtBoundary s).cfg = s.cfg ∧ (frostAtBoundary s).clock = s.clock
    ∧ (frostAtBoundary s).climate = s.climate ∧ (frostAtBoundary s).peers = s.peers
    ∧ (frostAtBoundary s).house = s.house ∧ (frostAtBoundary s).loader = s.loader
    ∧ (frostAtBoundary s).pending = s.pending ∧ (frostAtBoundary s).fan.speed = s.fan.speed
    ∧ (frostAtBoundary s).fan.periods = s.fan.periods
    ∧ (frostAtBoundary s).fan.captureCounter = s.fan.captureCounter
    ∧ (frostAtBoundary s).frost.account = s.frost.account ∧ (frostAtBoundary s).demand.supply = s.demand.supply
    ∧ (frostAtBoundary s).line.active = s.line.active
    ∧ (frostAtBoundary s).line.transmission = s.line.transmission
    ∧ (frostAtBoundary s).line.assembly = s.line.assembly ∧ (frostAtBoundary s).line.idleTime = s.line.idleTime
    ∧ (frostAtBoundary s).line.busyUntil = s.line.busyUntil ∧ (frostAtBoundary s).line.modeSlot = s.line.modeSlot
    ∧ (frostAtBoundary s).line.boostSlot = s.line.boostSlot ∧ (frostAtBoundary s).filter.state = s.filter.state
    ∧ (frostAtBoundary s).filter.baseline = s.filter.baseline
    ∧ (frostAtBoundary s).filter.runHours = s.filter.runHours ∧ (frostAtBoundary s).ctl.steady = s.ctl.steady
    ∧ (frostAtBoundary s).ctl.levels = s.ctl.levels ∧ (frostAtBoundary s).ctl.stall = s.ctl.stall := by
  simp only [frostAtBoundary]
  (repeat' split) <;> simp

@[simp] theorem decideWindow_keeps (s : State) :
    (decideWindow s).now = s.now ∧ (decideWindow s).inReset = s.inReset
    ∧ (decideWindow s).strapsRead = s.strapsRead ∧ (decideWindow s).stationIndex = s.stationIndex
    ∧ (decideWindow s).lane = s.lane ∧ (decideWindow s).roomClass = s.roomClass ∧ (decideWindow s).cfg = s.cfg
    ∧ (decideWindow s).clock = s.clock ∧ (decideWindow s).climate = s.climate ∧ (decideWindow s).peers = s.peers
    ∧ (decideWindow s).house = s.house ∧ (decideWindow s).loader = s.loader ∧ (decideWindow s).pending = s.pending
    ∧ (decideWindow s).fan.speed = s.fan.speed ∧ (decideWindow s).fan.periods = s.fan.periods
    ∧ (decideWindow s).fan.captureCounter = s.fan.captureCounter
    ∧ (decideWindow s).frost.account = s.frost.account ∧ (decideWindow s).demand.supply = s.demand.supply
    ∧ (decideWindow s).line.active = s.line.active ∧ (decideWindow s).line.transmission = s.line.transmission
    ∧ (decideWindow s).line.assembly = s.line.assembly ∧ (decideWindow s).line.idleTime = s.line.idleTime
    ∧ (decideWindow s).line.busyUntil = s.line.busyUntil ∧ (decideWindow s).line.modeSlot = s.line.modeSlot
    ∧ (decideWindow s).line.boostSlot = s.line.boostSlot ∧ (decideWindow s).filter.state = s.filter.state
    ∧ (decideWindow s).filter.baseline = s.filter.baseline ∧ (decideWindow s).filter.runHours = s.filter.runHours
    ∧ (decideWindow s).ctl.steady = s.ctl.steady ∧ (decideWindow s).ctl.levels = s.ctl.levels
    ∧ (decideWindow s).ctl.stall = s.ctl.stall := by
  unfold decideWindow
  (repeat' split) <;> simp

@[simp] theorem noticeSent_keeps (bytes : List Byte) (s : State) :
    (noticeSent bytes s).now = s.now ∧ (noticeSent bytes s).inReset = s.inReset
    ∧ (noticeSent bytes s).strapsRead = s.strapsRead ∧ (noticeSent bytes s).stationIndex = s.stationIndex
    ∧ (noticeSent bytes s).lane = s.lane ∧ (noticeSent bytes s).roomClass = s.roomClass
    ∧ (noticeSent bytes s).cfg = s.cfg ∧ (noticeSent bytes s).clock = s.clock ∧ (noticeSent bytes s).seq = s.seq
    ∧ (noticeSent bytes s).fan = s.fan ∧ (noticeSent bytes s).climate = s.climate
    ∧ (noticeSent bytes s).humid = s.humid ∧ (noticeSent bytes s).demand = s.demand
    ∧ (noticeSent bytes s).filter = s.filter ∧ (noticeSent bytes s).peers = s.peers
    ∧ (noticeSent bytes s).house = s.house ∧ (noticeSent bytes s).line = s.line ∧ (noticeSent bytes s).ctl = s.ctl
    ∧ (noticeSent bytes s).loader = s.loader ∧ (noticeSent bytes s).pending = s.pending
    ∧ (noticeSent bytes s).frost.account = s.frost.account ∧ (noticeSent bytes s).frost.stage = s.frost.stage
    ∧ (noticeSent bytes s).frost.meltStepEnd = s.frost.meltStepEnd := by
  simp only [noticeSent]
  (repeat' split) <;> simp

@[simp] theorem endDefrost_keeps (st : FrostStage) (s : State) :
    (endDefrost st s).now = s.now ∧ (endDefrost st s).inReset = s.inReset
    ∧ (endDefrost st s).strapsRead = s.strapsRead ∧ (endDefrost st s).stationIndex = s.stationIndex
    ∧ (endDefrost st s).lane = s.lane ∧ (endDefrost st s).roomClass = s.roomClass ∧ (endDefrost st s).cfg = s.cfg
    ∧ (endDefrost st s).clock = s.clock ∧ (endDefrost st s).climate = s.climate
    ∧ (endDefrost st s).peers = s.peers ∧ (endDefrost st s).house = s.house ∧ (endDefrost st s).loader = s.loader
    ∧ (endDefrost st s).pending = s.pending ∧ (endDefrost st s).fan.speed = s.fan.speed
    ∧ (endDefrost st s).fan.periods = s.fan.periods ∧ (endDefrost st s).fan.captureCounter = s.fan.captureCounter
    ∧ (endDefrost st s).frost.account = s.frost.account ∧ (endDefrost st s).demand.supply = s.demand.supply
    ∧ (endDefrost st s).line.active = s.line.active ∧ (endDefrost st s).line.transmission = s.line.transmission
    ∧ (endDefrost st s).line.assembly = s.line.assembly ∧ (endDefrost st s).line.idleTime = s.line.idleTime
    ∧ (endDefrost st s).line.busyUntil = s.line.busyUntil ∧ (endDefrost st s).line.modeSlot = s.line.modeSlot
    ∧ (endDefrost st s).line.boostSlot = s.line.boostSlot ∧ (endDefrost st s).filter.state = s.filter.state
    ∧ (endDefrost st s).filter.baseline = s.filter.baseline
    ∧ (endDefrost st s).filter.runHours = s.filter.runHours ∧ (endDefrost st s).ctl.steady = s.ctl.steady
    ∧ (endDefrost st s).ctl.levels = s.ctl.levels ∧ (endDefrost st s).ctl.stall = s.ctl.stall := by
  simp [endDefrost]

@[simp] theorem meltStep_keeps (e : Time) (s : State) :
    (meltStep e s).now = s.now ∧ (meltStep e s).inReset = s.inReset ∧ (meltStep e s).strapsRead = s.strapsRead
    ∧ (meltStep e s).stationIndex = s.stationIndex ∧ (meltStep e s).lane = s.lane
    ∧ (meltStep e s).roomClass = s.roomClass ∧ (meltStep e s).cfg = s.cfg ∧ (meltStep e s).clock = s.clock
    ∧ (meltStep e s).seq = s.seq ∧ (meltStep e s).fan = s.fan ∧ (meltStep e s).climate = s.climate
    ∧ (meltStep e s).humid = s.humid ∧ (meltStep e s).demand = s.demand ∧ (meltStep e s).filter = s.filter
    ∧ (meltStep e s).peers = s.peers ∧ (meltStep e s).house = s.house ∧ (meltStep e s).line = s.line
    ∧ (meltStep e s).ctl = s.ctl ∧ (meltStep e s).loader = s.loader ∧ (meltStep e s).pending = s.pending
    ∧ (meltStep e s).frost.stage = s.frost.stage :=
  ⟨rfl, rfl, rfl, rfl, rfl, rfl, rfl, rfl, rfl, rfl, rfl, rfl, rfl, rfl, rfl, rfl, rfl, rfl, rfl, rfl,
    rfl⟩

@[simp] theorem closeMeltStep_keeps (e : Time) (s : State) :
    (closeMeltStep e s).now = s.now ∧ (closeMeltStep e s).inReset = s.inReset
    ∧ (closeMeltStep e s).strapsRead = s.strapsRead ∧ (closeMeltStep e s).stationIndex = s.stationIndex
    ∧ (closeMeltStep e s).lane = s.lane ∧ (closeMeltStep e s).roomClass = s.roomClass
    ∧ (closeMeltStep e s).cfg = s.cfg ∧ (closeMeltStep e s).clock = s.clock
    ∧ (closeMeltStep e s).climate = s.climate ∧ (closeMeltStep e s).peers = s.peers
    ∧ (closeMeltStep e s).house = s.house ∧ (closeMeltStep e s).loader = s.loader
    ∧ (closeMeltStep e s).pending = s.pending ∧ (closeMeltStep e s).fan.speed = s.fan.speed
    ∧ (closeMeltStep e s).fan.periods = s.fan.periods
    ∧ (closeMeltStep e s).fan.captureCounter = s.fan.captureCounter
    ∧ (closeMeltStep e s).demand.supply = s.demand.supply ∧ (closeMeltStep e s).line.active = s.line.active
    ∧ (closeMeltStep e s).line.transmission = s.line.transmission
    ∧ (closeMeltStep e s).line.assembly = s.line.assembly ∧ (closeMeltStep e s).line.idleTime = s.line.idleTime
    ∧ (closeMeltStep e s).line.busyUntil = s.line.busyUntil ∧ (closeMeltStep e s).line.modeSlot = s.line.modeSlot
    ∧ (closeMeltStep e s).line.boostSlot = s.line.boostSlot ∧ (closeMeltStep e s).filter.state = s.filter.state
    ∧ (closeMeltStep e s).filter.baseline = s.filter.baseline
    ∧ (closeMeltStep e s).filter.runHours = s.filter.runHours ∧ (closeMeltStep e s).ctl.steady = s.ctl.steady
    ∧ (closeMeltStep e s).ctl.levels = s.ctl.levels ∧ (closeMeltStep e s).ctl.stall = s.ctl.stall := by
  simp only [closeMeltStep]
  (repeat' split) <;> simp

@[simp] theorem timeOutDefrost_keeps (s : State) :
    (timeOutDefrost s).now = s.now ∧ (timeOutDefrost s).inReset = s.inReset
    ∧ (timeOutDefrost s).strapsRead = s.strapsRead ∧ (timeOutDefrost s).stationIndex = s.stationIndex
    ∧ (timeOutDefrost s).lane = s.lane ∧ (timeOutDefrost s).roomClass = s.roomClass
    ∧ (timeOutDefrost s).cfg = s.cfg ∧ (timeOutDefrost s).clock = s.clock ∧ (timeOutDefrost s).climate = s.climate
    ∧ (timeOutDefrost s).peers = s.peers ∧ (timeOutDefrost s).house = s.house
    ∧ (timeOutDefrost s).loader = s.loader ∧ (timeOutDefrost s).pending = s.pending
    ∧ (timeOutDefrost s).fan.speed = s.fan.speed ∧ (timeOutDefrost s).fan.periods = s.fan.periods
    ∧ (timeOutDefrost s).fan.captureCounter = s.fan.captureCounter
    ∧ (timeOutDefrost s).frost.account = s.frost.account ∧ (timeOutDefrost s).demand.supply = s.demand.supply
    ∧ (timeOutDefrost s).line.active = s.line.active ∧ (timeOutDefrost s).line.transmission = s.line.transmission
    ∧ (timeOutDefrost s).line.assembly = s.line.assembly ∧ (timeOutDefrost s).line.idleTime = s.line.idleTime
    ∧ (timeOutDefrost s).line.busyUntil = s.line.busyUntil ∧ (timeOutDefrost s).line.modeSlot = s.line.modeSlot
    ∧ (timeOutDefrost s).line.boostSlot = s.line.boostSlot ∧ (timeOutDefrost s).filter.state = s.filter.state
    ∧ (timeOutDefrost s).filter.baseline = s.filter.baseline
    ∧ (timeOutDefrost s).filter.runHours = s.filter.runHours ∧ (timeOutDefrost s).ctl.steady = s.ctl.steady
    ∧ (timeOutDefrost s).ctl.levels = s.ctl.levels ∧ (timeOutDefrost s).ctl.stall = s.ctl.stall := by
  simp [timeOutDefrost]

@[simp] theorem endBlindDefrost_keeps (s : State) :
    (endBlindDefrost s).now = s.now ∧ (endBlindDefrost s).inReset = s.inReset
    ∧ (endBlindDefrost s).strapsRead = s.strapsRead ∧ (endBlindDefrost s).stationIndex = s.stationIndex
    ∧ (endBlindDefrost s).lane = s.lane ∧ (endBlindDefrost s).roomClass = s.roomClass
    ∧ (endBlindDefrost s).cfg = s.cfg ∧ (endBlindDefrost s).clock = s.clock
    ∧ (endBlindDefrost s).climate = s.climate ∧ (endBlindDefrost s).peers = s.peers
    ∧ (endBlindDefrost s).house = s.house ∧ (endBlindDefrost s).loader = s.loader
    ∧ (endBlindDefrost s).pending = s.pending ∧ (endBlindDefrost s).fan.speed = s.fan.speed
    ∧ (endBlindDefrost s).fan.periods = s.fan.periods
    ∧ (endBlindDefrost s).fan.captureCounter = s.fan.captureCounter
    ∧ (endBlindDefrost s).demand.supply = s.demand.supply ∧ (endBlindDefrost s).line.active = s.line.active
    ∧ (endBlindDefrost s).line.transmission = s.line.transmission
    ∧ (endBlindDefrost s).line.assembly = s.line.assembly ∧ (endBlindDefrost s).line.idleTime = s.line.idleTime
    ∧ (endBlindDefrost s).line.busyUntil = s.line.busyUntil ∧ (endBlindDefrost s).line.modeSlot = s.line.modeSlot
    ∧ (endBlindDefrost s).line.boostSlot = s.line.boostSlot ∧ (endBlindDefrost s).filter.state = s.filter.state
    ∧ (endBlindDefrost s).filter.baseline = s.filter.baseline
    ∧ (endBlindDefrost s).filter.runHours = s.filter.runHours ∧ (endBlindDefrost s).ctl.steady = s.ctl.steady
    ∧ (endBlindDefrost s).ctl.levels = s.ctl.levels ∧ (endBlindDefrost s).ctl.stall = s.ctl.stall := by
  simp [endBlindDefrost]

@[simp] theorem endLockout_keeps (s : State) :
    (endLockout s).now = s.now ∧ (endLockout s).inReset = s.inReset ∧ (endLockout s).strapsRead = s.strapsRead
    ∧ (endLockout s).stationIndex = s.stationIndex ∧ (endLockout s).lane = s.lane
    ∧ (endLockout s).roomClass = s.roomClass ∧ (endLockout s).cfg = s.cfg ∧ (endLockout s).clock = s.clock
    ∧ (endLockout s).climate = s.climate ∧ (endLockout s).peers = s.peers ∧ (endLockout s).house = s.house
    ∧ (endLockout s).loader = s.loader ∧ (endLockout s).pending = s.pending
    ∧ (endLockout s).fan.speed = s.fan.speed ∧ (endLockout s).fan.periods = s.fan.periods
    ∧ (endLockout s).fan.captureCounter = s.fan.captureCounter ∧ (endLockout s).frost.account = s.frost.account
    ∧ (endLockout s).demand.supply = s.demand.supply ∧ (endLockout s).line.active = s.line.active
    ∧ (endLockout s).line.transmission = s.line.transmission ∧ (endLockout s).line.assembly = s.line.assembly
    ∧ (endLockout s).line.idleTime = s.line.idleTime ∧ (endLockout s).line.busyUntil = s.line.busyUntil
    ∧ (endLockout s).line.modeSlot = s.line.modeSlot ∧ (endLockout s).line.boostSlot = s.line.boostSlot
    ∧ (endLockout s).filter.state = s.filter.state ∧ (endLockout s).filter.baseline = s.filter.baseline
    ∧ (endLockout s).filter.runHours = s.filter.runHours ∧ (endLockout s).ctl.steady = s.ctl.steady
    ∧ (endLockout s).ctl.levels = s.ctl.levels ∧ (endLockout s).ctl.stall = s.ctl.stall := by
  simp only [endLockout]
  (repeat' split) <;> simp

@[simp] theorem enterBlind_keeps (s : State) :
    (enterBlind s).now = s.now ∧ (enterBlind s).inReset = s.inReset ∧ (enterBlind s).strapsRead = s.strapsRead
    ∧ (enterBlind s).stationIndex = s.stationIndex ∧ (enterBlind s).lane = s.lane
    ∧ (enterBlind s).roomClass = s.roomClass ∧ (enterBlind s).cfg = s.cfg ∧ (enterBlind s).clock = s.clock
    ∧ (enterBlind s).seq = s.seq ∧ (enterBlind s).climate = s.climate ∧ (enterBlind s).humid = s.humid
    ∧ (enterBlind s).demand = s.demand ∧ (enterBlind s).peers = s.peers ∧ (enterBlind s).house = s.house
    ∧ (enterBlind s).loader = s.loader ∧ (enterBlind s).pending = s.pending
    ∧ (enterBlind s).fan.direction = s.fan.direction ∧ (enterBlind s).fan.speed = s.fan.speed
    ∧ (enterBlind s).fan.periods = s.fan.periods ∧ (enterBlind s).fan.driveOutput = s.fan.driveOutput
    ∧ (enterBlind s).fan.holdEnd = s.fan.holdEnd ∧ (enterBlind s).fan.captureCounter = s.fan.captureCounter
    ∧ (enterBlind s).frost.account = s.frost.account ∧ (enterBlind s).line.active = s.line.active
    ∧ (enterBlind s).line.transmission = s.line.transmission ∧ (enterBlind s).line.assembly = s.line.assembly
    ∧ (enterBlind s).line.idleTime = s.line.idleTime ∧ (enterBlind s).line.busyUntil = s.line.busyUntil
    ∧ (enterBlind s).line.modeSlot = s.line.modeSlot ∧ (enterBlind s).line.boostSlot = s.line.boostSlot
    ∧ (enterBlind s).filter.state = s.filter.state ∧ (enterBlind s).filter.baseline = s.filter.baseline
    ∧ (enterBlind s).filter.runHours = s.filter.runHours ∧ (enterBlind s).ctl.steady = s.ctl.steady
    ∧ (enterBlind s).ctl.levels = s.ctl.levels ∧ (enterBlind s).ctl.stall = s.ctl.stall := by
  unfold enterBlind
  (repeat' split) <;> simp

@[simp] theorem leaveBlind_keeps (s : State) :
    (leaveBlind s).now = s.now ∧ (leaveBlind s).inReset = s.inReset ∧ (leaveBlind s).strapsRead = s.strapsRead
    ∧ (leaveBlind s).stationIndex = s.stationIndex ∧ (leaveBlind s).lane = s.lane
    ∧ (leaveBlind s).roomClass = s.roomClass ∧ (leaveBlind s).cfg = s.cfg ∧ (leaveBlind s).clock = s.clock
    ∧ (leaveBlind s).climate = s.climate ∧ (leaveBlind s).peers = s.peers ∧ (leaveBlind s).house = s.house
    ∧ (leaveBlind s).loader = s.loader ∧ (leaveBlind s).pending = s.pending
    ∧ (leaveBlind s).fan.speed = s.fan.speed ∧ (leaveBlind s).fan.periods = s.fan.periods
    ∧ (leaveBlind s).fan.captureCounter = s.fan.captureCounter ∧ (leaveBlind s).frost.account = s.frost.account
    ∧ (leaveBlind s).demand.supply = s.demand.supply ∧ (leaveBlind s).line.active = s.line.active
    ∧ (leaveBlind s).line.transmission = s.line.transmission ∧ (leaveBlind s).line.assembly = s.line.assembly
    ∧ (leaveBlind s).line.idleTime = s.line.idleTime ∧ (leaveBlind s).line.busyUntil = s.line.busyUntil
    ∧ (leaveBlind s).line.modeSlot = s.line.modeSlot ∧ (leaveBlind s).line.boostSlot = s.line.boostSlot
    ∧ (leaveBlind s).filter.state = s.filter.state ∧ (leaveBlind s).filter.baseline = s.filter.baseline
    ∧ (leaveBlind s).filter.runHours = s.filter.runHours ∧ (leaveBlind s).ctl.steady = s.ctl.steady
    ∧ (leaveBlind s).ctl.levels = s.ctl.levels ∧ (leaveBlind s).ctl.stall = s.ctl.stall := by
  simp only [leaveBlind]
  (repeat' split) <;> simp

@[simp] theorem frostOnLineRaised_keeps (s : State) :
    (frostOnLineRaised s).now = s.now ∧ (frostOnLineRaised s).inReset = s.inReset
    ∧ (frostOnLineRaised s).strapsRead = s.strapsRead ∧ (frostOnLineRaised s).stationIndex = s.stationIndex
    ∧ (frostOnLineRaised s).lane = s.lane ∧ (frostOnLineRaised s).roomClass = s.roomClass
    ∧ (frostOnLineRaised s).cfg = s.cfg ∧ (frostOnLineRaised s).clock = s.clock
    ∧ (frostOnLineRaised s).climate = s.climate ∧ (frostOnLineRaised s).peers = s.peers
    ∧ (frostOnLineRaised s).house = s.house ∧ (frostOnLineRaised s).loader = s.loader
    ∧ (frostOnLineRaised s).pending = s.pending ∧ (frostOnLineRaised s).fan.speed = s.fan.speed
    ∧ (frostOnLineRaised s).fan.periods = s.fan.periods
    ∧ (frostOnLineRaised s).fan.captureCounter = s.fan.captureCounter
    ∧ (frostOnLineRaised s).frost.account = s.frost.account
    ∧ (frostOnLineRaised s).demand.supply = s.demand.supply ∧ (frostOnLineRaised s).line.active = s.line.active
    ∧ (frostOnLineRaised s).line.transmission = s.line.transmission
    ∧ (frostOnLineRaised s).line.assembly = s.line.assembly
    ∧ (frostOnLineRaised s).line.idleTime = s.line.idleTime
    ∧ (frostOnLineRaised s).line.busyUntil = s.line.busyUntil
    ∧ (frostOnLineRaised s).line.modeSlot = s.line.modeSlot
    ∧ (frostOnLineRaised s).line.boostSlot = s.line.boostSlot
    ∧ (frostOnLineRaised s).filter.state = s.filter.state
    ∧ (frostOnLineRaised s).filter.baseline = s.filter.baseline
    ∧ (frostOnLineRaised s).filter.runHours = s.filter.runHours ∧ (frostOnLineRaised s).ctl.steady = s.ctl.steady
    ∧ (frostOnLineRaised s).ctl.levels = s.ctl.levels ∧ (frostOnLineRaised s).ctl.stall = s.ctl.stall := by
  unfold frostOnLineRaised
  (repeat' split) <;> simp

end Sys2Proof.Machine
end

