-- ==== Sys2Proof/Laws/KeepsCycle.lean ====
section
/-! SUPPORT. What the climate front end, the half-cycle clock and the peer table leave as it was: one
theorem for each operation. -/

namespace Sys2Proof.Machine

@[simp] theorem evaluateOutdoor_keeps (s : State) :
    (evaluateOutdoor s).now = s.now ∧ (evaluateOutdoor s).inReset = s.inReset
    ∧ (evaluateOutdoor s).strapsRead = s.strapsRead ∧ (evaluateOutdoor s).stationIndex = s.stationIndex
    ∧ (evaluateOutdoor s).lane = s.lane ∧ (evaluateOutdoor s).roomClass = s.roomClass
    ∧ (evaluateOutdoor s).cfg = s.cfg ∧ (evaluateOutdoor s).clock = s.clock ∧ (evaluateOutdoor s).seq = s.seq
    ∧ (evaluateOutdoor s).fan = s.fan ∧ (evaluateOutdoor s).frost = s.frost ∧ (evaluateOutdoor s).humid = s.humid
    ∧ (evaluateOutdoor s).demand = s.demand ∧ (evaluateOutdoor s).filter = s.filter
    ∧ (evaluateOutdoor s).peers = s.peers ∧ (evaluateOutdoor s).house = s.house
    ∧ (evaluateOutdoor s).line = s.line ∧ (evaluateOutdoor s).ctl = s.ctl ∧ (evaluateOutdoor s).loader = s.loader
    ∧ (evaluateOutdoor s).pending = s.pending := by
  simp only [evaluateOutdoor]
  (repeat' split) <;> simp

@[simp] theorem outdoorTakesRecord_keeps (r : HalfRecord) (s : State) :
    (outdoorTakesRecord r s).now = s.now ∧ (outdoorTakesRecord r s).inReset = s.inReset
    ∧ (outdoorTakesRecord r s).strapsRead = s.strapsRead ∧ (outdoorTakesRecord r s).stationIndex = s.stationIndex
    ∧ (outdoorTakesRecord r s).lane = s.lane ∧ (outdoorTakesRecord r s).roomClass = s.roomClass
    ∧ (outdoorTakesRecord r s).cfg = s.cfg ∧ (outdoorTakesRecord r s).clock = s.clock
    ∧ (outdoorTakesRecord r s).seq = s.seq ∧ (outdoorTakesRecord r s).fan = s.fan
    ∧ (outdoorTakesRecord r s).frost = s.frost ∧ (outdoorTakesRecord r s).humid = s.humid
    ∧ (outdoorTakesRecord r s).demand = s.demand ∧ (outdoorTakesRecord r s).filter = s.filter
    ∧ (outdoorTakesRecord r s).peers = s.peers ∧ (outdoorTakesRecord r s).house = s.house
    ∧ (outdoorTakesRecord r s).line = s.line ∧ (outdoorTakesRecord r s).ctl = s.ctl
    ∧ (outdoorTakesRecord r s).loader = s.loader ∧ (outdoorTakesRecord r s).pending = s.pending := by
  unfold outdoorTakesRecord
  (repeat' split) <;> simp

@[simp] theorem openCollection_keeps (s : State) :
    (openCollection s).now = s.now ∧ (openCollection s).inReset = s.inReset
    ∧ (openCollection s).strapsRead = s.strapsRead ∧ (openCollection s).stationIndex = s.stationIndex
    ∧ (openCollection s).lane = s.lane ∧ (openCollection s).roomClass = s.roomClass
    ∧ (openCollection s).cfg = s.cfg ∧ (openCollection s).clock = s.clock ∧ (openCollection s).seq = s.seq
    ∧ (openCollection s).fan = s.fan ∧ (openCollection s).frost = s.frost ∧ (openCollection s).humid = s.humid
    ∧ (openCollection s).demand = s.demand ∧ (openCollection s).filter = s.filter
    ∧ (openCollection s).peers = s.peers ∧ (openCollection s).house = s.house ∧ (openCollection s).line = s.line
    ∧ (openCollection s).ctl = s.ctl ∧ (openCollection s).loader = s.loader
    ∧ (openCollection s).pending = s.pending ∧ (openCollection s).climate.humidity = s.climate.humidity
    ∧ (openCollection s).climate.outer = s.climate.outer ∧ (openCollection s).climate.inner = s.climate.inner :=
  ⟨rfl, rfl, rfl, rfl, rfl, rfl, rfl, rfl, rfl, rfl, rfl, rfl, rfl, rfl, rfl, rfl, rfl, rfl, rfl, rfl,
    rfl, rfl, rfl⟩

@[simp] theorem closeRecord_keeps (r : HalfRecord) (s : State) :
    (closeRecord r s).now = s.now ∧ (closeRecord r s).inReset = s.inReset
    ∧ (closeRecord r s).strapsRead = s.strapsRead ∧ (closeRecord r s).stationIndex = s.stationIndex
    ∧ (closeRecord r s).lane = s.lane ∧ (closeRecord r s).roomClass = s.roomClass ∧ (closeRecord r s).cfg = s.cfg
    ∧ (closeRecord r s).clock = s.clock ∧ (closeRecord r s).seq = s.seq ∧ (closeRecord r s).fan = s.fan
    ∧ (closeRecord r s).frost = s.frost ∧ (closeRecord r s).humid = s.humid ∧ (closeRecord r s).demand = s.demand
    ∧ (closeRecord r s).filter = s.filter ∧ (closeRecord r s).peers = s.peers ∧ (closeRecord r s).house = s.house
    ∧ (closeRecord r s).line = s.line ∧ (closeRecord r s).ctl = s.ctl ∧ (closeRecord r s).loader = s.loader
    ∧ (closeRecord r s).pending = s.pending ∧ (closeRecord r s).climate.humidity = s.climate.humidity
    ∧ (closeRecord r s).climate.outer = s.climate.outer ∧ (closeRecord r s).climate.inner = s.climate.inner :=
  ⟨rfl, rfl, rfl, rfl, rfl, rfl, rfl, rfl, rfl, rfl, rfl, rfl, rfl, rfl, rfl, rfl, rfl, rfl, rfl, rfl,
    rfl, rfl, rfl⟩

@[simp] theorem spoilRing_keeps (s : State) :
    (spoilRing s).now = s.now ∧ (spoilRing s).inReset = s.inReset ∧ (spoilRing s).strapsRead = s.strapsRead
    ∧ (spoilRing s).stationIndex = s.stationIndex ∧ (spoilRing s).lane = s.lane
    ∧ (spoilRing s).roomClass = s.roomClass ∧ (spoilRing s).cfg = s.cfg ∧ (spoilRing s).clock = s.clock
    ∧ (spoilRing s).seq = s.seq ∧ (spoilRing s).fan = s.fan ∧ (spoilRing s).frost = s.frost
    ∧ (spoilRing s).humid = s.humid ∧ (spoilRing s).demand = s.demand ∧ (spoilRing s).filter = s.filter
    ∧ (spoilRing s).peers = s.peers ∧ (spoilRing s).house = s.house ∧ (spoilRing s).line = s.line
    ∧ (spoilRing s).ctl = s.ctl ∧ (spoilRing s).loader = s.loader ∧ (spoilRing s).pending = s.pending
    ∧ (spoilRing s).climate.humidity = s.climate.humidity ∧ (spoilRing s).climate.outer = s.climate.outer
    ∧ (spoilRing s).climate.inner = s.climate.inner :=
  ⟨rfl, rfl, rfl, rfl, rfl, rfl, rfl, rfl, rfl, rfl, rfl, rfl, rfl, rfl, rfl, rfl, rfl, rfl, rfl, rfl,
    rfl, rfl, rfl⟩

@[simp] theorem onInner_keeps (x : FaultChange) (s : State) :
    (onInner x s).now = s.now ∧ (onInner x s).inReset = s.inReset ∧ (onInner x s).strapsRead = s.strapsRead
    ∧ (onInner x s).stationIndex = s.stationIndex ∧ (onInner x s).lane = s.lane
    ∧ (onInner x s).roomClass = s.roomClass ∧ (onInner x s).cfg = s.cfg ∧ (onInner x s).clock = s.clock
    ∧ (onInner x s).seq = s.seq ∧ (onInner x s).frost = s.frost ∧ (onInner x s).humid = s.humid
    ∧ (onInner x s).demand = s.demand ∧ (onInner x s).peers = s.peers ∧ (onInner x s).house = s.house
    ∧ (onInner x s).line = s.line ∧ (onInner x s).ctl = s.ctl ∧ (onInner x s).loader = s.loader
    ∧ (onInner x s).pending = s.pending ∧ (onInner x s).fan.direction = s.fan.direction
    ∧ (onInner x s).fan.speed = s.fan.speed ∧ (onInner x s).fan.periods = s.fan.periods
    ∧ (onInner x s).fan.driveOutput = s.fan.driveOutput ∧ (onInner x s).fan.holdEnd = s.fan.holdEnd
    ∧ (onInner x s).fan.captureCounter = s.fan.captureCounter
    ∧ (onInner x s).climate.humidity = s.climate.humidity ∧ (onInner x s).climate.outer = s.climate.outer
    ∧ (onInner x s).climate.inner = s.climate.inner ∧ (onInner x s).filter.state = s.filter.state
    ∧ (onInner x s).filter.baseline = s.filter.baseline ∧ (onInner x s).filter.runHours = s.filter.runHours := by
  unfold onInner
  (repeat' split) <;> simp

@[simp] theorem onOuter_keeps (x : FaultChange) (s : State) :
    (onOuter x s).now = s.now ∧ (onOuter x s).inReset = s.inReset ∧ (onOuter x s).strapsRead = s.strapsRead
    ∧ (onOuter x s).stationIndex = s.stationIndex ∧ (onOuter x s).lane = s.lane
    ∧ (onOuter x s).roomClass = s.roomClass ∧ (onOuter x s).cfg = s.cfg ∧ (onOuter x s).clock = s.clock
    ∧ (onOuter x s).peers = s.peers ∧ (onOuter x s).house = s.house ∧ (onOuter x s).loader = s.loader
    ∧ (onOuter x s).pending = s.pending ∧ (onOuter x s).fan.speed = s.fan.speed
    ∧ (onOuter x s).fan.periods = s.fan.periods ∧ (onOuter x s).fan.captureCounter = s.fan.captureCounter
    ∧ (onOuter x s).frost.account = s.frost.account ∧ (onOuter x s).demand.supply = s.demand.supply
    ∧ (onOuter x s).line.active = s.line.active ∧ (onOuter x s).line.transmission = s.line.transmission
    ∧ (onOuter x s).line.assembly = s.line.assembly ∧ (onOuter x s).line.idleTime = s.line.idleTime
    ∧ (onOuter x s).line.busyUntil = s.line.busyUntil ∧ (onOuter x s).line.modeSlot = s.line.modeSlot
    ∧ (onOuter x s).line.boostSlot = s.line.boostSlot ∧ (onOuter x s).climate.humidity = s.climate.humidity
    ∧ (onOuter x s).climate.outer = s.climate.outer ∧ (onOuter x s).climate.inner = s.climate.inner
    ∧ (onOuter x s).filter.state = s.filter.state ∧ (onOuter x s).filter.baseline = s.filter.baseline
    ∧ (onOuter x s).filter.runHours = s.filter.runHours ∧ (onOuter x s).ctl.steady = s.ctl.steady
    ∧ (onOuter x s).ctl.levels = s.ctl.levels ∧ (onOuter x s).ctl.stall = s.ctl.stall := by
  unfold onOuter
  (repeat' split) <;> simp

@[simp] theorem onHumidity_keeps (x : FaultChange) (s : State) :
    (onHumidity x s).now = s.now ∧ (onHumidity x s).inReset = s.inReset
    ∧ (onHumidity x s).strapsRead = s.strapsRead ∧ (onHumidity x s).stationIndex = s.stationIndex
    ∧ (onHumidity x s).lane = s.lane ∧ (onHumidity x s).roomClass = s.roomClass ∧ (onHumidity x s).cfg = s.cfg
    ∧ (onHumidity x s).clock = s.clock ∧ (onHumidity x s).seq = s.seq ∧ (onHumidity x s).fan = s.fan
    ∧ (onHumidity x s).climate = s.climate ∧ (onHumidity x s).frost = s.frost ∧ (onHumidity x s).filter = s.filter
    ∧ (onHumidity x s).peers = s.peers ∧ (onHumidity x s).house = s.house ∧ (onHumidity x s).line = s.line
    ∧ (onHumidity x s).ctl = s.ctl ∧ (onHumidity x s).loader = s.loader ∧ (onHumidity x s).pending = s.pending
    ∧ (onHumidity x s).demand.supply = s.demand.supply := by
  unfold onHumidity
  (repeat' split) <;> simp

@[simp] theorem recordSample_keeps (x : SampleSet) (s : State) :
    (recordSample x s).now = s.now ∧ (recordSample x s).inReset = s.inReset
    ∧ (recordSample x s).strapsRead = s.strapsRead ∧ (recordSample x s).stationIndex = s.stationIndex
    ∧ (recordSample x s).lane = s.lane ∧ (recordSample x s).roomClass = s.roomClass
    ∧ (recordSample x s).cfg = s.cfg ∧ (recordSample x s).clock = s.clock ∧ (recordSample x s).seq = s.seq
    ∧ (recordSample x s).fan = s.fan ∧ (recordSample x s).frost = s.frost ∧ (recordSample x s).humid = s.humid
    ∧ (recordSample x s).demand = s.demand ∧ (recordSample x s).filter = s.filter
    ∧ (recordSample x s).peers = s.peers ∧ (recordSample x s).house = s.house ∧ (recordSample x s).line = s.line
    ∧ (recordSample x s).ctl = s.ctl ∧ (recordSample x s).loader = s.loader
    ∧ (recordSample x s).pending = s.pending ∧ (recordSample x s).climate.humidity = s.climate.humidity
    ∧ (recordSample x s).climate.outer = s.climate.outer ∧ (recordSample x s).climate.inner = s.climate.inner :=
  ⟨rfl, rfl, rfl, rfl, rfl, rfl, rfl, rfl, rfl, rfl, rfl, rfl, rfl, rfl, rfl, rfl, rfl, rfl, rfl, rfl,
    rfl, rfl, rfl⟩

@[simp] theorem takeSample_keeps (i o h : BitVec 12) (s : State) :
    (takeSample i o h s).now = s.now ∧ (takeSample i o h s).inReset = s.inReset
    ∧ (takeSample i o h s).strapsRead = s.strapsRead ∧ (takeSample i o h s).stationIndex = s.stationIndex
    ∧ (takeSample i o h s).lane = s.lane ∧ (takeSample i o h s).roomClass = s.roomClass
    ∧ (takeSample i o h s).cfg = s.cfg ∧ (takeSample i o h s).clock = s.clock
    ∧ (takeSample i o h s).peers = s.peers ∧ (takeSample i o h s).house = s.house
    ∧ (takeSample i o h s).loader = s.loader ∧ (takeSample i o h s).pending = s.pending
    ∧ (takeSample i o h s).fan.speed = s.fan.speed ∧ (takeSample i o h s).fan.periods = s.fan.periods
    ∧ (takeSample i o h s).fan.captureCounter = s.fan.captureCounter
    ∧ (takeSample i o h s).frost.account = s.frost.account ∧ (takeSample i o h s).demand.supply = s.demand.supply
    ∧ (takeSample i o h s).line.active = s.line.active
    ∧ (takeSample i o h s).line.transmission = s.line.transmission
    ∧ (takeSample i o h s).line.assembly = s.line.assembly ∧ (takeSample i o h s).line.idleTime = s.line.idleTime
    ∧ (takeSample i o h s).line.busyUntil = s.line.busyUntil
    ∧ (takeSample i o h s).line.modeSlot = s.line.modeSlot
    ∧ (takeSample i o h s).line.boostSlot = s.line.boostSlot ∧ (takeSample i o h s).filter.state = s.filter.state
    ∧ (takeSample i o h s).filter.baseline = s.filter.baseline
    ∧ (takeSample i o h s).filter.runHours = s.filter.runHours ∧ (takeSample i o h s).ctl.steady = s.ctl.steady
    ∧ (takeSample i o h s).ctl.levels = s.ctl.levels ∧ (takeSample i o h s).ctl.stall = s.ctl.stall := by
  simp [takeSample]

@[simp] theorem advanceClock_keeps (len : Nat) (e : Time) (s : State) :
    (advanceClock len e s).now = s.now ∧ (advanceClock len e s).inReset = s.inReset
    ∧ (advanceClock len e s).strapsRead = s.strapsRead ∧ (advanceClock len e s).stationIndex = s.stationIndex
    ∧ (advanceClock len e s).lane = s.lane ∧ (advanceClock len e s).roomClass = s.roomClass
    ∧ (advanceClock len e s).cfg = s.cfg ∧ (advanceClock len e s).seq = s.seq ∧ (advanceClock len e s).fan = s.fan
    ∧ (advanceClock len e s).climate = s.climate ∧ (advanceClock len e s).frost = s.frost
    ∧ (advanceClock len e s).humid = s.humid ∧ (advanceClock len e s).demand = s.demand
    ∧ (advanceClock len e s).filter = s.filter ∧ (advanceClock len e s).peers = s.peers
    ∧ (advanceClock len e s).house = s.house ∧ (advanceClock len e s).line = s.line
    ∧ (advanceClock len e s).ctl = s.ctl ∧ (advanceClock len e s).loader = s.loader
    ∧ (advanceClock len e s).pending = s.pending ∧ (advanceClock len e s).clock.running = s.clock.running
    ∧ (advanceClock len e s).clock.heardLength = s.clock.heardLength :=
  ⟨rfl, rfl, rfl, rfl, rfl, rfl, rfl, rfl, rfl, rfl, rfl, rfl, rfl, rfl, rfl, rfl, rfl, rfl, rfl, rfl,
    rfl, rfl⟩

@[simp] theorem sequencerBoundary_keeps (s : State) :
    (sequencerBoundary s).now = s.now ∧ (sequencerBoundary s).inReset = s.inReset
    ∧ (sequencerBoundary s).strapsRead = s.strapsRead ∧ (sequencerBoundary s).stationIndex = s.stationIndex
    ∧ (sequencerBoundary s).lane = s.lane ∧ (sequencerBoundary s).roomClass = s.roomClass
    ∧ (sequencerBoundary s).cfg = s.cfg ∧ (sequencerBoundary s).clock = s.clock
    ∧ (sequencerBoundary s).climate = s.climate ∧ (sequencerBoundary s).peers = s.peers
    ∧ (sequencerBoundary s).house = s.house ∧ (sequencerBoundary s).loader = s.loader
    ∧ (sequencerBoundary s).pending = s.pending ∧ (sequencerBoundary s).fan.speed = s.fan.speed
    ∧ (sequencerBoundary s).fan.periods = s.fan.periods
    ∧ (sequencerBoundary s).fan.captureCounter = s.fan.captureCounter
    ∧ (sequencerBoundary s).frost.account = s.frost.account
    ∧ (sequencerBoundary s).demand.supply = s.demand.supply ∧ (sequencerBoundary s).line.active = s.line.active
    ∧ (sequencerBoundary s).line.transmission = s.line.transmission
    ∧ (sequencerBoundary s).line.assembly = s.line.assembly
    ∧ (sequencerBoundary s).line.idleTime = s.line.idleTime
    ∧ (sequencerBoundary s).line.busyUntil = s.line.busyUntil
    ∧ (sequencerBoundary s).line.modeSlot = s.line.modeSlot
    ∧ (sequencerBoundary s).line.boostSlot = s.line.boostSlot
    ∧ (sequencerBoundary s).filter.state = s.filter.state
    ∧ (sequencerBoundary s).filter.baseline = s.filter.baseline
    ∧ (sequencerBoundary s).filter.runHours = s.filter.runHours ∧ (sequencerBoundary s).ctl.steady = s.ctl.steady
    ∧ (sequencerBoundary s).ctl.levels = s.ctl.levels ∧ (sequencerBoundary s).ctl.stall = s.ctl.stall := by
  simp [sequencerBoundary]

@[simp] theorem handRecord_keeps (r : HalfRecord) (s : State) :
    (handRecord r s).now = s.now ∧ (handRecord r s).inReset = s.inReset
    ∧ (handRecord r s).strapsRead = s.strapsRead ∧ (handRecord r s).stationIndex = s.stationIndex
    ∧ (handRecord r s).lane = s.lane ∧ (handRecord r s).roomClass = s.roomClass ∧ (handRecord r s).cfg = s.cfg
    ∧ (handRecord r s).clock = s.clock ∧ (handRecord r s).peers = s.peers ∧ (handRecord r s).house = s.house
    ∧ (handRecord r s).pending = s.pending ∧ (handRecord r s).fan.speed = s.fan.speed
    ∧ (handRecord r s).fan.periods = s.fan.periods ∧ (handRecord r s).fan.captureCounter = s.fan.captureCounter
    ∧ (handRecord r s).demand.supply = s.demand.supply ∧ (handRecord r s).line.active = s.line.active
    ∧ (handRecord r s).line.transmission = s.line.transmission ∧ (handRecord r s).line.assembly = s.line.assembly
    ∧ (handRecord r s).line.idleTime = s.line.idleTime ∧ (handRecord r s).line.busyUntil = s.line.busyUntil
    ∧ (handRecord r s).line.modeSlot = s.line.modeSlot ∧ (handRecord r s).line.boostSlot = s.line.boostSlot
    ∧ (handRecord r s).ctl.steady = s.ctl.steady ∧ (handRecord r s).ctl.levels = s.ctl.levels
    ∧ (handRecord r s).ctl.stall = s.ctl.stall := by simp [handRecord]

@[simp] theorem closeBoundary_keeps (s : State) :
    (closeBoundary s).now = s.now ∧ (closeBoundary s).inReset = s.inReset
    ∧ (closeBoundary s).strapsRead = s.strapsRead ∧ (closeBoundary s).stationIndex = s.stationIndex
    ∧ (closeBoundary s).lane = s.lane ∧ (closeBoundary s).roomClass = s.roomClass ∧ (closeBoundary s).cfg = s.cfg
    ∧ (closeBoundary s).clock = s.clock ∧ (closeBoundary s).seq = s.seq ∧ (closeBoundary s).climate = s.climate
    ∧ (closeBoundary s).frost = s.frost ∧ (closeBoundary s).humid = s.humid ∧ (closeBoundary s).filter = s.filter
    ∧ (closeBoundary s).peers = s.peers ∧ (closeBoundary s).house = s.house ∧ (closeBoundary s).ctl = s.ctl
    ∧ (closeBoundary s).loader = s.loader ∧ (closeBoundary s).pending = s.pending
    ∧ (closeBoundary s).fan.direction = s.fan.direction ∧ (closeBoundary s).fan.speed = s.fan.speed
    ∧ (closeBoundary s).fan.periods = s.fan.periods ∧ (closeBoundary s).fan.driveOutput = s.fan.driveOutput
    ∧ (closeBoundary s).fan.holdEnd = s.fan.holdEnd ∧ (closeBoundary s).fan.captureCounter = s.fan.captureCounter
    ∧ (closeBoundary s).demand.stack = s.demand.stack ∧ (closeBoundary s).line.active = s.line.active
    ∧ (closeBoundary s).line.transmission = s.line.transmission
    ∧ (closeBoundary s).line.assembly = s.line.assembly ∧ (closeBoundary s).line.idleTime = s.line.idleTime
    ∧ (closeBoundary s).line.busyUntil = s.line.busyUntil ∧ (closeBoundary s).line.modeSlot = s.line.modeSlot
    ∧ (closeBoundary s).line.boostSlot = s.line.boostSlot ∧ (closeBoundary s).line.steady = s.line.steady := by
  simp [closeBoundary]

@[simp] theorem boundaryWith_keeps (len : Nat) (e : Time) (s : State) :
    (boundaryWith len e s).now = s.now ∧ (boundaryWith len e s).inReset = s.inReset
    ∧ (boundaryWith len e s).strapsRead = s.strapsRead ∧ (boundaryWith len e s).stationIndex = s.stationIndex
    ∧ (boundaryWith len e s).lane = s.lane ∧ (boundaryWith len e s).roomClass = s.roomClass
    ∧ (boundaryWith len e s).cfg = s.cfg ∧ (boundaryWith len e s).peers = s.peers
    ∧ (boundaryWith len e s).house = s.house ∧ (boundaryWith len e s).pending = s.pending
    ∧ (boundaryWith len e s).fan.speed = s.fan.speed ∧ (boundaryWith len e s).fan.periods = s.fan.periods
    ∧ (boundaryWith len e s).fan.captureCounter = s.fan.captureCounter
    ∧ (boundaryWith len e s).clock.running = s.clock.running
    ∧ (boundaryWith len e s).clock.heardLength = s.clock.heardLength
    ∧ (boundaryWith len e s).line.active = s.line.active
    ∧ (boundaryWith len e s).line.transmission = s.line.transmission
    ∧ (boundaryWith len e s).line.assembly = s.line.assembly
    ∧ (boundaryWith len e s).line.idleTime = s.line.idleTime
    ∧ (boundaryWith len e s).line.busyUntil = s.line.busyUntil
    ∧ (boundaryWith len e s).line.modeSlot = s.line.modeSlot
    ∧ (boundaryWith len e s).line.boostSlot = s.line.boostSlot ∧ (boundaryWith len e s).ctl.steady = s.ctl.steady
    ∧ (boundaryWith len e s).ctl.levels = s.ctl.levels ∧ (boundaryWith len e s).ctl.stall = s.ctl.stall := by
  simp [boundaryWith]

@[simp] theorem boundary_keeps (s : State) :
    (boundary s).now = s.now ∧ (boundary s).inReset = s.inReset ∧ (boundary s).strapsRead = s.strapsRead
    ∧ (boundary s).stationIndex = s.stationIndex ∧ (boundary s).lane = s.lane
    ∧ (boundary s).roomClass = s.roomClass ∧ (boundary s).cfg = s.cfg ∧ (boundary s).peers = s.peers
    ∧ (boundary s).house = s.house ∧ (boundary s).pending = s.pending ∧ (boundary s).fan.speed = s.fan.speed
    ∧ (boundary s).fan.periods = s.fan.periods ∧ (boundary s).fan.captureCounter = s.fan.captureCounter
    ∧ (boundary s).clock.running = s.clock.running ∧ (boundary s).clock.heardLength = s.clock.heardLength
    ∧ (boundary s).line.active = s.line.active ∧ (boundary s).line.transmission = s.line.transmission
    ∧ (boundary s).line.assembly = s.line.assembly ∧ (boundary s).line.idleTime = s.line.idleTime
    ∧ (boundary s).line.busyUntil = s.line.busyUntil ∧ (boundary s).line.modeSlot = s.line.modeSlot
    ∧ (boundary s).line.boostSlot = s.line.boostSlot ∧ (boundary s).ctl.steady = s.ctl.steady
    ∧ (boundary s).ctl.levels = s.ctl.levels ∧ (boundary s).ctl.stall = s.ctl.stall := by
  simp [boundary]

@[simp] theorem boundaryIfDue_keeps (s : State) :
    (boundaryIfDue s).now = s.now ∧ (boundaryIfDue s).inReset = s.inReset
    ∧ (boundaryIfDue s).strapsRead = s.strapsRead ∧ (boundaryIfDue s).stationIndex = s.stationIndex
    ∧ (boundaryIfDue s).lane = s.lane ∧ (boundaryIfDue s).roomClass = s.roomClass ∧ (boundaryIfDue s).cfg = s.cfg
    ∧ (boundaryIfDue s).peers = s.peers ∧ (boundaryIfDue s).house = s.house
    ∧ (boundaryIfDue s).pending = s.pending ∧ (boundaryIfDue s).fan.speed = s.fan.speed
    ∧ (boundaryIfDue s).fan.periods = s.fan.periods ∧ (boundaryIfDue s).fan.captureCounter = s.fan.captureCounter
    ∧ (boundaryIfDue s).clock.running = s.clock.running
    ∧ (boundaryIfDue s).clock.heardLength = s.clock.heardLength ∧ (boundaryIfDue s).line.active = s.line.active
    ∧ (boundaryIfDue s).line.transmission = s.line.transmission
    ∧ (boundaryIfDue s).line.assembly = s.line.assembly ∧ (boundaryIfDue s).line.idleTime = s.line.idleTime
    ∧ (boundaryIfDue s).line.busyUntil = s.line.busyUntil ∧ (boundaryIfDue s).line.modeSlot = s.line.modeSlot
    ∧ (boundaryIfDue s).line.boostSlot = s.line.boostSlot ∧ (boundaryIfDue s).ctl.steady = s.ctl.steady
    ∧ (boundaryIfDue s).ctl.levels = s.ctl.levels ∧ (boundaryIfDue s).ctl.stall = s.ctl.stall := by
  unfold boundaryIfDue
  (repeat' split) <;> simp

@[simp] theorem adoptCount_keeps (p : StatusPart) (s : State) :
    (adoptCount p s).now = s.now ∧ (adoptCount p s).inReset = s.inReset
    ∧ (adoptCount p s).strapsRead = s.strapsRead ∧ (adoptCount p s).stationIndex = s.stationIndex
    ∧ (adoptCount p s).lane = s.lane ∧ (adoptCount p s).roomClass = s.roomClass ∧ (adoptCount p s).cfg = s.cfg
    ∧ (adoptCount p s).seq = s.seq ∧ (adoptCount p s).fan = s.fan ∧ (adoptCount p s).climate = s.climate
    ∧ (adoptCount p s).frost = s.frost ∧ (adoptCount p s).humid = s.humid ∧ (adoptCount p s).demand = s.demand
    ∧ (adoptCount p s).filter = s.filter ∧ (adoptCount p s).peers = s.peers ∧ (adoptCount p s).house = s.house
    ∧ (adoptCount p s).line = s.line ∧ (adoptCount p s).ctl = s.ctl ∧ (adoptCount p s).loader = s.loader
    ∧ (adoptCount p s).pending = s.pending ∧ (adoptCount p s).clock.running = s.clock.running :=
  ⟨rfl, rfl, rfl, rfl, rfl, rfl, rfl, rfl, rfl, rfl, rfl, rfl, rfl, rfl, rfl, rfl, rfl, rfl, rfl, rfl,
    rfl⟩

@[simp] theorem startCount_keeps (s : State) :
    (startCount s).now = s.now ∧ (startCount s).inReset = s.inReset ∧ (startCount s).strapsRead = s.strapsRead
    ∧ (startCount s).stationIndex = s.stationIndex ∧ (startCount s).lane = s.lane
    ∧ (startCount s).roomClass = s.roomClass ∧ (startCount s).cfg = s.cfg ∧ (startCount s).seq = s.seq
    ∧ (startCount s).fan = s.fan ∧ (startCount s).climate = s.climate ∧ (startCount s).frost = s.frost
    ∧ (startCount s).humid = s.humid ∧ (startCount s).demand = s.demand ∧ (startCount s).filter = s.filter
    ∧ (startCount s).peers = s.peers ∧ (startCount s).house = s.house ∧ (startCount s).line = s.line
    ∧ (startCount s).ctl = s.ctl ∧ (startCount s).loader = s.loader ∧ (startCount s).pending = s.pending
    ∧ (startCount s).clock.running = s.clock.running ∧ (startCount s).clock.heardLength = s.clock.heardLength :=
  ⟨rfl, rfl, rfl, rfl, rfl, rfl, rfl, rfl, rfl, rfl, rfl, rfl, rfl, rfl, rfl, rfl, rfl, rfl, rfl, rfl,
    rfl, rfl⟩

@[simp] theorem startCycling_keeps (s : State) :
    (startCycling s).now = s.now ∧ (startCycling s).inReset = s.inReset
    ∧ (startCycling s).strapsRead = s.strapsRead ∧ (startCycling s).stationIndex = s.stationIndex
    ∧ (startCycling s).lane = s.lane ∧ (startCycling s).roomClass = s.roomClass ∧ (startCycling s).cfg = s.cfg
    ∧ (startCycling s).peers = s.peers ∧ (startCycling s).house = s.house ∧ (startCycling s).loader = s.loader
    ∧ (startCycling s).pending = s.pending ∧ (startCycling s).fan.speed = s.fan.speed
    ∧ (startCycling s).fan.periods = s.fan.periods ∧ (startCycling s).fan.captureCounter = s.fan.captureCounter
    ∧ (startCycling s).frost.account = s.frost.account ∧ (startCycling s).demand.supply = s.demand.supply
    ∧ (startCycling s).line.active = s.line.active ∧ (startCycling s).line.transmission = s.line.transmission
    ∧ (startCycling s).line.assembly = s.line.assembly ∧ (startCycling s).line.idleTime = s.line.idleTime
    ∧ (startCycling s).line.busyUntil = s.line.busyUntil ∧ (startCycling s).line.modeSlot = s.line.modeSlot
    ∧ (startCycling s).line.boostSlot = s.line.boostSlot ∧ (startCycling s).climate.humidity = s.climate.humidity
    ∧ (startCycling s).climate.outer = s.climate.outer ∧ (startCycling s).climate.inner = s.climate.inner
    ∧ (startCycling s).filter.state = s.filter.state ∧ (startCycling s).filter.baseline = s.filter.baseline
    ∧ (startCycling s).filter.runHours = s.filter.runHours ∧ (startCycling s).ctl.steady = s.ctl.steady
    ∧ (startCycling s).ctl.levels = s.ctl.levels ∧ (startCycling s).ctl.stall = s.ctl.stall := by
  unfold startCycling
  (repeat' split) <;> simp

@[simp] theorem resync_keeps (p : StatusPart) (s : State) :
    (resync p s).now = s.now ∧ (resync p s).inReset = s.inReset ∧ (resync p s).strapsRead = s.strapsRead
    ∧ (resync p s).stationIndex = s.stationIndex ∧ (resync p s).lane = s.lane
    ∧ (resync p s).roomClass = s.roomClass ∧ (resync p s).cfg = s.cfg ∧ (resync p s).peers = s.peers
    ∧ (resync p s).house = s.house ∧ (resync p s).pending = s.pending ∧ (resync p s).fan.speed = s.fan.speed
    ∧ (resync p s).fan.periods = s.fan.periods ∧ (resync p s).fan.captureCounter = s.fan.captureCounter
    ∧ (resync p s).clock.running = s.clock.running ∧ (resync p s).clock.heardLength = s.clock.heardLength
    ∧ (resync p s).line.active = s.line.active ∧ (resync p s).line.transmission = s.line.transmission
    ∧ (resync p s).line.assembly = s.line.assembly ∧ (resync p s).line.idleTime = s.line.idleTime
    ∧ (resync p s).line.busyUntil = s.line.busyUntil ∧ (resync p s).line.modeSlot = s.line.modeSlot
    ∧ (resync p s).line.boostSlot = s.line.boostSlot ∧ (resync p s).ctl.steady = s.ctl.steady
    ∧ (resync p s).ctl.levels = s.ctl.levels ∧ (resync p s).ctl.stall = s.ctl.stall := by
  simp only [resync]
  (repeat' split) <;> simp

@[simp] theorem alignTo_keeps (p : StatusPart) (s : State) :
    (alignTo p s).now = s.now ∧ (alignTo p s).inReset = s.inReset ∧ (alignTo p s).strapsRead = s.strapsRead
    ∧ (alignTo p s).stationIndex = s.stationIndex ∧ (alignTo p s).lane = s.lane
    ∧ (alignTo p s).roomClass = s.roomClass ∧ (alignTo p s).cfg = s.cfg ∧ (alignTo p s).peers = s.peers
    ∧ (alignTo p s).house = s.house ∧ (alignTo p s).pending = s.pending ∧ (alignTo p s).fan.speed = s.fan.speed
    ∧ (alignTo p s).fan.periods = s.fan.periods ∧ (alignTo p s).fan.captureCounter = s.fan.captureCounter
    ∧ (alignTo p s).clock.running = s.clock.running ∧ (alignTo p s).line.active = s.line.active
    ∧ (alignTo p s).line.transmission = s.line.transmission ∧ (alignTo p s).line.assembly = s.line.assembly
    ∧ (alignTo p s).line.idleTime = s.line.idleTime ∧ (alignTo p s).line.busyUntil = s.line.busyUntil
    ∧ (alignTo p s).line.modeSlot = s.line.modeSlot ∧ (alignTo p s).line.boostSlot = s.line.boostSlot
    ∧ (alignTo p s).ctl.steady = s.ctl.steady ∧ (alignTo p s).ctl.levels = s.ctl.levels
    ∧ (alignTo p s).ctl.stall = s.ctl.stall := by
  unfold alignTo
  (repeat' split) <;> simp

@[simp] theorem alignment_keeps (n : Nat) (p : StatusPart) (s : State) :
    (alignment n p s).now = s.now ∧ (alignment n p s).inReset = s.inReset
    ∧ (alignment n p s).strapsRead = s.strapsRead ∧ (alignment n p s).stationIndex = s.stationIndex
    ∧ (alignment n p s).lane = s.lane ∧ (alignment n p s).roomClass = s.roomClass ∧ (alignment n p s).cfg = s.cfg
    ∧ (alignment n p s).peers = s.peers ∧ (alignment n p s).house = s.house
    ∧ (alignment n p s).pending = s.pending ∧ (alignment n p s).fan.speed = s.fan.speed
    ∧ (alignment n p s).fan.periods = s.fan.periods ∧ (alignment n p s).fan.captureCounter = s.fan.captureCounter
    ∧ (alignment n p s).clock.running = s.clock.running ∧ (alignment n p s).line.active = s.line.active
    ∧ (alignment n p s).line.transmission = s.line.transmission
    ∧ (alignment n p s).line.assembly = s.line.assembly ∧ (alignment n p s).line.idleTime = s.line.idleTime
    ∧ (alignment n p s).line.busyUntil = s.line.busyUntil ∧ (alignment n p s).line.modeSlot = s.line.modeSlot
    ∧ (alignment n p s).line.boostSlot = s.line.boostSlot ∧ (alignment n p s).ctl.steady = s.ctl.steady
    ∧ (alignment n p s).ctl.levels = s.ctl.levels ∧ (alignment n p s).ctl.stall = s.ctl.stall := by
  unfold alignment
  (repeat' split) <;> simp

@[simp] theorem putPeer_keeps (r : PeerRec) (s : State) :
    (putPeer r s).now = s.now ∧ (putPeer r s).inReset = s.inReset ∧ (putPeer r s).strapsRead = s.strapsRead
    ∧ (putPeer r s).stationIndex = s.stationIndex ∧ (putPeer r s).lane = s.lane
    ∧ (putPeer r s).roomClass = s.roomClass ∧ (putPeer r s).cfg = s.cfg ∧ (putPeer r s).clock = s.clock
    ∧ (putPeer r s).seq = s.seq ∧ (putPeer r s).fan = s.fan ∧ (putPeer r s).climate = s.climate
    ∧ (putPeer r s).frost = s.frost ∧ (putPeer r s).humid = s.humid ∧ (putPeer r s).demand = s.demand
    ∧ (putPeer r s).filter = s.filter ∧ (putPeer r s).house = s.house ∧ (putPeer r s).line = s.line
    ∧ (putPeer r s).ctl = s.ctl ∧ (putPeer r s).loader = s.loader ∧ (putPeer r s).pending = s.pending :=
  ⟨rfl, rfl, rfl, rfl, rfl, rfl, rfl, rfl, rfl, rfl, rfl, rfl, rfl, rfl, rfl, rfl, rfl, rfl, rfl, rfl⟩

@[simp] theorem updatePeer_keeps (n : Nat) (f : PeerRec → PeerRec) (s : State) :
    (updatePeer n f s).now = s.now ∧ (updatePeer n f s).inReset = s.inReset
    ∧ (updatePeer n f s).strapsRead = s.strapsRead ∧ (updatePeer n f s).stationIndex = s.stationIndex
    ∧ (updatePeer n f s).lane = s.lane ∧ (updatePeer n f s).roomClass = s.roomClass
    ∧ (updatePeer n f s).cfg = s.cfg ∧ (updatePeer n f s).clock = s.clock ∧ (updatePeer n f s).seq = s.seq
    ∧ (updatePeer n f s).fan = s.fan ∧ (updatePeer n f s).climate = s.climate ∧ (updatePeer n f s).frost = s.frost
    ∧ (updatePeer n f s).humid = s.humid ∧ (updatePeer n f s).demand = s.demand
    ∧ (updatePeer n f s).filter = s.filter ∧ (updatePeer n f s).house = s.house ∧ (updatePeer n f s).line = s.line
    ∧ (updatePeer n f s).ctl = s.ctl ∧ (updatePeer n f s).loader = s.loader
    ∧ (updatePeer n f s).pending = s.pending :=
  ⟨rfl, rfl, rfl, rfl, rfl, rfl, rfl, rfl, rfl, rfl, rfl, rfl, rfl, rfl, rfl, rfl, rfl, rfl, rfl, rfl⟩

@[simp] theorem setHouse_keeps (h : HouseMode) (s : State) :
    (setHouse h s).now = s.now ∧ (setHouse h s).inReset = s.inReset ∧ (setHouse h s).strapsRead = s.strapsRead
    ∧ (setHouse h s).stationIndex = s.stationIndex ∧ (setHouse h s).lane = s.lane
    ∧ (setHouse h s).roomClass = s.roomClass ∧ (setHouse h s).cfg = s.cfg ∧ (setHouse h s).clock = s.clock
    ∧ (setHouse h s).seq = s.seq ∧ (setHouse h s).fan = s.fan ∧ (setHouse h s).climate = s.climate
    ∧ (setHouse h s).frost = s.frost ∧ (setHouse h s).humid = s.humid ∧ (setHouse h s).filter = s.filter
    ∧ (setHouse h s).peers = s.peers ∧ (setHouse h s).line = s.line ∧ (setHouse h s).ctl = s.ctl
    ∧ (setHouse h s).loader = s.loader ∧ (setHouse h s).pending = s.pending
    ∧ (setHouse h s).demand.stack = s.demand.stack ∧ (setHouse h s).demand.supply = s.demand.supply := by
  unfold setHouse
  (repeat' split) <;> simp

@[simp] theorem weighOffer_keeps (o : Offer) (call : Bool) (s : State) :
    (weighOffer o call s).now = s.now ∧ (weighOffer o call s).inReset = s.inReset
    ∧ (weighOffer o call s).strapsRead = s.strapsRead ∧ (weighOffer o call s).stationIndex = s.stationIndex
    ∧ (weighOffer o call s).lane = s.lane ∧ (weighOffer o call s).roomClass = s.roomClass
    ∧ (weighOffer o call s).cfg = s.cfg ∧ (weighOffer o call s).clock = s.clock
    ∧ (weighOffer o call s).fan = s.fan ∧ (weighOffer o call s).climate = s.climate
    ∧ (weighOffer o call s).frost = s.frost ∧ (weighOffer o call s).humid = s.humid
    ∧ (weighOffer o call s).filter = s.filter ∧ (weighOffer o call s).peers = s.peers
    ∧ (weighOffer o call s).line = s.line ∧ (weighOffer o call s).ctl = s.ctl
    ∧ (weighOffer o call s).loader = s.loader ∧ (weighOffer o call s).pending = s.pending
    ∧ (weighOffer o call s).seq.state = s.seq.state ∧ (weighOffer o call s).seq.phase = s.seq.phase
    ∧ (weighOffer o call s).seq.target = s.seq.target
    ∧ (weighOffer o call s).seq.stallHistory = s.seq.stallHistory
    ∧ (weighOffer o call s).demand.stack = s.demand.stack ∧ (weighOffer o call s).demand.supply = s.demand.supply := by
  simp only [weighOffer]
  (repeat' split) <;> simp

@[simp] theorem heardBoost_keeps (bs : List Byte) (n : Nat) (s : State) :
    (heardBoost bs n s).now = s.now ∧ (heardBoost bs n s).inReset = s.inReset
    ∧ (heardBoost bs n s).strapsRead = s.strapsRead ∧ (heardBoost bs n s).stationIndex = s.stationIndex
    ∧ (heardBoost bs n s).lane = s.lane ∧ (heardBoost bs n s).roomClass = s.roomClass
    ∧ (heardBoost bs n s).cfg = s.cfg ∧ (heardBoost bs n s).clock = s.clock
    ∧ (heardBoost bs n s).climate = s.climate ∧ (heardBoost bs n s).frost = s.frost
    ∧ (heardBoost bs n s).humid = s.humid ∧ (heardBoost bs n s).peers = s.peers
    ∧ (heardBoost bs n s).house = s.house ∧ (heardBoost bs n s).line = s.line ∧ (heardBoost bs n s).ctl = s.ctl
    ∧ (heardBoost bs n s).loader = s.loader ∧ (heardBoost bs n s).pending = s.pending
    ∧ (heardBoost bs n s).seq.state = s.seq.state ∧ (heardBoost bs n s).seq.phase = s.seq.phase
    ∧ (heardBoost bs n s).seq.target = s.seq.target ∧ (heardBoost bs n s).seq.stallHistory = s.seq.stallHistory
    ∧ (heardBoost bs n s).fan.direction = s.fan.direction ∧ (heardBoost bs n s).fan.speed = s.fan.speed
    ∧ (heardBoost bs n s).fan.periods = s.fan.periods ∧ (heardBoost bs n s).fan.driveOutput = s.fan.driveOutput
    ∧ (heardBoost bs n s).fan.holdEnd = s.fan.holdEnd
    ∧ (heardBoost bs n s).fan.captureCounter = s.fan.captureCounter
    ∧ (heardBoost bs n s).demand.supply = s.demand.supply ∧ (heardBoost bs n s).filter.state = s.filter.state
    ∧ (heardBoost bs n s).filter.baseline = s.filter.baseline
    ∧ (heardBoost bs n s).filter.runHours = s.filter.runHours := by
  unfold heardBoost
  (repeat' split) <;> simp

@[simp] theorem reportPlace_keeps (freed : Bool) (s : State) :
    (reportPlace freed s).now = s.now ∧ (reportPlace freed s).inReset = s.inReset
    ∧ (reportPlace freed s).strapsRead = s.strapsRead ∧ (reportPlace freed s).stationIndex = s.stationIndex
    ∧ (reportPlace freed s).lane = s.lane ∧ (reportPlace freed s).roomClass = s.roomClass
    ∧ (reportPlace freed s).cfg = s.cfg ∧ (reportPlace freed s).clock = s.clock
    ∧ (reportPlace freed s).climate = s.climate ∧ (reportPlace freed s).peers = s.peers
    ∧ (reportPlace freed s).house = s.house ∧ (reportPlace freed s).loader = s.loader
    ∧ (reportPlace freed s).pending = s.pending ∧ (reportPlace freed s).fan.speed = s.fan.speed
    ∧ (reportPlace freed s).fan.periods = s.fan.periods
    ∧ (reportPlace freed s).fan.captureCounter = s.fan.captureCounter
    ∧ (reportPlace freed s).frost.account = s.frost.account
    ∧ (reportPlace freed s).demand.supply = s.demand.supply ∧ (reportPlace freed s).line.active = s.line.active
    ∧ (reportPlace freed s).line.transmission = s.line.transmission
    ∧ (reportPlace freed s).line.assembly = s.line.assembly
    ∧ (reportPlace freed s).line.idleTime = s.line.idleTime
    ∧ (reportPlace freed s).line.busyUntil = s.line.busyUntil
    ∧ (reportPlace freed s).line.modeSlot = s.line.modeSlot
    ∧ (reportPlace freed s).line.boostSlot = s.line.boostSlot
    ∧ (reportPlace freed s).filter.state = s.filter.state
    ∧ (reportPlace freed s).filter.baseline = s.filter.baseline
    ∧ (reportPlace freed s).filter.runHours = s.filter.runHours ∧ (reportPlace freed s).ctl.steady = s.ctl.steady
    ∧ (reportPlace freed s).ctl.levels = s.ctl.levels ∧ (reportPlace freed s).ctl.stall = s.ctl.stall := by
  unfold reportPlace
  (repeat' split) <;> simp

@[simp] theorem enterStatus_keeps (bs : List Byte) (n : Nat) (arrival : Time) (s : State) :
    (enterStatus bs n arrival s).now = s.now ∧ (enterStatus bs n arrival s).inReset = s.inReset
    ∧ (enterStatus bs n arrival s).strapsRead = s.strapsRead
    ∧ (enterStatus bs n arrival s).stationIndex = s.stationIndex ∧ (enterStatus bs n arrival s).lane = s.lane
    ∧ (enterStatus bs n arrival s).roomClass = s.roomClass ∧ (enterStatus bs n arrival s).cfg = s.cfg
    ∧ (enterStatus bs n arrival s).pending = s.pending ∧ (enterStatus bs n arrival s).fan.speed = s.fan.speed
    ∧ (enterStatus bs n arrival s).fan.periods = s.fan.periods
    ∧ (enterStatus bs n arrival s).fan.captureCounter = s.fan.captureCounter
    ∧ (enterStatus bs n arrival s).clock.running = s.clock.running
    ∧ (enterStatus bs n arrival s).line.active = s.line.active
    ∧ (enterStatus bs n arrival s).line.transmission = s.line.transmission
    ∧ (enterStatus bs n arrival s).line.assembly = s.line.assembly
    ∧ (enterStatus bs n arrival s).line.idleTime = s.line.idleTime
    ∧ (enterStatus bs n arrival s).line.busyUntil = s.line.busyUntil
    ∧ (enterStatus bs n arrival s).line.modeSlot = s.line.modeSlot
    ∧ (enterStatus bs n arrival s).line.boostSlot = s.line.boostSlot
    ∧ (enterStatus bs n arrival s).ctl.steady = s.ctl.steady
    ∧ (enterStatus bs n arrival s).ctl.levels = s.ctl.levels
    ∧ (enterStatus bs n arrival s).ctl.stall = s.ctl.stall := by
  simp [enterStatus]

@[simp] theorem enterNotice_keeps (bs : List Byte) (n : Nat) (arrival : Time) (s : State) :
    (enterNotice bs n arrival s).now = s.now ∧ (enterNotice bs n arrival s).inReset = s.inReset
    ∧ (enterNotice bs n arrival s).strapsRead = s.strapsRead
    ∧ (enterNotice bs n arrival s).stationIndex = s.stationIndex ∧ (enterNotice bs n arrival s).lane = s.lane
    ∧ (enterNotice bs n arrival s).roomClass = s.roomClass ∧ (enterNotice bs n arrival s).cfg = s.cfg
    ∧ (enterNotice bs n arrival s).climate = s.climate ∧ (enterNotice bs n arrival s).house = s.house
    ∧ (enterNotice bs n arrival s).loader = s.loader ∧ (enterNotice bs n arrival s).pending = s.pending
    ∧ (enterNotice bs n arrival s).fan.speed = s.fan.speed
    ∧ (enterNotice bs n arrival s).fan.periods = s.fan.periods
    ∧ (enterNotice bs n arrival s).fan.captureCounter = s.fan.captureCounter
    ∧ (enterNotice bs n arrival s).clock.running = s.clock.running
    ∧ (enterNotice bs n arrival s).clock.c = s.clock.c
    ∧ (enterNotice bs n arrival s).clock.length = s.clock.length
    ∧ (enterNotice bs n arrival s).frost.account = s.frost.account
    ∧ (enterNotice bs n arrival s).demand.supply = s.demand.supply
    ∧ (enterNotice bs n arrival s).line.active = s.line.active
    ∧ (enterNotice bs n arrival s).line.transmission = s.line.transmission
    ∧ (enterNotice bs n arrival s).line.assembly = s.line.assembly
    ∧ (enterNotice bs n arrival s).line.idleTime = s.line.idleTime
    ∧ (enterNotice bs n arrival s).line.busyUntil = s.line.busyUntil
    ∧ (enterNotice bs n arrival s).line.modeSlot = s.line.modeSlot
    ∧ (enterNotice bs n arrival s).line.boostSlot = s.line.boostSlot
    ∧ (enterNotice bs n arrival s).filter.state = s.filter.state
    ∧ (enterNotice bs n arrival s).filter.baseline = s.filter.baseline
    ∧ (enterNotice bs n arrival s).filter.runHours = s.filter.runHours
    ∧ (enterNotice bs n arrival s).ctl.steady = s.ctl.steady
    ∧ (enterNotice bs n arrival s).ctl.levels = s.ctl.levels
    ∧ (enterNotice bs n arrival s).ctl.stall = s.ctl.stall := by
  simp [enterNotice]

@[simp] theorem enterModeCall_keeps (bs : List Byte) (n : Nat) (arrival : Time) (s : State) :
    (enterModeCall bs n arrival s).now = s.now ∧ (enterModeCall bs n arrival s).inReset = s.inReset
    ∧ (enterModeCall bs n arrival s).strapsRead = s.strapsRead
    ∧ (enterModeCall bs n arrival s).stationIndex = s.stationIndex ∧ (enterModeCall bs n arrival s).lane = s.lane
    ∧ (enterModeCall bs n arrival s).roomClass = s.roomClass ∧ (enterModeCall bs n arrival s).cfg = s.cfg
    ∧ (enterModeCall bs n arrival s).fan = s.fan ∧ (enterModeCall bs n arrival s).climate = s.climate
    ∧ (enterModeCall bs n arrival s).frost = s.frost ∧ (enterModeCall bs n arrival s).humid = s.humid
    ∧ (enterModeCall bs n arrival s).filter = s.filter ∧ (enterModeCall bs n arrival s).line = s.line
    ∧ (enterModeCall bs n arrival s).ctl = s.ctl ∧ (enterModeCall bs n arrival s).loader = s.loader
    ∧ (enterModeCall bs n arrival s).pending = s.pending ∧ (enterModeCall bs n arrival s).seq.state = s.seq.state
    ∧ (enterModeCall bs n arrival s).seq.phase = s.seq.phase
    ∧ (enterModeCall bs n arrival s).seq.target = s.seq.target
    ∧ (enterModeCall bs n arrival s).seq.stallHistory = s.seq.stallHistory
    ∧ (enterModeCall bs n arrival s).clock.running = s.clock.running
    ∧ (enterModeCall bs n arrival s).clock.c = s.clock.c
    ∧ (enterModeCall bs n arrival s).clock.length = s.clock.length
    ∧ (enterModeCall bs n arrival s).demand.stack = s.demand.stack
    ∧ (enterModeCall bs n arrival s).demand.supply = s.demand.supply := by
  simp [enterModeCall]

@[simp] theorem enterBoostCall_keeps (bs : List Byte) (n : Nat) (arrival : Time) (s : State) :
    (enterBoostCall bs n arrival s).now = s.now ∧ (enterBoostCall bs n arrival s).inReset = s.inReset
    ∧ (enterBoostCall bs n arrival s).strapsRead = s.strapsRead
    ∧ (enterBoostCall bs n arrival s).stationIndex = s.stationIndex
    ∧ (enterBoostCall bs n arrival s).lane = s.lane ∧ (enterBoostCall bs n arrival s).roomClass = s.roomClass
    ∧ (enterBoostCall bs n arrival s).cfg = s.cfg ∧ (enterBoostCall bs n arrival s).climate = s.climate
    ∧ (enterBoostCall bs n arrival s).frost = s.frost ∧ (enterBoostCall bs n arrival s).humid = s.humid
    ∧ (enterBoostCall bs n arrival s).house = s.house ∧ (enterBoostCall bs n arrival s).line = s.line
    ∧ (enterBoostCall bs n arrival s).ctl = s.ctl ∧ (enterBoostCall bs n arrival s).loader = s.loader
    ∧ (enterBoostCall bs n arrival s).pending = s.pending
    ∧ (enterBoostCall bs n arrival s).seq.state = s.seq.state
    ∧ (enterBoostCall bs n arrival s).seq.phase = s.seq.phase
    ∧ (enterBoostCall bs n arrival s).seq.target = s.seq.target
    ∧ (enterBoostCall bs n arrival s).seq.stallHistory = s.seq.stallHistory
    ∧ (enterBoostCall bs n arrival s).fan.direction = s.fan.direction
    ∧ (enterBoostCall bs n arrival s).fan.speed = s.fan.speed
    ∧ (enterBoostCall bs n arrival s).fan.periods = s.fan.periods
    ∧ (enterBoostCall bs n arrival s).fan.driveOutput = s.fan.driveOutput
    ∧ (enterBoostCall bs n arrival s).fan.holdEnd = s.fan.holdEnd
    ∧ (enterBoostCall bs n arrival s).fan.captureCounter = s.fan.captureCounter
    ∧ (enterBoostCall bs n arrival s).clock.running = s.clock.running
    ∧ (enterBoostCall bs n arrival s).clock.c = s.clock.c
    ∧ (enterBoostCall bs n arrival s).clock.length = s.clock.length
    ∧ (enterBoostCall bs n arrival s).demand.supply = s.demand.supply
    ∧ (enterBoostCall bs n arrival s).filter.state = s.filter.state
    ∧ (enterBoostCall bs n arrival s).filter.baseline = s.filter.baseline
    ∧ (enterBoostCall bs n arrival s).filter.runHours = s.filter.runHours := by
  simp [enterBoostCall]

@[simp] theorem enterFrame_keeps (bs : List Byte) (n : Nat) (arrival : Time) (s : State) :
    (enterFrame bs n arrival s).now = s.now ∧ (enterFrame bs n arrival s).inReset = s.inReset
    ∧ (enterFrame bs n arrival s).strapsRead = s.strapsRead
    ∧ (enterFrame bs n arrival s).stationIndex = s.stationIndex ∧ (enterFrame bs n arrival s).lane = s.lane
    ∧ (enterFrame bs n arrival s).roomClass = s.roomClass ∧ (enterFrame bs n arrival s).cfg = s.cfg
    ∧ (enterFrame bs n arrival s).pending = s.pending ∧ (enterFrame bs n arrival s).fan.speed = s.fan.speed
    ∧ (enterFrame bs n arrival s).fan.periods = s.fan.periods
    ∧ (enterFrame bs n arrival s).fan.captureCounter = s.fan.captureCounter
    ∧ (enterFrame bs n arrival s).clock.running = s.clock.running
    ∧ (enterFrame bs n arrival s).line.active = s.line.active
    ∧ (enterFrame bs n arrival s).line.transmission = s.line.transmission
    ∧ (enterFrame bs n arrival s).line.assembly = s.line.assembly
    ∧ (enterFrame bs n arrival s).line.idleTime = s.line.idleTime
    ∧ (enterFrame bs n arrival s).line.busyUntil = s.line.busyUntil
    ∧ (enterFrame bs n arrival s).line.modeSlot = s.line.modeSlot
    ∧ (enterFrame bs n arrival s).line.boostSlot = s.line.boostSlot
    ∧ (enterFrame bs n arrival s).ctl.steady = s.ctl.steady
    ∧ (enterFrame bs n arrival s).ctl.levels = s.ctl.levels ∧ (enterFrame bs n arrival s).ctl.stall = s.ctl.stall := by
  unfold enterFrame
  (repeat' split) <;> simp

@[simp] theorem makeStale_keeps (p : PeerRec) (s : State) :
    (makeStale p s).now = s.now ∧ (makeStale p s).inReset = s.inReset ∧ (makeStale p s).strapsRead = s.strapsRead
    ∧ (makeStale p s).stationIndex = s.stationIndex ∧ (makeStale p s).lane = s.lane
    ∧ (makeStale p s).roomClass = s.roomClass ∧ (makeStale p s).cfg = s.cfg ∧ (makeStale p s).climate = s.climate
    ∧ (makeStale p s).house = s.house ∧ (makeStale p s).loader = s.loader ∧ (makeStale p s).pending = s.pending
    ∧ (makeStale p s).fan.speed = s.fan.speed ∧ (makeStale p s).fan.periods = s.fan.periods
    ∧ (makeStale p s).fan.captureCounter = s.fan.captureCounter ∧ (makeStale p s).clock.running = s.clock.running
    ∧ (makeStale p s).clock.c = s.clock.c ∧ (makeStale p s).clock.length = s.clock.length
    ∧ (makeStale p s).frost.account = s.frost.account ∧ (makeStale p s).demand.supply = s.demand.supply
    ∧ (makeStale p s).line.active = s.line.active ∧ (makeStale p s).line.transmission = s.line.transmission
    ∧ (makeStale p s).line.assembly = s.line.assembly ∧ (makeStale p s).line.idleTime = s.line.idleTime
    ∧ (makeStale p s).line.busyUntil = s.line.busyUntil ∧ (makeStale p s).line.modeSlot = s.line.modeSlot
    ∧ (makeStale p s).line.boostSlot = s.line.boostSlot ∧ (makeStale p s).filter.state = s.filter.state
    ∧ (makeStale p s).filter.baseline = s.filter.baseline ∧ (makeStale p s).filter.runHours = s.filter.runHours
    ∧ (makeStale p s).ctl.steady = s.ctl.steady ∧ (makeStale p s).ctl.levels = s.ctl.levels
    ∧ (makeStale p s).ctl.stall = s.ctl.stall := by simp [makeStale]

@[simp] theorem removePeer_keeps (p : PeerRec) (s : State) :
    (removePeer p s).now = s.now ∧ (removePeer p s).inReset = s.inReset
    ∧ (removePeer p s).strapsRead = s.strapsRead ∧ (removePeer p s).stationIndex = s.stationIndex
    ∧ (removePeer p s).lane = s.lane ∧ (removePeer p s).roomClass = s.roomClass ∧ (removePeer p s).cfg = s.cfg
    ∧ (removePeer p s).climate = s.climate ∧ (removePeer p s).house = s.house ∧ (removePeer p s).loader = s.loader
    ∧ (removePeer p s).pending = s.pending ∧ (removePeer p s).fan.speed = s.fan.speed
    ∧ (removePeer p s).fan.periods = s.fan.periods ∧ (removePeer p s).fan.captureCounter = s.fan.captureCounter
    ∧ (removePeer p s).clock.running = s.clock.running ∧ (removePeer p s).clock.c = s.clock.c
    ∧ (removePeer p s).clock.length = s.clock.length ∧ (removePeer p s).frost.account = s.frost.account
    ∧ (removePeer p s).demand.supply = s.demand.supply ∧ (removePeer p s).line.active = s.line.active
    ∧ (removePeer p s).line.transmission = s.line.transmission ∧ (removePeer p s).line.assembly = s.line.assembly
    ∧ (removePeer p s).line.idleTime = s.line.idleTime ∧ (removePeer p s).line.busyUntil = s.line.busyUntil
    ∧ (removePeer p s).line.modeSlot = s.line.modeSlot ∧ (removePeer p s).line.boostSlot = s.line.boostSlot
    ∧ (removePeer p s).filter.state = s.filter.state ∧ (removePeer p s).filter.baseline = s.filter.baseline
    ∧ (removePeer p s).filter.runHours = s.filter.runHours ∧ (removePeer p s).ctl.steady = s.ctl.steady
    ∧ (removePeer p s).ctl.levels = s.ctl.levels ∧ (removePeer p s).ctl.stall = s.ctl.stall := by
  simp [removePeer]

@[simp] theorem fallBack_keeps (p : PeerRec) (s : State) :
    (fallBack p s).now = s.now ∧ (fallBack p s).inReset = s.inReset ∧ (fallBack p s).strapsRead = s.strapsRead
    ∧ (fallBack p s).stationIndex = s.stationIndex ∧ (fallBack p s).lane = s.lane
    ∧ (fallBack p s).roomClass = s.roomClass ∧ (fallBack p s).cfg = s.cfg ∧ (fallBack p s).clock = s.clock
    ∧ (fallBack p s).climate = s.climate ∧ (fallBack p s).house = s.house ∧ (fallBack p s).loader = s.loader
    ∧ (fallBack p s).pending = s.pending ∧ (fallBack p s).fan.speed = s.fan.speed
    ∧ (fallBack p s).fan.periods = s.fan.periods ∧ (fallBack p s).fan.captureCounter = s.fan.captureCounter
    ∧ (fallBack p s).frost.account = s.frost.account ∧ (fallBack p s).demand.supply = s.demand.supply
    ∧ (fallBack p s).line.active = s.line.active ∧ (fallBack p s).line.transmission = s.line.transmission
    ∧ (fallBack p s).line.assembly = s.line.assembly ∧ (fallBack p s).line.idleTime = s.line.idleTime
    ∧ (fallBack p s).line.busyUntil = s.line.busyUntil ∧ (fallBack p s).line.modeSlot = s.line.modeSlot
    ∧ (fallBack p s).line.boostSlot = s.line.boostSlot ∧ (fallBack p s).filter.state = s.filter.state
    ∧ (fallBack p s).filter.baseline = s.filter.baseline ∧ (fallBack p s).filter.runHours = s.filter.runHours
    ∧ (fallBack p s).ctl.steady = s.ctl.steady ∧ (fallBack p s).ctl.levels = s.ctl.levels
    ∧ (fallBack p s).ctl.stall = s.ctl.stall := by simp [fallBack]

@[simp] theorem originate_keeps (m : Mode) (summer : Bool) (s : State) :
    (originate m summer s).now = s.now ∧ (originate m summer s).inReset = s.inReset
    ∧ (originate m summer s).strapsRead = s.strapsRead ∧ (originate m summer s).stationIndex = s.stationIndex
    ∧ (originate m summer s).lane = s.lane ∧ (originate m summer s).roomClass = s.roomClass
    ∧ (originate m summer s).cfg = s.cfg ∧ (originate m summer s).clock = s.clock
    ∧ (originate m summer s).seq = s.seq ∧ (originate m summer s).fan = s.fan
    ∧ (originate m summer s).climate = s.climate ∧ (originate m summer s).frost = s.frost
    ∧ (originate m summer s).humid = s.humid ∧ (originate m summer s).filter = s.filter
    ∧ (originate m summer s).peers = s.peers ∧ (originate m summer s).line = s.line
    ∧ (originate m summer s).ctl = s.ctl ∧ (originate m summer s).loader = s.loader
    ∧ (originate m summer s).pending = s.pending ∧ (originate m summer s).demand.stack = s.demand.stack
    ∧ (originate m summer s).demand.supply = s.demand.supply := by
  simp [originate]

end Sys2Proof.Machine
end

