-- ==== Sys2Proof/Laws/KeepsLine.lean ====
section
/-! SUPPORT. What the line interface, the local controls, the loader and the commands leave as it was: one
theorem for each operation. -/

namespace Sys2Proof.Machine

@[simp] theorem beginFrame_keeps (k : FrameKind) (s : State) :
    (beginFrame k s).now = s.now ∧ (beginFrame k s).inReset = s.inReset
    ∧ (beginFrame k s).strapsRead = s.strapsRead ∧ (beginFrame k s).stationIndex = s.stationIndex
    ∧ (beginFrame k s).lane = s.lane ∧ (beginFrame k s).roomClass = s.roomClass ∧ (beginFrame k s).cfg = s.cfg
    ∧ (beginFrame k s).clock = s.clock ∧ (beginFrame k s).seq = s.seq ∧ (beginFrame k s).fan = s.fan
    ∧ (beginFrame k s).climate = s.climate ∧ (beginFrame k s).frost = s.frost ∧ (beginFrame k s).humid = s.humid
    ∧ (beginFrame k s).demand = s.demand ∧ (beginFrame k s).filter = s.filter ∧ (beginFrame k s).peers = s.peers
    ∧ (beginFrame k s).house = s.house ∧ (beginFrame k s).ctl = s.ctl ∧ (beginFrame k s).loader = s.loader
    ∧ (beginFrame k s).pending = s.pending ∧ (beginFrame k s).line.active = s.line.active
    ∧ (beginFrame k s).line.assembly = s.line.assembly ∧ (beginFrame k s).line.busyUntil = s.line.busyUntil
    ∧ (beginFrame k s).line.modeSlot = s.line.modeSlot ∧ (beginFrame k s).line.boostSlot = s.line.boostSlot :=
  ⟨rfl, rfl, rfl, rfl, rfl, rfl, rfl, rfl, rfl, rfl, rfl, rfl, rfl, rfl, rfl, rfl, rfl, rfl, rfl, rfl,
    rfl, rfl, rfl, rfl, rfl⟩

@[simp] theorem startFrame_keeps (s : State) :
    (startFrame s).now = s.now ∧ (startFrame s).inReset = s.inReset ∧ (startFrame s).strapsRead = s.strapsRead
    ∧ (startFrame s).stationIndex = s.stationIndex ∧ (startFrame s).lane = s.lane
    ∧ (startFrame s).roomClass = s.roomClass ∧ (startFrame s).cfg = s.cfg ∧ (startFrame s).clock = s.clock
    ∧ (startFrame s).seq = s.seq ∧ (startFrame s).fan = s.fan ∧ (startFrame s).climate = s.climate
    ∧ (startFrame s).frost = s.frost ∧ (startFrame s).humid = s.humid ∧ (startFrame s).demand = s.demand
    ∧ (startFrame s).filter = s.filter ∧ (startFrame s).peers = s.peers ∧ (startFrame s).house = s.house
    ∧ (startFrame s).ctl = s.ctl ∧ (startFrame s).loader = s.loader ∧ (startFrame s).pending = s.pending
    ∧ (startFrame s).line.active = s.line.active ∧ (startFrame s).line.assembly = s.line.assembly
    ∧ (startFrame s).line.busyUntil = s.line.busyUntil ∧ (startFrame s).line.modeSlot = s.line.modeSlot
    ∧ (startFrame s).line.boostSlot = s.line.boostSlot := by
  unfold startFrame
  (repeat' split) <;> simp

@[simp] theorem loseContention_keeps (h : Byte) (s : State) :
    (loseContention h s).now = s.now ∧ (loseContention h s).inReset = s.inReset
    ∧ (loseContention h s).strapsRead = s.strapsRead ∧ (loseContention h s).stationIndex = s.stationIndex
    ∧ (loseContention h s).lane = s.lane ∧ (loseContention h s).roomClass = s.roomClass
    ∧ (loseContention h s).cfg = s.cfg ∧ (loseContention h s).clock = s.clock ∧ (loseContention h s).seq = s.seq
    ∧ (loseContention h s).fan = s.fan ∧ (loseContention h s).climate = s.climate
    ∧ (loseContention h s).frost = s.frost ∧ (loseContention h s).humid = s.humid
    ∧ (loseContention h s).demand = s.demand ∧ (loseContention h s).filter = s.filter
    ∧ (loseContention h s).peers = s.peers ∧ (loseContention h s).house = s.house
    ∧ (loseContention h s).ctl = s.ctl ∧ (loseContention h s).loader = s.loader
    ∧ (loseContention h s).pending = s.pending ∧ (loseContention h s).line.active = s.line.active
    ∧ (loseContention h s).line.busyUntil = s.line.busyUntil
    ∧ (loseContention h s).line.modeSlot = s.line.modeSlot
    ∧ (loseContention h s).line.boostSlot = s.line.boostSlot := by
  unfold loseContention
  (repeat' split) <;> simp

@[simp] theorem collide_keeps (restEnd : Time) (x : Transmission) (s : State) :
    (collide restEnd x s).now = s.now ∧ (collide restEnd x s).inReset = s.inReset
    ∧ (collide restEnd x s).strapsRead = s.strapsRead ∧ (collide restEnd x s).stationIndex = s.stationIndex
    ∧ (collide restEnd x s).lane = s.lane ∧ (collide restEnd x s).roomClass = s.roomClass
    ∧ (collide restEnd x s).cfg = s.cfg ∧ (collide restEnd x s).clock = s.clock
    ∧ (collide restEnd x s).seq = s.seq ∧ (collide restEnd x s).fan = s.fan
    ∧ (collide restEnd x s).climate = s.climate ∧ (collide restEnd x s).frost = s.frost
    ∧ (collide restEnd x s).humid = s.humid ∧ (collide restEnd x s).demand = s.demand
    ∧ (collide restEnd x s).filter = s.filter ∧ (collide restEnd x s).peers = s.peers
    ∧ (collide restEnd x s).house = s.house ∧ (collide restEnd x s).loader = s.loader
    ∧ (collide restEnd x s).pending = s.pending ∧ (collide restEnd x s).line.active = s.line.active
    ∧ (collide restEnd x s).line.assembly = s.line.assembly
    ∧ (collide restEnd x s).line.modeSlot = s.line.modeSlot
    ∧ (collide restEnd x s).line.boostSlot = s.line.boostSlot ∧ (collide restEnd x s).ctl.levels = s.ctl.levels
    ∧ (collide restEnd x s).ctl.stall = s.ctl.stall ∧ (collide restEnd x s).ctl.amber = s.ctl.amber
    ∧ (collide restEnd x s).ctl.green = s.ctl.green := by
  simp only [collide]
  (repeat' split) <;> simp

@[simp] theorem takeCollision_keeps (restEnd : Time) (s : State) :
    (takeCollision restEnd s).now = s.now ∧ (takeCollision restEnd s).inReset = s.inReset
    ∧ (takeCollision restEnd s).strapsRead = s.strapsRead
    ∧ (takeCollision restEnd s).stationIndex = s.stationIndex ∧ (takeCollision restEnd s).lane = s.lane
    ∧ (takeCollision restEnd s).roomClass = s.roomClass ∧ (takeCollision restEnd s).cfg = s.cfg
    ∧ (takeCollision restEnd s).clock = s.clock ∧ (takeCollision restEnd s).seq = s.seq
    ∧ (takeCollision restEnd s).fan = s.fan ∧ (takeCollision restEnd s).climate = s.climate
    ∧ (takeCollision restEnd s).frost = s.frost ∧ (takeCollision restEnd s).humid = s.humid
    ∧ (takeCollision restEnd s).demand = s.demand ∧ (takeCollision restEnd s).filter = s.filter
    ∧ (takeCollision restEnd s).peers = s.peers ∧ (takeCollision restEnd s).house = s.house
    ∧ (takeCollision restEnd s).loader = s.loader ∧ (takeCollision restEnd s).pending = s.pending
    ∧ (takeCollision restEnd s).line.active = s.line.active
    ∧ (takeCollision restEnd s).line.assembly = s.line.assembly
    ∧ (takeCollision restEnd s).line.modeSlot = s.line.modeSlot
    ∧ (takeCollision restEnd s).line.boostSlot = s.line.boostSlot
    ∧ (takeCollision restEnd s).ctl.levels = s.ctl.levels ∧ (takeCollision restEnd s).ctl.stall = s.ctl.stall
    ∧ (takeCollision restEnd s).ctl.amber = s.ctl.amber ∧ (takeCollision restEnd s).ctl.green = s.ctl.green := by
  unfold takeCollision
  (repeat' split) <;> simp

@[simp] theorem reportSent_keeps (x : Transmission) (s : State) :
    (reportSent x s).now = s.now ∧ (reportSent x s).inReset = s.inReset
    ∧ (reportSent x s).strapsRead = s.strapsRead ∧ (reportSent x s).stationIndex = s.stationIndex
    ∧ (reportSent x s).lane = s.lane ∧ (reportSent x s).roomClass = s.roomClass ∧ (reportSent x s).cfg = s.cfg
    ∧ (reportSent x s).clock = s.clock ∧ (reportSent x s).seq = s.seq ∧ (reportSent x s).fan = s.fan
    ∧ (reportSent x s).climate = s.climate ∧ (reportSent x s).humid = s.humid ∧ (reportSent x s).demand = s.demand
    ∧ (reportSent x s).filter = s.filter ∧ (reportSent x s).peers = s.peers ∧ (reportSent x s).house = s.house
    ∧ (reportSent x s).ctl = s.ctl ∧ (reportSent x s).loader = s.loader ∧ (reportSent x s).pending = s.pending
    ∧ (reportSent x s).frost.account = s.frost.account ∧ (reportSent x s).frost.stage = s.frost.stage
    ∧ (reportSent x s).frost.meltStepEnd = s.frost.meltStepEnd ∧ (reportSent x s).line.active = s.line.active
    ∧ (reportSent x s).line.transmission = s.line.transmission ∧ (reportSent x s).line.assembly = s.line.assembly
    ∧ (reportSent x s).line.idleTime = s.line.idleTime ∧ (reportSent x s).line.busyUntil = s.line.busyUntil
    ∧ (reportSent x s).line.modeSlot = s.line.modeSlot ∧ (reportSent x s).line.boostSlot = s.line.boostSlot := by
  unfold reportSent
  (repeat' split) <;> simp

@[simp] theorem completeFrame_keeps (s : State) :
    (completeFrame s).now = s.now ∧ (completeFrame s).inReset = s.inReset
    ∧ (completeFrame s).strapsRead = s.strapsRead ∧ (completeFrame s).stationIndex = s.stationIndex
    ∧ (completeFrame s).lane = s.lane ∧ (completeFrame s).roomClass = s.roomClass ∧ (completeFrame s).cfg = s.cfg
    ∧ (completeFrame s).clock = s.clock ∧ (completeFrame s).seq = s.seq ∧ (completeFrame s).fan = s.fan
    ∧ (completeFrame s).climate = s.climate ∧ (completeFrame s).humid = s.humid
    ∧ (completeFrame s).demand = s.demand ∧ (completeFrame s).filter = s.filter
    ∧ (completeFrame s).peers = s.peers ∧ (completeFrame s).house = s.house ∧ (completeFrame s).ctl = s.ctl
    ∧ (completeFrame s).loader = s.loader ∧ (completeFrame s).pending = s.pending
    ∧ (completeFrame s).frost.account = s.frost.account ∧ (completeFrame s).frost.stage = s.frost.stage
    ∧ (completeFrame s).frost.meltStepEnd = s.frost.meltStepEnd := by
  unfold completeFrame
  (repeat' split) <;> simp

@[simp] theorem emptyAssembly_keeps (tail : Nat) (s : State) :
    (emptyAssembly tail s).now = s.now ∧ (emptyAssembly tail s).inReset = s.inReset
    ∧ (emptyAssembly tail s).strapsRead = s.strapsRead ∧ (emptyAssembly tail s).stationIndex = s.stationIndex
    ∧ (emptyAssembly tail s).lane = s.lane ∧ (emptyAssembly tail s).roomClass = s.roomClass
    ∧ (emptyAssembly tail s).cfg = s.cfg ∧ (emptyAssembly tail s).clock = s.clock
    ∧ (emptyAssembly tail s).seq = s.seq ∧ (emptyAssembly tail s).fan = s.fan
    ∧ (emptyAssembly tail s).climate = s.climate ∧ (emptyAssembly tail s).frost = s.frost
    ∧ (emptyAssembly tail s).humid = s.humid ∧ (emptyAssembly tail s).demand = s.demand
    ∧ (emptyAssembly tail s).filter = s.filter ∧ (emptyAssembly tail s).peers = s.peers
    ∧ (emptyAssembly tail s).house = s.house ∧ (emptyAssembly tail s).ctl = s.ctl
    ∧ (emptyAssembly tail s).loader = s.loader ∧ (emptyAssembly tail s).pending = s.pending
    ∧ (emptyAssembly tail s).line.active = s.line.active
    ∧ (emptyAssembly tail s).line.transmission = s.line.transmission
    ∧ (emptyAssembly tail s).line.busyUntil = s.line.busyUntil
    ∧ (emptyAssembly tail s).line.modeSlot = s.line.modeSlot
    ∧ (emptyAssembly tail s).line.boostSlot = s.line.boostSlot :=
  ⟨rfl, rfl, rfl, rfl, rfl, rfl, rfl, rfl, rfl, rfl, rfl, rfl, rfl, rfl, rfl, rfl, rfl, rfl, rfl, rfl,
    rfl, rfl, rfl, rfl, rfl⟩

@[simp] theorem hearOwnIndex_keeps (s : State) :
    (hearOwnIndex s).now = s.now ∧ (hearOwnIndex s).inReset = s.inReset
    ∧ (hearOwnIndex s).strapsRead = s.strapsRead ∧ (hearOwnIndex s).stationIndex = s.stationIndex
    ∧ (hearOwnIndex s).lane = s.lane ∧ (hearOwnIndex s).roomClass = s.roomClass ∧ (hearOwnIndex s).cfg = s.cfg
    ∧ (hearOwnIndex s).clock = s.clock ∧ (hearOwnIndex s).seq = s.seq ∧ (hearOwnIndex s).fan = s.fan
    ∧ (hearOwnIndex s).climate = s.climate ∧ (hearOwnIndex s).frost = s.frost ∧ (hearOwnIndex s).humid = s.humid
    ∧ (hearOwnIndex s).demand = s.demand ∧ (hearOwnIndex s).filter = s.filter ∧ (hearOwnIndex s).peers = s.peers
    ∧ (hearOwnIndex s).house = s.house ∧ (hearOwnIndex s).line = s.line ∧ (hearOwnIndex s).loader = s.loader
    ∧ (hearOwnIndex s).pending = s.pending ∧ (hearOwnIndex s).ctl.levels = s.ctl.levels
    ∧ (hearOwnIndex s).ctl.stall = s.ctl.stall ∧ (hearOwnIndex s).ctl.amber = s.ctl.amber
    ∧ (hearOwnIndex s).ctl.green = s.ctl.green :=
  ⟨rfl, rfl, rfl, rfl, rfl, rfl, rfl, rfl, rfl, rfl, rfl, rfl, rfl, rfl, rfl, rfl, rfl, rfl, rfl, rfl,
    rfl, rfl, rfl, rfl⟩

@[simp] theorem passFrame_keeps (bs : List Byte) (arrival : Time) (s : State) :
    (passFrame bs arrival s).now = s.now ∧ (passFrame bs arrival s).inReset = s.inReset
    ∧ (passFrame bs arrival s).strapsRead = s.strapsRead ∧ (passFrame bs arrival s).stationIndex = s.stationIndex
    ∧ (passFrame bs arrival s).lane = s.lane ∧ (passFrame bs arrival s).roomClass = s.roomClass
    ∧ (passFrame bs arrival s).cfg = s.cfg ∧ (passFrame bs arrival s).pending = s.pending
    ∧ (passFrame bs arrival s).fan.speed = s.fan.speed ∧ (passFrame bs arrival s).fan.periods = s.fan.periods
    ∧ (passFrame bs arrival s).fan.captureCounter = s.fan.captureCounter
    ∧ (passFrame bs arrival s).clock.running = s.clock.running
    ∧ (passFrame bs arrival s).line.active = s.line.active
    ∧ (passFrame bs arrival s).line.transmission = s.line.transmission
    ∧ (passFrame bs arrival s).line.assembly = s.line.assembly
    ∧ (passFrame bs arrival s).line.idleTime = s.line.idleTime
    ∧ (passFrame bs arrival s).line.busyUntil = s.line.busyUntil
    ∧ (passFrame bs arrival s).line.modeSlot = s.line.modeSlot
    ∧ (passFrame bs arrival s).line.boostSlot = s.line.boostSlot
    ∧ (passFrame bs arrival s).ctl.levels = s.ctl.levels ∧ (passFrame bs arrival s).ctl.stall = s.ctl.stall := by
  unfold passFrame
  (repeat' split) <;> simp

@[simp] theorem closeFrame_keeps (chars : List Byte) (stops : StopBits) (arrival : Time) (s : State) :
    (closeFrame chars stops arrival s).now = s.now ∧ (closeFrame chars stops arrival s).inReset = s.inReset
    ∧ (closeFrame chars stops arrival s).strapsRead = s.strapsRead
    ∧ (closeFrame chars stops arrival s).stationIndex = s.stationIndex
    ∧ (closeFrame chars stops arrival s).lane = s.lane
    ∧ (closeFrame chars stops arrival s).roomClass = s.roomClass ∧ (closeFrame chars stops arrival s).cfg = s.cfg
    ∧ (closeFrame chars stops arrival s).pending = s.pending
    ∧ (closeFrame chars stops arrival s).fan.speed = s.fan.speed
    ∧ (closeFrame chars stops arrival s).fan.periods = s.fan.periods
    ∧ (closeFrame chars stops arrival s).fan.captureCounter = s.fan.captureCounter
    ∧ (closeFrame chars stops arrival s).clock.running = s.clock.running
    ∧ (closeFrame chars stops arrival s).line.active = s.line.active
    ∧ (closeFrame chars stops arrival s).line.transmission = s.line.transmission
    ∧ (closeFrame chars stops arrival s).line.busyUntil = s.line.busyUntil
    ∧ (closeFrame chars stops arrival s).line.modeSlot = s.line.modeSlot
    ∧ (closeFrame chars stops arrival s).line.boostSlot = s.line.boostSlot
    ∧ (closeFrame chars stops arrival s).ctl.levels = s.ctl.levels
    ∧ (closeFrame chars stops arrival s).ctl.stall = s.ctl.stall := by
  simp only [closeFrame]
  (repeat' split) <;> simp

@[simp] theorem endStatusPeriod_keeps (s : State) :
    (endStatusPeriod s).now = s.now ∧ (endStatusPeriod s).inReset = s.inReset
    ∧ (endStatusPeriod s).strapsRead = s.strapsRead ∧ (endStatusPeriod s).stationIndex = s.stationIndex
    ∧ (endStatusPeriod s).lane = s.lane ∧ (endStatusPeriod s).roomClass = s.roomClass
    ∧ (endStatusPeriod s).cfg = s.cfg ∧ (endStatusPeriod s).clock = s.clock ∧ (endStatusPeriod s).seq = s.seq
    ∧ (endStatusPeriod s).fan = s.fan ∧ (endStatusPeriod s).climate = s.climate
    ∧ (endStatusPeriod s).frost = s.frost ∧ (endStatusPeriod s).humid = s.humid
    ∧ (endStatusPeriod s).demand = s.demand ∧ (endStatusPeriod s).filter = s.filter
    ∧ (endStatusPeriod s).peers = s.peers ∧ (endStatusPeriod s).house = s.house ∧ (endStatusPeriod s).ctl = s.ctl
    ∧ (endStatusPeriod s).loader = s.loader ∧ (endStatusPeriod s).pending = s.pending
    ∧ (endStatusPeriod s).line.active = s.line.active
    ∧ (endStatusPeriod s).line.transmission = s.line.transmission
    ∧ (endStatusPeriod s).line.assembly = s.line.assembly ∧ (endStatusPeriod s).line.idleTime = s.line.idleTime
    ∧ (endStatusPeriod s).line.busyUntil = s.line.busyUntil ∧ (endStatusPeriod s).line.modeSlot = s.line.modeSlot
    ∧ (endStatusPeriod s).line.boostSlot = s.line.boostSlot :=
  ⟨rfl, rfl, rfl, rfl, rfl, rfl, rfl, rfl, rfl, rfl, rfl, rfl, rfl, rfl, rfl, rfl, rfl, rfl, rfl, rfl,
    rfl, rfl, rfl, rfl, rfl, rfl, rfl⟩

@[simp] theorem raiseLine_keeps (dominant : Time) (s : State) :
    (raiseLine dominant s).now = s.now ∧ (raiseLine dominant s).inReset = s.inReset
    ∧ (raiseLine dominant s).strapsRead = s.strapsRead ∧ (raiseLine dominant s).stationIndex = s.stationIndex
    ∧ (raiseLine dominant s).lane = s.lane ∧ (raiseLine dominant s).roomClass = s.roomClass
    ∧ (raiseLine dominant s).cfg = s.cfg ∧ (raiseLine dominant s).climate = s.climate
    ∧ (raiseLine dominant s).peers = s.peers ∧ (raiseLine dominant s).house = s.house
    ∧ (raiseLine dominant s).loader = s.loader ∧ (raiseLine dominant s).pending = s.pending
    ∧ (raiseLine dominant s).fan.speed = s.fan.speed ∧ (raiseLine dominant s).fan.periods = s.fan.periods
    ∧ (raiseLine dominant s).fan.captureCounter = s.fan.captureCounter
    ∧ (raiseLine dominant s).clock.running = s.clock.running ∧ (raiseLine dominant s).clock.c = s.clock.c
    ∧ (raiseLine dominant s).clock.length = s.clock.length
    ∧ (raiseLine dominant s).frost.account = s.frost.account
    ∧ (raiseLine dominant s).demand.supply = s.demand.supply
    ∧ (raiseLine dominant s).line.modeSlot = s.line.modeSlot
    ∧ (raiseLine dominant s).line.boostSlot = s.line.boostSlot
    ∧ (raiseLine dominant s).filter.state = s.filter.state
    ∧ (raiseLine dominant s).filter.baseline = s.filter.baseline
    ∧ (raiseLine dominant s).filter.runHours = s.filter.runHours
    ∧ (raiseLine dominant s).ctl.steady = s.ctl.steady ∧ (raiseLine dominant s).ctl.levels = s.ctl.levels
    ∧ (raiseLine dominant s).ctl.stall = s.ctl.stall := by simp [raiseLine]

@[simp] theorem clearLine_keeps (recessive : Time) (s : State) :
    (clearLine recessive s).now = s.now ∧ (clearLine recessive s).inReset = s.inReset
    ∧ (clearLine recessive s).strapsRead = s.strapsRead ∧ (clearLine recessive s).stationIndex = s.stationIndex
    ∧ (clearLine recessive s).lane = s.lane ∧ (clearLine recessive s).roomClass = s.roomClass
    ∧ (clearLine recessive s).cfg = s.cfg ∧ (clearLine recessive s).seq = s.seq
    ∧ (clearLine recessive s).fan = s.fan ∧ (clearLine recessive s).climate = s.climate
    ∧ (clearLine recessive s).frost = s.frost ∧ (clearLine recessive s).humid = s.humid
    ∧ (clearLine recessive s).demand = s.demand ∧ (clearLine recessive s).filter = s.filter
    ∧ (clearLine recessive s).peers = s.peers ∧ (clearLine recessive s).house = s.house
    ∧ (clearLine recessive s).ctl = s.ctl ∧ (clearLine recessive s).loader = s.loader
    ∧ (clearLine recessive s).pending = s.pending ∧ (clearLine recessive s).clock.running = s.clock.running
    ∧ (clearLine recessive s).clock.c = s.clock.c ∧ (clearLine recessive s).clock.length = s.clock.length
    ∧ (clearLine recessive s).line.transmission = s.line.transmission
    ∧ (clearLine recessive s).line.assembly = s.line.assembly
    ∧ (clearLine recessive s).line.busyUntil = s.line.busyUntil
    ∧ (clearLine recessive s).line.modeSlot = s.line.modeSlot
    ∧ (clearLine recessive s).line.boostSlot = s.line.boostSlot := by
  simp [clearLine]

@[simp] theorem wakeByGesture_keeps (s : State) :
    (wakeByGesture s).now = s.now ∧ (wakeByGesture s).inReset = s.inReset
    ∧ (wakeByGesture s).strapsRead = s.strapsRead ∧ (wakeByGesture s).stationIndex = s.stationIndex
    ∧ (wakeByGesture s).lane = s.lane ∧ (wakeByGesture s).roomClass = s.roomClass ∧ (wakeByGesture s).cfg = s.cfg
    ∧ (wakeByGesture s).clock = s.clock ∧ (wakeByGesture s).fan = s.fan ∧ (wakeByGesture s).climate = s.climate
    ∧ (wakeByGesture s).frost = s.frost ∧ (wakeByGesture s).humid = s.humid ∧ (wakeByGesture s).demand = s.demand
    ∧ (wakeByGesture s).filter = s.filter ∧ (wakeByGesture s).peers = s.peers ∧ (wakeByGesture s).house = s.house
    ∧ (wakeByGesture s).line = s.line ∧ (wakeByGesture s).ctl = s.ctl ∧ (wakeByGesture s).loader = s.loader
    ∧ (wakeByGesture s).pending = s.pending ∧ (wakeByGesture s).seq.state = s.seq.state
    ∧ (wakeByGesture s).seq.phase = s.seq.phase ∧ (wakeByGesture s).seq.target = s.seq.target
    ∧ (wakeByGesture s).seq.stallHistory = s.seq.stallHistory := by
  unfold wakeByGesture
  (repeat' split) <;> simp

@[simp] theorem toggleLocalBoost_keeps (s : State) :
    (toggleLocalBoost s).now = s.now ∧ (toggleLocalBoost s).inReset = s.inReset
    ∧ (toggleLocalBoost s).strapsRead = s.strapsRead ∧ (toggleLocalBoost s).stationIndex = s.stationIndex
    ∧ (toggleLocalBoost s).lane = s.lane ∧ (toggleLocalBoost s).roomClass = s.roomClass
    ∧ (toggleLocalBoost s).cfg = s.cfg ∧ (toggleLocalBoost s).clock = s.clock ∧ (toggleLocalBoost s).seq = s.seq
    ∧ (toggleLocalBoost s).climate = s.climate ∧ (toggleLocalBoost s).frost = s.frost
    ∧ (toggleLocalBoost s).humid = s.humid ∧ (toggleLocalBoost s).peers = s.peers
    ∧ (toggleLocalBoost s).house = s.house ∧ (toggleLocalBoost s).line = s.line ∧ (toggleLocalBoost s).ctl = s.ctl
    ∧ (toggleLocalBoost s).loader = s.loader ∧ (toggleLocalBoost s).pending = s.pending
    ∧ (toggleLocalBoost s).fan.direction = s.fan.direction ∧ (toggleLocalBoost s).fan.speed = s.fan.speed
    ∧ (toggleLocalBoost s).fan.periods = s.fan.periods ∧ (toggleLocalBoost s).fan.driveOutput = s.fan.driveOutput
    ∧ (toggleLocalBoost s).fan.holdEnd = s.fan.holdEnd
    ∧ (toggleLocalBoost s).fan.captureCounter = s.fan.captureCounter
    ∧ (toggleLocalBoost s).demand.supply = s.demand.supply ∧ (toggleLocalBoost s).filter.state = s.filter.state
    ∧ (toggleLocalBoost s).filter.baseline = s.filter.baseline
    ∧ (toggleLocalBoost s).filter.runHours = s.filter.runHours := by
  unfold toggleLocalBoost
  (repeat' split) <;> simp

@[simp] theorem toggleHouseBoost_keeps (s : State) :
    (toggleHouseBoost s).now = s.now ∧ (toggleHouseBoost s).inReset = s.inReset
    ∧ (toggleHouseBoost s).strapsRead = s.strapsRead ∧ (toggleHouseBoost s).stationIndex = s.stationIndex
    ∧ (toggleHouseBoost s).lane = s.lane ∧ (toggleHouseBoost s).roomClass = s.roomClass
    ∧ (toggleHouseBoost s).cfg = s.cfg ∧ (toggleHouseBoost s).clock = s.clock ∧ (toggleHouseBoost s).seq = s.seq
    ∧ (toggleHouseBoost s).climate = s.climate ∧ (toggleHouseBoost s).frost = s.frost
    ∧ (toggleHouseBoost s).humid = s.humid ∧ (toggleHouseBoost s).peers = s.peers
    ∧ (toggleHouseBoost s).house = s.house ∧ (toggleHouseBoost s).ctl = s.ctl
    ∧ (toggleHouseBoost s).loader = s.loader ∧ (toggleHouseBoost s).pending = s.pending
    ∧ (toggleHouseBoost s).fan.direction = s.fan.direction ∧ (toggleHouseBoost s).fan.speed = s.fan.speed
    ∧ (toggleHouseBoost s).fan.periods = s.fan.periods ∧ (toggleHouseBoost s).fan.driveOutput = s.fan.driveOutput
    ∧ (toggleHouseBoost s).fan.holdEnd = s.fan.holdEnd
    ∧ (toggleHouseBoost s).fan.captureCounter = s.fan.captureCounter
    ∧ (toggleHouseBoost s).demand.supply = s.demand.supply ∧ (toggleHouseBoost s).line.active = s.line.active
    ∧ (toggleHouseBoost s).line.transmission = s.line.transmission
    ∧ (toggleHouseBoost s).line.assembly = s.line.assembly ∧ (toggleHouseBoost s).line.idleTime = s.line.idleTime
    ∧ (toggleHouseBoost s).line.busyUntil = s.line.busyUntil
    ∧ (toggleHouseBoost s).line.modeSlot = s.line.modeSlot ∧ (toggleHouseBoost s).filter.state = s.filter.state
    ∧ (toggleHouseBoost s).filter.baseline = s.filter.baseline
    ∧ (toggleHouseBoost s).filter.runHours = s.filter.runHours := by
  unfold toggleHouseBoost
  (repeat' split) <;> simp

@[simp] theorem shortPress_keeps (s : State) :
    (shortPress s).now = s.now ∧ (shortPress s).inReset = s.inReset ∧ (shortPress s).strapsRead = s.strapsRead
    ∧ (shortPress s).stationIndex = s.stationIndex ∧ (shortPress s).lane = s.lane
    ∧ (shortPress s).roomClass = s.roomClass ∧ (shortPress s).cfg = s.cfg ∧ (shortPress s).clock = s.clock
    ∧ (shortPress s).climate = s.climate ∧ (shortPress s).frost = s.frost ∧ (shortPress s).humid = s.humid
    ∧ (shortPress s).peers = s.peers ∧ (shortPress s).house = s.house ∧ (shortPress s).line = s.line
    ∧ (shortPress s).ctl = s.ctl ∧ (shortPress s).loader = s.loader ∧ (shortPress s).pending = s.pending
    ∧ (shortPress s).seq.state = s.seq.state ∧ (shortPress s).seq.phase = s.seq.phase
    ∧ (shortPress s).seq.target = s.seq.target ∧ (shortPress s).seq.stallHistory = s.seq.stallHistory
    ∧ (shortPress s).fan.direction = s.fan.direction ∧ (shortPress s).fan.speed = s.fan.speed
    ∧ (shortPress s).fan.periods = s.fan.periods ∧ (shortPress s).fan.driveOutput = s.fan.driveOutput
    ∧ (shortPress s).fan.holdEnd = s.fan.holdEnd ∧ (shortPress s).fan.captureCounter = s.fan.captureCounter
    ∧ (shortPress s).demand.supply = s.demand.supply ∧ (shortPress s).filter.state = s.filter.state
    ∧ (shortPress s).filter.baseline = s.filter.baseline ∧ (shortPress s).filter.runHours = s.filter.runHours := by
  simp [shortPress]

@[simp] theorem longPress_keeps (s : State) :
    (longPress s).now = s.now ∧ (longPress s).inReset = s.inReset ∧ (longPress s).strapsRead = s.strapsRead
    ∧ (longPress s).stationIndex = s.stationIndex ∧ (longPress s).lane = s.lane
    ∧ (longPress s).roomClass = s.roomClass ∧ (longPress s).cfg = s.cfg ∧ (longPress s).clock = s.clock
    ∧ (longPress s).climate = s.climate ∧ (longPress s).frost = s.frost ∧ (longPress s).humid = s.humid
    ∧ (longPress s).peers = s.peers ∧ (longPress s).house = s.house ∧ (longPress s).ctl = s.ctl
    ∧ (longPress s).loader = s.loader ∧ (longPress s).pending = s.pending ∧ (longPress s).seq.state = s.seq.state
    ∧ (longPress s).seq.phase = s.seq.phase ∧ (longPress s).seq.target = s.seq.target
    ∧ (longPress s).seq.stallHistory = s.seq.stallHistory ∧ (longPress s).fan.direction = s.fan.direction
    ∧ (longPress s).fan.speed = s.fan.speed ∧ (longPress s).fan.periods = s.fan.periods
    ∧ (longPress s).fan.driveOutput = s.fan.driveOutput ∧ (longPress s).fan.holdEnd = s.fan.holdEnd
    ∧ (longPress s).fan.captureCounter = s.fan.captureCounter ∧ (longPress s).demand.supply = s.demand.supply
    ∧ (longPress s).line.active = s.line.active ∧ (longPress s).line.transmission = s.line.transmission
    ∧ (longPress s).line.assembly = s.line.assembly ∧ (longPress s).line.idleTime = s.line.idleTime
    ∧ (longPress s).line.busyUntil = s.line.busyUntil ∧ (longPress s).line.modeSlot = s.line.modeSlot
    ∧ (longPress s).filter.state = s.filter.state ∧ (longPress s).filter.baseline = s.filter.baseline
    ∧ (longPress s).filter.runHours = s.filter.runHours := by simp [longPress]

@[simp] theorem pressOf_keeps (length : Time) (s : State) :
    (pressOf length s).now = s.now ∧ (pressOf length s).inReset = s.inReset
    ∧ (pressOf length s).strapsRead = s.strapsRead ∧ (pressOf length s).stationIndex = s.stationIndex
    ∧ (pressOf length s).lane = s.lane ∧ (pressOf length s).roomClass = s.roomClass
    ∧ (pressOf length s).cfg = s.cfg ∧ (pressOf length s).clock = s.clock ∧ (pressOf length s).climate = s.climate
    ∧ (pressOf length s).frost = s.frost ∧ (pressOf length s).humid = s.humid ∧ (pressOf length s).peers = s.peers
    ∧ (pressOf length s).house = s.house ∧ (pressOf length s).ctl = s.ctl ∧ (pressOf length s).loader = s.loader
    ∧ (pressOf length s).pending = s.pending ∧ (pressOf length s).seq.state = s.seq.state
    ∧ (pressOf length s).seq.phase = s.seq.phase ∧ (pressOf length s).seq.target = s.seq.target
    ∧ (pressOf length s).seq.stallHistory = s.seq.stallHistory
    ∧ (pressOf length s).fan.direction = s.fan.direction ∧ (pressOf length s).fan.speed = s.fan.speed
    ∧ (pressOf length s).fan.periods = s.fan.periods ∧ (pressOf length s).fan.driveOutput = s.fan.driveOutput
    ∧ (pressOf length s).fan.holdEnd = s.fan.holdEnd
    ∧ (pressOf length s).fan.captureCounter = s.fan.captureCounter
    ∧ (pressOf length s).demand.supply = s.demand.supply ∧ (pressOf length s).line.active = s.line.active
    ∧ (pressOf length s).line.transmission = s.line.transmission
    ∧ (pressOf length s).line.assembly = s.line.assembly ∧ (pressOf length s).line.idleTime = s.line.idleTime
    ∧ (pressOf length s).line.busyUntil = s.line.busyUntil ∧ (pressOf length s).line.modeSlot = s.line.modeSlot
    ∧ (pressOf length s).filter.state = s.filter.state ∧ (pressOf length s).filter.baseline = s.filter.baseline
    ∧ (pressOf length s).filter.runHours = s.filter.runHours := by
  unfold pressOf
  (repeat' split) <;> simp

@[simp] theorem setBoostStage_keeps (g : GestureStage) (start : Option Time) (s : State) :
    (setBoostStage g start s).now = s.now ∧ (setBoostStage g start s).inReset = s.inReset
    ∧ (setBoostStage g start s).strapsRead = s.strapsRead
    ∧ (setBoostStage g start s).stationIndex = s.stationIndex ∧ (setBoostStage g start s).lane = s.lane
    ∧ (setBoostStage g start s).roomClass = s.roomClass ∧ (setBoostStage g start s).cfg = s.cfg
    ∧ (setBoostStage g start s).clock = s.clock ∧ (setBoostStage g start s).seq = s.seq
    ∧ (setBoostStage g start s).fan = s.fan ∧ (setBoostStage g start s).climate = s.climate
    ∧ (setBoostStage g start s).frost = s.frost ∧ (setBoostStage g start s).humid = s.humid
    ∧ (setBoostStage g start s).demand = s.demand ∧ (setBoostStage g start s).filter = s.filter
    ∧ (setBoostStage g start s).peers = s.peers ∧ (setBoostStage g start s).house = s.house
    ∧ (setBoostStage g start s).line = s.line ∧ (setBoostStage g start s).loader = s.loader
    ∧ (setBoostStage g start s).pending = s.pending ∧ (setBoostStage g start s).ctl.levels = s.ctl.levels
    ∧ (setBoostStage g start s).ctl.stall = s.ctl.stall ∧ (setBoostStage g start s).ctl.amber = s.ctl.amber
    ∧ (setBoostStage g start s).ctl.green = s.ctl.green :=
  ⟨rfl, rfl, rfl, rfl, rfl, rfl, rfl, rfl, rfl, rfl, rfl, rfl, rfl, rfl, rfl, rfl, rfl, rfl, rfl, rfl,
    rfl, rfl, rfl, rfl⟩

@[simp] theorem setFilterStage_keeps (g : GestureStage) (start : Option Time) (s : State) :
    (setFilterStage g start s).now = s.now ∧ (setFilterStage g start s).inReset = s.inReset
    ∧ (setFilterStage g start s).strapsRead = s.strapsRead
    ∧ (setFilterStage g start s).stationIndex = s.stationIndex ∧ (setFilterStage g start s).lane = s.lane
    ∧ (setFilterStage g start s).roomClass = s.roomClass ∧ (setFilterStage g start s).cfg = s.cfg
    ∧ (setFilterStage g start s).clock = s.clock ∧ (setFilterStage g start s).seq = s.seq
    ∧ (setFilterStage g start s).fan = s.fan ∧ (setFilterStage g start s).climate = s.climate
    ∧ (setFilterStage g start s).frost = s.frost ∧ (setFilterStage g start s).humid = s.humid
    ∧ (setFilterStage g start s).demand = s.demand ∧ (setFilterStage g start s).filter = s.filter
    ∧ (setFilterStage g start s).peers = s.peers ∧ (setFilterStage g start s).house = s.house
    ∧ (setFilterStage g start s).line = s.line ∧ (setFilterStage g start s).loader = s.loader
    ∧ (setFilterStage g start s).pending = s.pending ∧ (setFilterStage g start s).ctl.levels = s.ctl.levels
    ∧ (setFilterStage g start s).ctl.stall = s.ctl.stall ∧ (setFilterStage g start s).ctl.amber = s.ctl.amber
    ∧ (setFilterStage g start s).ctl.green = s.ctl.green :=
  ⟨rfl, rfl, rfl, rfl, rfl, rfl, rfl, rfl, rfl, rfl, rfl, rfl, rfl, rfl, rfl, rfl, rfl, rfl, rfl, rfl,
    rfl, rfl, rfl, rfl⟩

@[simp] theorem boostLevel_keeps (v : Level) (s : State) :
    (boostLevel v s).now = s.now ∧ (boostLevel v s).inReset = s.inReset
    ∧ (boostLevel v s).strapsRead = s.strapsRead ∧ (boostLevel v s).stationIndex = s.stationIndex
    ∧ (boostLevel v s).lane = s.lane ∧ (boostLevel v s).roomClass = s.roomClass ∧ (boostLevel v s).cfg = s.cfg
    ∧ (boostLevel v s).clock = s.clock ∧ (boostLevel v s).climate = s.climate ∧ (boostLevel v s).frost = s.frost
    ∧ (boostLevel v s).humid = s.humid ∧ (boostLevel v s).peers = s.peers ∧ (boostLevel v s).house = s.house
    ∧ (boostLevel v s).loader = s.loader ∧ (boostLevel v s).pending = s.pending
    ∧ (boostLevel v s).seq.state = s.seq.state ∧ (boostLevel v s).seq.phase = s.seq.phase
    ∧ (boostLevel v s).seq.target = s.seq.target ∧ (boostLevel v s).seq.stallHistory = s.seq.stallHistory
    ∧ (boostLevel v s).fan.direction = s.fan.direction ∧ (boostLevel v s).fan.speed = s.fan.speed
    ∧ (boostLevel v s).fan.periods = s.fan.periods ∧ (boostLevel v s).fan.driveOutput = s.fan.driveOutput
    ∧ (boostLevel v s).fan.holdEnd = s.fan.holdEnd ∧ (boostLevel v s).fan.captureCounter = s.fan.captureCounter
    ∧ (boostLevel v s).demand.supply = s.demand.supply ∧ (boostLevel v s).line.active = s.line.active
    ∧ (boostLevel v s).line.transmission = s.line.transmission ∧ (boostLevel v s).line.assembly = s.line.assembly
    ∧ (boostLevel v s).line.idleTime = s.line.idleTime ∧ (boostLevel v s).line.busyUntil = s.line.busyUntil
    ∧ (boostLevel v s).line.modeSlot = s.line.modeSlot ∧ (boostLevel v s).filter.state = s.filter.state
    ∧ (boostLevel v s).filter.baseline = s.filter.baseline ∧ (boostLevel v s).filter.runHours = s.filter.runHours
    ∧ (boostLevel v s).ctl.levels = s.ctl.levels ∧ (boostLevel v s).ctl.stall = s.ctl.stall
    ∧ (boostLevel v s).ctl.amber = s.ctl.amber ∧ (boostLevel v s).ctl.green = s.ctl.green := by
  unfold boostLevel
  (repeat' split) <;> simp

@[simp] theorem filterLevel_keeps (v : Level) (s : State) :
    (filterLevel v s).now = s.now ∧ (filterLevel v s).inReset = s.inReset
    ∧ (filterLevel v s).strapsRead = s.strapsRead ∧ (filterLevel v s).stationIndex = s.stationIndex
    ∧ (filterLevel v s).lane = s.lane ∧ (filterLevel v s).roomClass = s.roomClass ∧ (filterLevel v s).cfg = s.cfg
    ∧ (filterLevel v s).clock = s.clock ∧ (filterLevel v s).seq = s.seq ∧ (filterLevel v s).fan = s.fan
    ∧ (filterLevel v s).climate = s.climate ∧ (filterLevel v s).frost = s.frost
    ∧ (filterLevel v s).humid = s.humid ∧ (filterLevel v s).demand = s.demand
    ∧ (filterLevel v s).filter = s.filter ∧ (filterLevel v s).peers = s.peers ∧ (filterLevel v s).house = s.house
    ∧ (filterLevel v s).line = s.line ∧ (filterLevel v s).loader = s.loader
    ∧ (filterLevel v s).pending = s.pending ∧ (filterLevel v s).ctl.levels = s.ctl.levels
    ∧ (filterLevel v s).ctl.stall = s.ctl.stall ∧ (filterLevel v s).ctl.amber = s.ctl.amber
    ∧ (filterLevel v s).ctl.green = s.ctl.green := by
  unfold filterLevel
  (repeat' split) <;> simp

@[simp] theorem takeHold_keeps (s : State) :
    (takeHold s).now = s.now ∧ (takeHold s).inReset = s.inReset ∧ (takeHold s).strapsRead = s.strapsRead
    ∧ (takeHold s).stationIndex = s.stationIndex ∧ (takeHold s).lane = s.lane
    ∧ (takeHold s).roomClass = s.roomClass ∧ (takeHold s).cfg = s.cfg ∧ (takeHold s).climate = s.climate
    ∧ (takeHold s).peers = s.peers ∧ (takeHold s).house = s.house ∧ (takeHold s).loader = s.loader
    ∧ (takeHold s).pending = s.pending ∧ (takeHold s).fan.direction = s.fan.direction
    ∧ (takeHold s).fan.speed = s.fan.speed ∧ (takeHold s).fan.periods = s.fan.periods
    ∧ (takeHold s).fan.captureCounter = s.fan.captureCounter ∧ (takeHold s).clock.running = s.clock.running
    ∧ (takeHold s).clock.c = s.clock.c ∧ (takeHold s).clock.length = s.clock.length
    ∧ (takeHold s).clock.heardLength = s.clock.heardLength ∧ (takeHold s).frost.account = s.frost.account
    ∧ (takeHold s).demand.supply = s.demand.supply ∧ (takeHold s).line.active = s.line.active
    ∧ (takeHold s).line.transmission = s.line.transmission ∧ (takeHold s).line.assembly = s.line.assembly
    ∧ (takeHold s).line.idleTime = s.line.idleTime ∧ (takeHold s).line.busyUntil = s.line.busyUntil
    ∧ (takeHold s).line.modeSlot = s.line.modeSlot ∧ (takeHold s).line.boostSlot = s.line.boostSlot
    ∧ (takeHold s).filter.state = s.filter.state ∧ (takeHold s).filter.baseline = s.filter.baseline
    ∧ (takeHold s).filter.runHours = s.filter.runHours ∧ (takeHold s).ctl.levels = s.ctl.levels := by
  simp only [takeHold]
  (repeat' split) <;> simp

@[simp] theorem takeFilterReset_keeps (s : State) :
    (takeFilterReset s).now = s.now ∧ (takeFilterReset s).inReset = s.inReset
    ∧ (takeFilterReset s).strapsRead = s.strapsRead ∧ (takeFilterReset s).stationIndex = s.stationIndex
    ∧ (takeFilterReset s).lane = s.lane ∧ (takeFilterReset s).roomClass = s.roomClass
    ∧ (takeFilterReset s).cfg = s.cfg ∧ (takeFilterReset s).clock = s.clock ∧ (takeFilterReset s).seq = s.seq
    ∧ (takeFilterReset s).climate = s.climate ∧ (takeFilterReset s).frost = s.frost
    ∧ (takeFilterReset s).humid = s.humid ∧ (takeFilterReset s).demand = s.demand
    ∧ (takeFilterReset s).peers = s.peers ∧ (takeFilterReset s).house = s.house
    ∧ (takeFilterReset s).line = s.line ∧ (takeFilterReset s).pending = s.pending
    ∧ (takeFilterReset s).fan.direction = s.fan.direction ∧ (takeFilterReset s).fan.speed = s.fan.speed
    ∧ (takeFilterReset s).fan.periods = s.fan.periods ∧ (takeFilterReset s).fan.driveOutput = s.fan.driveOutput
    ∧ (takeFilterReset s).fan.holdEnd = s.fan.holdEnd
    ∧ (takeFilterReset s).fan.captureCounter = s.fan.captureCounter
    ∧ (takeFilterReset s).filter.runHours = s.filter.runHours ∧ (takeFilterReset s).ctl.levels = s.ctl.levels
    ∧ (takeFilterReset s).ctl.stall = s.ctl.stall ∧ (takeFilterReset s).ctl.amber = s.ctl.amber
    ∧ (takeFilterReset s).ctl.green = s.ctl.green := by simp [takeFilterReset]

@[simp] theorem originateHere_keeps (s : State) :
    (originateHere s).now = s.now ∧ (originateHere s).inReset = s.inReset
    ∧ (originateHere s).strapsRead = s.strapsRead ∧ (originateHere s).stationIndex = s.stationIndex
    ∧ (originateHere s).lane = s.lane ∧ (originateHere s).roomClass = s.roomClass ∧ (originateHere s).cfg = s.cfg
    ∧ (originateHere s).clock = s.clock ∧ (originateHere s).seq = s.seq ∧ (originateHere s).fan = s.fan
    ∧ (originateHere s).climate = s.climate ∧ (originateHere s).frost = s.frost
    ∧ (originateHere s).humid = s.humid ∧ (originateHere s).filter = s.filter ∧ (originateHere s).peers = s.peers
    ∧ (originateHere s).ctl = s.ctl ∧ (originateHere s).loader = s.loader ∧ (originateHere s).pending = s.pending
    ∧ (originateHere s).demand.stack = s.demand.stack ∧ (originateHere s).demand.supply = s.demand.supply
    ∧ (originateHere s).line.active = s.line.active ∧ (originateHere s).line.transmission = s.line.transmission
    ∧ (originateHere s).line.assembly = s.line.assembly ∧ (originateHere s).line.idleTime = s.line.idleTime
    ∧ (originateHere s).line.busyUntil = s.line.busyUntil ∧ (originateHere s).line.boostSlot = s.line.boostSlot := by
  simp [originateHere]

@[simp] theorem summerLevel_keeps (v : Level) (s : State) :
    (summerLevel v s).now = s.now ∧ (summerLevel v s).inReset = s.inReset
    ∧ (summerLevel v s).strapsRead = s.strapsRead ∧ (summerLevel v s).stationIndex = s.stationIndex
    ∧ (summerLevel v s).lane = s.lane ∧ (summerLevel v s).roomClass = s.roomClass ∧ (summerLevel v s).cfg = s.cfg
    ∧ (summerLevel v s).clock = s.clock ∧ (summerLevel v s).seq = s.seq ∧ (summerLevel v s).fan = s.fan
    ∧ (summerLevel v s).climate = s.climate ∧ (summerLevel v s).frost = s.frost
    ∧ (summerLevel v s).humid = s.humid ∧ (summerLevel v s).filter = s.filter ∧ (summerLevel v s).peers = s.peers
    ∧ (summerLevel v s).loader = s.loader ∧ (summerLevel v s).pending = s.pending
    ∧ (summerLevel v s).demand.stack = s.demand.stack ∧ (summerLevel v s).demand.supply = s.demand.supply
    ∧ (summerLevel v s).line.active = s.line.active ∧ (summerLevel v s).line.transmission = s.line.transmission
    ∧ (summerLevel v s).line.assembly = s.line.assembly ∧ (summerLevel v s).line.idleTime = s.line.idleTime
    ∧ (summerLevel v s).line.busyUntil = s.line.busyUntil ∧ (summerLevel v s).line.boostSlot = s.line.boostSlot
    ∧ (summerLevel v s).ctl.levels = s.ctl.levels ∧ (summerLevel v s).ctl.stall = s.ctl.stall
    ∧ (summerLevel v s).ctl.amber = s.ctl.amber ∧ (summerLevel v s).ctl.green = s.ctl.green := by
  simp [summerLevel]

@[simp] theorem takePosition_keeps (m : Mode) (s : State) :
    (takePosition m s).now = s.now ∧ (takePosition m s).inReset = s.inReset
    ∧ (takePosition m s).strapsRead = s.strapsRead ∧ (takePosition m s).stationIndex = s.stationIndex
    ∧ (takePosition m s).lane = s.lane ∧ (takePosition m s).roomClass = s.roomClass
    ∧ (takePosition m s).cfg = s.cfg ∧ (takePosition m s).clock = s.clock ∧ (takePosition m s).fan = s.fan
    ∧ (takePosition m s).climate = s.climate ∧ (takePosition m s).frost = s.frost
    ∧ (takePosition m s).humid = s.humid ∧ (takePosition m s).filter = s.filter
    ∧ (takePosition m s).peers = s.peers ∧ (takePosition m s).loader = s.loader
    ∧ (takePosition m s).pending = s.pending ∧ (takePosition m s).seq.state = s.seq.state
    ∧ (takePosition m s).seq.phase = s.seq.phase ∧ (takePosition m s).seq.target = s.seq.target
    ∧ (takePosition m s).seq.stallHistory = s.seq.stallHistory ∧ (takePosition m s).demand.stack = s.demand.stack
    ∧ (takePosition m s).demand.supply = s.demand.supply ∧ (takePosition m s).line.active = s.line.active
    ∧ (takePosition m s).line.transmission = s.line.transmission
    ∧ (takePosition m s).line.assembly = s.line.assembly ∧ (takePosition m s).line.idleTime = s.line.idleTime
    ∧ (takePosition m s).line.busyUntil = s.line.busyUntil ∧ (takePosition m s).line.boostSlot = s.line.boostSlot
    ∧ (takePosition m s).ctl.levels = s.ctl.levels ∧ (takePosition m s).ctl.stall = s.ctl.stall
    ∧ (takePosition m s).ctl.amber = s.ctl.amber ∧ (takePosition m s).ctl.green = s.ctl.green := by
  simp only [takePosition]
  (repeat' split) <;> simp

@[simp] theorem setLevel_keeps (c : ControlLine) (v : Level) (s : State) :
    (setLevel c v s).now = s.now ∧ (setLevel c v s).inReset = s.inReset
    ∧ (setLevel c v s).strapsRead = s.strapsRead ∧ (setLevel c v s).stationIndex = s.stationIndex
    ∧ (setLevel c v s).lane = s.lane ∧ (setLevel c v s).roomClass = s.roomClass ∧ (setLevel c v s).cfg = s.cfg
    ∧ (setLevel c v s).clock = s.clock ∧ (setLevel c v s).seq = s.seq ∧ (setLevel c v s).fan = s.fan
    ∧ (setLevel c v s).climate = s.climate ∧ (setLevel c v s).frost = s.frost ∧ (setLevel c v s).humid = s.humid
    ∧ (setLevel c v s).demand = s.demand ∧ (setLevel c v s).filter = s.filter ∧ (setLevel c v s).peers = s.peers
    ∧ (setLevel c v s).house = s.house ∧ (setLevel c v s).line = s.line ∧ (setLevel c v s).loader = s.loader
    ∧ (setLevel c v s).pending = s.pending ∧ (setLevel c v s).ctl.stall = s.ctl.stall
    ∧ (setLevel c v s).ctl.amber = s.ctl.amber ∧ (setLevel c v s).ctl.green = s.ctl.green :=
  ⟨rfl, rfl, rfl, rfl, rfl, rfl, rfl, rfl, rfl, rfl, rfl, rfl, rfl, rfl, rfl, rfl, rfl, rfl, rfl, rfl,
    rfl, rfl, rfl⟩

@[simp] theorem levelChanged_keeps (c : ControlLine) (v : Level) (s : State) :
    (levelChanged c v s).now = s.now ∧ (levelChanged c v s).inReset = s.inReset
    ∧ (levelChanged c v s).strapsRead = s.strapsRead ∧ (levelChanged c v s).stationIndex = s.stationIndex
    ∧ (levelChanged c v s).lane = s.lane ∧ (levelChanged c v s).roomClass = s.roomClass
    ∧ (levelChanged c v s).cfg = s.cfg ∧ (levelChanged c v s).clock = s.clock
    ∧ (levelChanged c v s).climate = s.climate ∧ (levelChanged c v s).frost = s.frost
    ∧ (levelChanged c v s).humid = s.humid ∧ (levelChanged c v s).peers = s.peers
    ∧ (levelChanged c v s).loader = s.loader ∧ (levelChanged c v s).pending = s.pending
    ∧ (levelChanged c v s).seq.state = s.seq.state ∧ (levelChanged c v s).seq.phase = s.seq.phase
    ∧ (levelChanged c v s).seq.target = s.seq.target ∧ (levelChanged c v s).seq.stallHistory = s.seq.stallHistory
    ∧ (levelChanged c v s).fan.direction = s.fan.direction ∧ (levelChanged c v s).fan.speed = s.fan.speed
    ∧ (levelChanged c v s).fan.periods = s.fan.periods ∧ (levelChanged c v s).fan.driveOutput = s.fan.driveOutput
    ∧ (levelChanged c v s).fan.holdEnd = s.fan.holdEnd
    ∧ (levelChanged c v s).fan.captureCounter = s.fan.captureCounter
    ∧ (levelChanged c v s).demand.supply = s.demand.supply ∧ (levelChanged c v s).line.active = s.line.active
    ∧ (levelChanged c v s).line.transmission = s.line.transmission
    ∧ (levelChanged c v s).line.assembly = s.line.assembly ∧ (levelChanged c v s).line.idleTime = s.line.idleTime
    ∧ (levelChanged c v s).line.busyUntil = s.line.busyUntil ∧ (levelChanged c v s).filter.state = s.filter.state
    ∧ (levelChanged c v s).filter.baseline = s.filter.baseline
    ∧ (levelChanged c v s).filter.runHours = s.filter.runHours ∧ (levelChanged c v s).ctl.levels = s.ctl.levels
    ∧ (levelChanged c v s).ctl.stall = s.ctl.stall ∧ (levelChanged c v s).ctl.amber = s.ctl.amber
    ∧ (levelChanged c v s).ctl.green = s.ctl.green := by
  unfold levelChanged
  (repeat' split) <;> simp

@[simp] theorem debounceLine_keeps (c : ControlLine) (v : Level) (s : State) :
    (debounceLine c v s).now = s.now ∧ (debounceLine c v s).inReset = s.inReset
    ∧ (debounceLine c v s).strapsRead = s.strapsRead ∧ (debounceLine c v s).stationIndex = s.stationIndex
    ∧ (debounceLine c v s).lane = s.lane ∧ (debounceLine c v s).roomClass = s.roomClass
    ∧ (debounceLine c v s).cfg = s.cfg ∧ (debounceLine c v s).clock = s.clock
    ∧ (debounceLine c v s).climate = s.climate ∧ (debounceLine c v s).frost = s.frost
    ∧ (debounceLine c v s).humid = s.humid ∧ (debounceLine c v s).peers = s.peers
    ∧ (debounceLine c v s).loader = s.loader ∧ (debounceLine c v s).pending = s.pending
    ∧ (debounceLine c v s).seq.state = s.seq.state ∧ (debounceLine c v s).seq.phase = s.seq.phase
    ∧ (debounceLine c v s).seq.target = s.seq.target ∧ (debounceLine c v s).seq.stallHistory = s.seq.stallHistory
    ∧ (debounceLine c v s).fan.direction = s.fan.direction ∧ (debounceLine c v s).fan.speed = s.fan.speed
    ∧ (debounceLine c v s).fan.periods = s.fan.periods ∧ (debounceLine c v s).fan.driveOutput = s.fan.driveOutput
    ∧ (debounceLine c v s).fan.holdEnd = s.fan.holdEnd
    ∧ (debounceLine c v s).fan.captureCounter = s.fan.captureCounter
    ∧ (debounceLine c v s).demand.supply = s.demand.supply ∧ (debounceLine c v s).line.active = s.line.active
    ∧ (debounceLine c v s).line.transmission = s.line.transmission
    ∧ (debounceLine c v s).line.assembly = s.line.assembly ∧ (debounceLine c v s).line.idleTime = s.line.idleTime
    ∧ (debounceLine c v s).line.busyUntil = s.line.busyUntil ∧ (debounceLine c v s).filter.state = s.filter.state
    ∧ (debounceLine c v s).filter.baseline = s.filter.baseline
    ∧ (debounceLine c v s).filter.runHours = s.filter.runHours ∧ (debounceLine c v s).ctl.stall = s.ctl.stall
    ∧ (debounceLine c v s).ctl.amber = s.ctl.amber ∧ (debounceLine c v s).ctl.green = s.ctl.green := by
  unfold debounceLine
  (repeat' split) <;> simp

@[simp] theorem seedMode_keeps (mode1 mode0 : Level) (s : State) :
    (seedMode mode1 mode0 s).now = s.now ∧ (seedMode mode1 mode0 s).inReset = s.inReset
    ∧ (seedMode mode1 mode0 s).strapsRead = s.strapsRead ∧ (seedMode mode1 mode0 s).stationIndex = s.stationIndex
    ∧ (seedMode mode1 mode0 s).lane = s.lane ∧ (seedMode mode1 mode0 s).roomClass = s.roomClass
    ∧ (seedMode mode1 mode0 s).cfg = s.cfg ∧ (seedMode mode1 mode0 s).clock = s.clock
    ∧ (seedMode mode1 mode0 s).seq = s.seq ∧ (seedMode mode1 mode0 s).fan = s.fan
    ∧ (seedMode mode1 mode0 s).climate = s.climate ∧ (seedMode mode1 mode0 s).frost = s.frost
    ∧ (seedMode mode1 mode0 s).humid = s.humid ∧ (seedMode mode1 mode0 s).filter = s.filter
    ∧ (seedMode mode1 mode0 s).peers = s.peers ∧ (seedMode mode1 mode0 s).line = s.line
    ∧ (seedMode mode1 mode0 s).loader = s.loader ∧ (seedMode mode1 mode0 s).pending = s.pending
    ∧ (seedMode mode1 mode0 s).demand.stack = s.demand.stack
    ∧ (seedMode mode1 mode0 s).demand.supply = s.demand.supply
    ∧ (seedMode mode1 mode0 s).ctl.levels = s.ctl.levels ∧ (seedMode mode1 mode0 s).ctl.stall = s.ctl.stall
    ∧ (seedMode mode1 mode0 s).ctl.amber = s.ctl.amber ∧ (seedMode mode1 mode0 s).ctl.green = s.ctl.green := by
  unfold seedMode
  (repeat' split) <;> simp

@[simp] theorem takeLines_keeps (raw : LineLevels) (s : State) :
    (takeLines raw s).now = s.now ∧ (takeLines raw s).inReset = s.inReset
    ∧ (takeLines raw s).strapsRead = s.strapsRead ∧ (takeLines raw s).stationIndex = s.stationIndex
    ∧ (takeLines raw s).lane = s.lane ∧ (takeLines raw s).roomClass = s.roomClass ∧ (takeLines raw s).cfg = s.cfg
    ∧ (takeLines raw s).clock = s.clock ∧ (takeLines raw s).seq = s.seq ∧ (takeLines raw s).fan = s.fan
    ∧ (takeLines raw s).climate = s.climate ∧ (takeLines raw s).frost = s.frost
    ∧ (takeLines raw s).humid = s.humid ∧ (takeLines raw s).filter = s.filter ∧ (takeLines raw s).peers = s.peers
    ∧ (takeLines raw s).line = s.line ∧ (takeLines raw s).loader = s.loader
    ∧ (takeLines raw s).pending = s.pending ∧ (takeLines raw s).demand.stack = s.demand.stack
    ∧ (takeLines raw s).demand.supply = s.demand.supply ∧ (takeLines raw s).ctl.stall = s.ctl.stall
    ∧ (takeLines raw s).ctl.amber = s.ctl.amber ∧ (takeLines raw s).ctl.green = s.ctl.green := by
  simp [takeLines]

@[simp] theorem readStraps_keeps (index : BitVec 4) (lane : BitVec 1) (cl : BitVec 2) (s : State) :
    (readStraps index lane cl s).now = s.now ∧ (readStraps index lane cl s).cfg = s.cfg
    ∧ (readStraps index lane cl s).clock = s.clock ∧ (readStraps index lane cl s).seq = s.seq
    ∧ (readStraps index lane cl s).fan = s.fan ∧ (readStraps index lane cl s).climate = s.climate
    ∧ (readStraps index lane cl s).frost = s.frost ∧ (readStraps index lane cl s).demand = s.demand
    ∧ (readStraps index lane cl s).filter = s.filter ∧ (readStraps index lane cl s).peers = s.peers
    ∧ (readStraps index lane cl s).ctl = s.ctl ∧ (readStraps index lane cl s).loader = s.loader
    ∧ (readStraps index lane cl s).pending = s.pending ∧ (readStraps index lane cl s).line.active = s.line.active
    ∧ (readStraps index lane cl s).line.transmission = s.line.transmission
    ∧ (readStraps index lane cl s).line.assembly = s.line.assembly
    ∧ (readStraps index lane cl s).line.idleTime = s.line.idleTime
    ∧ (readStraps index lane cl s).line.busyUntil = s.line.busyUntil
    ∧ (readStraps index lane cl s).line.modeSlot = s.line.modeSlot
    ∧ (readStraps index lane cl s).line.boostSlot = s.line.boostSlot
    ∧ (readStraps index lane cl s).line.steady = s.line.steady
    ∧ (readStraps index lane cl s).house.mode = s.house.mode :=
  ⟨rfl, rfl, rfl, rfl, rfl, rfl, rfl, rfl, rfl, rfl, rfl, rfl, rfl, rfl, rfl, rfl, rfl, rfl, rfl, rfl,
    rfl, rfl⟩

@[simp] theorem resetBlocks_keeps (s : State) :
    (resetBlocks s).pending = s.pending := rfl

@[simp] theorem takeConfig_keeps (r : Option (List Byte)) (s : State) :
    (takeConfig r s).now = s.now ∧ (takeConfig r s).inReset = s.inReset
    ∧ (takeConfig r s).strapsRead = s.strapsRead ∧ (takeConfig r s).stationIndex = s.stationIndex
    ∧ (takeConfig r s).lane = s.lane ∧ (takeConfig r s).roomClass = s.roomClass ∧ (takeConfig r s).cfg = s.cfg
    ∧ (takeConfig r s).clock = s.clock ∧ (takeConfig r s).seq = s.seq ∧ (takeConfig r s).fan = s.fan
    ∧ (takeConfig r s).climate = s.climate ∧ (takeConfig r s).frost = s.frost ∧ (takeConfig r s).humid = s.humid
    ∧ (takeConfig r s).demand = s.demand ∧ (takeConfig r s).filter = s.filter ∧ (takeConfig r s).peers = s.peers
    ∧ (takeConfig r s).house = s.house ∧ (takeConfig r s).line = s.line ∧ (takeConfig r s).pending = s.pending
    ∧ (takeConfig r s).ctl.levels = s.ctl.levels ∧ (takeConfig r s).ctl.stall = s.ctl.stall
    ∧ (takeConfig r s).ctl.amber = s.ctl.amber ∧ (takeConfig r s).ctl.green = s.ctl.green := by
  unfold takeConfig
  (repeat' split) <;> simp

@[simp] theorem takeFilterBytes_keeps (c : ConfigRecord) (r : Option (List Byte)) (s : State) :
    (takeFilterBytes c r s).now = s.now ∧ (takeFilterBytes c r s).inReset = s.inReset
    ∧ (takeFilterBytes c r s).strapsRead = s.strapsRead ∧ (takeFilterBytes c r s).stationIndex = s.stationIndex
    ∧ (takeFilterBytes c r s).lane = s.lane ∧ (takeFilterBytes c r s).roomClass = s.roomClass
    ∧ (takeFilterBytes c r s).cfg = s.cfg ∧ (takeFilterBytes c r s).clock = s.clock
    ∧ (takeFilterBytes c r s).seq = s.seq ∧ (takeFilterBytes c r s).fan = s.fan
    ∧ (takeFilterBytes c r s).climate = s.climate ∧ (takeFilterBytes c r s).frost = s.frost
    ∧ (takeFilterBytes c r s).humid = s.humid ∧ (takeFilterBytes c r s).demand = s.demand
    ∧ (takeFilterBytes c r s).filter = s.filter ∧ (takeFilterBytes c r s).peers = s.peers
    ∧ (takeFilterBytes c r s).house = s.house ∧ (takeFilterBytes c r s).line = s.line
    ∧ (takeFilterBytes c r s).ctl = s.ctl ∧ (takeFilterBytes c r s).pending = s.pending := by
  unfold takeFilterBytes
  (repeat' split) <;> simp

@[simp] theorem startLevels_keeps (s : State) :
    (startLevels s).now = s.now ∧ (startLevels s).inReset = s.inReset ∧ (startLevels s).strapsRead = s.strapsRead
    ∧ (startLevels s).stationIndex = s.stationIndex ∧ (startLevels s).lane = s.lane
    ∧ (startLevels s).roomClass = s.roomClass ∧ (startLevels s).cfg = s.cfg ∧ (startLevels s).clock = s.clock
    ∧ (startLevels s).seq = s.seq ∧ (startLevels s).fan = s.fan ∧ (startLevels s).climate = s.climate
    ∧ (startLevels s).frost = s.frost ∧ (startLevels s).humid = s.humid ∧ (startLevels s).filter = s.filter
    ∧ (startLevels s).peers = s.peers ∧ (startLevels s).house = s.house ∧ (startLevels s).line = s.line
    ∧ (startLevels s).ctl = s.ctl ∧ (startLevels s).loader = s.loader ∧ (startLevels s).pending = s.pending
    ∧ (startLevels s).demand.stack = s.demand.stack ∧ (startLevels s).demand.supply = s.demand.supply :=
  ⟨rfl, rfl, rfl, rfl, rfl, rfl, rfl, rfl, rfl, rfl, rfl, rfl, rfl, rfl, rfl, rfl, rfl, rfl, rfl, rfl,
    rfl, rfl⟩

@[simp] theorem endStarting_keeps (c : ConfigRecord) (raw : LineLevels) (s : State) :
    (endStarting c raw s).now = s.now ∧ (endStarting c raw s).inReset = s.inReset
    ∧ (endStarting c raw s).strapsRead = s.strapsRead ∧ (endStarting c raw s).stationIndex = s.stationIndex
    ∧ (endStarting c raw s).lane = s.lane ∧ (endStarting c raw s).roomClass = s.roomClass
    ∧ (endStarting c raw s).climate = s.climate ∧ (endStarting c raw s).peers = s.peers
    ∧ (endStarting c raw s).loader = s.loader ∧ (endStarting c raw s).pending = s.pending
    ∧ (endStarting c raw s).fan.direction = s.fan.direction ∧ (endStarting c raw s).fan.speed = s.fan.speed
    ∧ (endStarting c raw s).fan.periods = s.fan.periods
    ∧ (endStarting c raw s).fan.driveOutput = s.fan.driveOutput
    ∧ (endStarting c raw s).fan.holdEnd = s.fan.holdEnd
    ∧ (endStarting c raw s).fan.captureCounter = s.fan.captureCounter
    ∧ (endStarting c raw s).clock.running = s.clock.running ∧ (endStarting c raw s).clock.c = s.clock.c
    ∧ (endStarting c raw s).clock.length = s.clock.length ∧ (endStarting c raw s).frost.account = s.frost.account
    ∧ (endStarting c raw s).line.active = s.line.active
    ∧ (endStarting c raw s).line.transmission = s.line.transmission
    ∧ (endStarting c raw s).line.assembly = s.line.assembly
    ∧ (endStarting c raw s).line.idleTime = s.line.idleTime
    ∧ (endStarting c raw s).line.busyUntil = s.line.busyUntil
    ∧ (endStarting c raw s).line.modeSlot = s.line.modeSlot
    ∧ (endStarting c raw s).line.boostSlot = s.line.boostSlot ∧ (endStarting c raw s).ctl.stall = s.ctl.stall := by
  simp [endStarting]

@[simp] theorem takeFilterRecord_keeps (r : Option (List Byte)) (raw : LineLevels) (s : State) :
    (takeFilterRecord r raw s).now = s.now ∧ (takeFilterRecord r raw s).inReset = s.inReset
    ∧ (takeFilterRecord r raw s).strapsRead = s.strapsRead
    ∧ (takeFilterRecord r raw s).stationIndex = s.stationIndex ∧ (takeFilterRecord r raw s).lane = s.lane
    ∧ (takeFilterRecord r raw s).roomClass = s.roomClass ∧ (takeFilterRecord r raw s).climate = s.climate
    ∧ (takeFilterRecord r raw s).peers = s.peers ∧ (takeFilterRecord r raw s).pending = s.pending
    ∧ (takeFilterRecord r raw s).fan.direction = s.fan.direction
    ∧ (takeFilterRecord r raw s).fan.speed = s.fan.speed ∧ (takeFilterRecord r raw s).fan.periods = s.fan.periods
    ∧ (takeFilterRecord r raw s).fan.driveOutput = s.fan.driveOutput
    ∧ (takeFilterRecord r raw s).fan.holdEnd = s.fan.holdEnd
    ∧ (takeFilterRecord r raw s).fan.captureCounter = s.fan.captureCounter
    ∧ (takeFilterRecord r raw s).clock.running = s.clock.running ∧ (takeFilterRecord r raw s).clock.c = s.clock.c
    ∧ (takeFilterRecord r raw s).clock.length = s.clock.length
    ∧ (takeFilterRecord r raw s).frost.account = s.frost.account
    ∧ (takeFilterRecord r raw s).line.active = s.line.active
    ∧ (takeFilterRecord r raw s).line.transmission = s.line.transmission
    ∧ (takeFilterRecord r raw s).line.assembly = s.line.assembly
    ∧ (takeFilterRecord r raw s).line.idleTime = s.line.idleTime
    ∧ (takeFilterRecord r raw s).line.busyUntil = s.line.busyUntil
    ∧ (takeFilterRecord r raw s).line.modeSlot = s.line.modeSlot
    ∧ (takeFilterRecord r raw s).line.boostSlot = s.line.boostSlot
    ∧ (takeFilterRecord r raw s).ctl.stall = s.ctl.stall := by
  unfold takeFilterRecord
  (repeat' split) <;> simp

@[simp] theorem failWrite_keeps (s : State) :
    (failWrite s).now = s.now ∧ (failWrite s).inReset = s.inReset ∧ (failWrite s).strapsRead = s.strapsRead
    ∧ (failWrite s).stationIndex = s.stationIndex ∧ (failWrite s).lane = s.lane
    ∧ (failWrite s).roomClass = s.roomClass ∧ (failWrite s).cfg = s.cfg ∧ (failWrite s).clock = s.clock
    ∧ (failWrite s).seq = s.seq ∧ (failWrite s).fan = s.fan ∧ (failWrite s).climate = s.climate
    ∧ (failWrite s).frost = s.frost ∧ (failWrite s).humid = s.humid ∧ (failWrite s).demand = s.demand
    ∧ (failWrite s).filter = s.filter ∧ (failWrite s).peers = s.peers ∧ (failWrite s).house = s.house
    ∧ (failWrite s).line = s.line ∧ (failWrite s).pending = s.pending ∧ (failWrite s).ctl.levels = s.ctl.levels
    ∧ (failWrite s).ctl.stall = s.ctl.stall ∧ (failWrite s).ctl.amber = s.ctl.amber
    ∧ (failWrite s).ctl.green = s.ctl.green := by simp [failWrite]

@[simp] theorem endSpinup_keeps (s : State) :
    (endSpinup s).now = s.now ∧ (endSpinup s).inReset = s.inReset ∧ (endSpinup s).strapsRead = s.strapsRead
    ∧ (endSpinup s).stationIndex = s.stationIndex ∧ (endSpinup s).lane = s.lane
    ∧ (endSpinup s).roomClass = s.roomClass ∧ (endSpinup s).cfg = s.cfg ∧ (endSpinup s).peers = s.peers
    ∧ (endSpinup s).house = s.house ∧ (endSpinup s).loader = s.loader ∧ (endSpinup s).pending = s.pending
    ∧ (endSpinup s).fan.direction = s.fan.direction ∧ (endSpinup s).fan.speed = s.fan.speed
    ∧ (endSpinup s).fan.periods = s.fan.periods ∧ (endSpinup s).fan.captureCounter = s.fan.captureCounter
    ∧ (endSpinup s).clock.c = s.clock.c ∧ (endSpinup s).clock.length = s.clock.length
    ∧ (endSpinup s).frost.account = s.frost.account ∧ (endSpinup s).demand.supply = s.demand.supply
    ∧ (endSpinup s).line.active = s.line.active ∧ (endSpinup s).line.transmission = s.line.transmission
    ∧ (endSpinup s).line.assembly = s.line.assembly ∧ (endSpinup s).line.idleTime = s.line.idleTime
    ∧ (endSpinup s).line.busyUntil = s.line.busyUntil ∧ (endSpinup s).line.modeSlot = s.line.modeSlot
    ∧ (endSpinup s).line.boostSlot = s.line.boostSlot ∧ (endSpinup s).climate.humidity = s.climate.humidity
    ∧ (endSpinup s).climate.outer = s.climate.outer ∧ (endSpinup s).climate.inner = s.climate.inner
    ∧ (endSpinup s).filter.state = s.filter.state ∧ (endSpinup s).filter.baseline = s.filter.baseline
    ∧ (endSpinup s).filter.runHours = s.filter.runHours ∧ (endSpinup s).ctl.levels = s.ctl.levels := by
  unfold endSpinup
  (repeat' split) <;> simp

@[simp] theorem storeCapture_keeps (s : State) :
    (storeCapture s).now = s.now ∧ (storeCapture s).inReset = s.inReset
    ∧ (storeCapture s).strapsRead = s.strapsRead ∧ (storeCapture s).stationIndex = s.stationIndex
    ∧ (storeCapture s).lane = s.lane ∧ (storeCapture s).roomClass = s.roomClass ∧ (storeCapture s).cfg = s.cfg
    ∧ (storeCapture s).clock = s.clock ∧ (storeCapture s).seq = s.seq ∧ (storeCapture s).climate = s.climate
    ∧ (storeCapture s).frost = s.frost ∧ (storeCapture s).humid = s.humid ∧ (storeCapture s).demand = s.demand
    ∧ (storeCapture s).filter = s.filter ∧ (storeCapture s).peers = s.peers ∧ (storeCapture s).house = s.house
    ∧ (storeCapture s).line = s.line ∧ (storeCapture s).ctl = s.ctl ∧ (storeCapture s).loader = s.loader
    ∧ (storeCapture s).pending = s.pending ∧ (storeCapture s).fan.direction = s.fan.direction
    ∧ (storeCapture s).fan.speed = s.fan.speed ∧ (storeCapture s).fan.periods = s.fan.periods
    ∧ (storeCapture s).fan.driveOutput = s.fan.driveOutput ∧ (storeCapture s).fan.holdEnd = s.fan.holdEnd
    ∧ (storeCapture s).fan.captureCounter = s.fan.captureCounter :=
  ⟨rfl, rfl, rfl, rfl, rfl, rfl, rfl, rfl, rfl, rfl, rfl, rfl, rfl, rfl, rfl, rfl, rfl, rfl, rfl, rfl,
    rfl, rfl, rfl, rfl, rfl, rfl⟩

@[simp] theorem overflow_keeps (s : State) :
    (overflow s).now = s.now ∧ (overflow s).inReset = s.inReset ∧ (overflow s).strapsRead = s.strapsRead
    ∧ (overflow s).stationIndex = s.stationIndex ∧ (overflow s).lane = s.lane
    ∧ (overflow s).roomClass = s.roomClass ∧ (overflow s).cfg = s.cfg ∧ (overflow s).clock = s.clock
    ∧ (overflow s).seq = s.seq ∧ (overflow s).climate = s.climate ∧ (overflow s).frost = s.frost
    ∧ (overflow s).humid = s.humid ∧ (overflow s).demand = s.demand ∧ (overflow s).filter = s.filter
    ∧ (overflow s).peers = s.peers ∧ (overflow s).house = s.house ∧ (overflow s).line = s.line
    ∧ (overflow s).ctl = s.ctl ∧ (overflow s).loader = s.loader ∧ (overflow s).pending = s.pending
    ∧ (overflow s).fan.direction = s.fan.direction ∧ (overflow s).fan.driveOutput = s.fan.driveOutput
    ∧ (overflow s).fan.holdEnd = s.fan.holdEnd ∧ (overflow s).fan.captureCounter = s.fan.captureCounter :=
  ⟨rfl, rfl, rfl, rfl, rfl, rfl, rfl, rfl, rfl, rfl, rfl, rfl, rfl, rfl, rfl, rfl, rfl, rfl, rfl, rfl,
    rfl, rfl, rfl, rfl⟩

@[simp] theorem addPeriod_keeps (p : Nat) (s : State) :
    (addPeriod p s).now = s.now ∧ (addPeriod p s).inReset = s.inReset ∧ (addPeriod p s).strapsRead = s.strapsRead
    ∧ (addPeriod p s).stationIndex = s.stationIndex ∧ (addPeriod p s).lane = s.lane
    ∧ (addPeriod p s).roomClass = s.roomClass ∧ (addPeriod p s).cfg = s.cfg ∧ (addPeriod p s).clock = s.clock
    ∧ (addPeriod p s).seq = s.seq ∧ (addPeriod p s).climate = s.climate ∧ (addPeriod p s).frost = s.frost
    ∧ (addPeriod p s).humid = s.humid ∧ (addPeriod p s).demand = s.demand ∧ (addPeriod p s).filter = s.filter
    ∧ (addPeriod p s).peers = s.peers ∧ (addPeriod p s).house = s.house ∧ (addPeriod p s).line = s.line
    ∧ (addPeriod p s).ctl = s.ctl ∧ (addPeriod p s).loader = s.loader ∧ (addPeriod p s).pending = s.pending
    ∧ (addPeriod p s).fan.direction = s.fan.direction ∧ (addPeriod p s).fan.driveOutput = s.fan.driveOutput
    ∧ (addPeriod p s).fan.holdEnd = s.fan.holdEnd ∧ (addPeriod p s).fan.captureCounter = s.fan.captureCounter :=
  ⟨rfl, rfl, rfl, rfl, rfl, rfl, rfl, rfl, rfl, rfl, rfl, rfl, rfl, rfl, rfl, rfl, rfl, rfl, rfl, rfl,
    rfl, rfl, rfl, rfl⟩

@[simp] theorem capture_keeps (s : State) :
    (capture s).now = s.now ∧ (capture s).inReset = s.inReset ∧ (capture s).strapsRead = s.strapsRead
    ∧ (capture s).stationIndex = s.stationIndex ∧ (capture s).lane = s.lane ∧ (capture s).roomClass = s.roomClass
    ∧ (capture s).cfg = s.cfg ∧ (capture s).clock = s.clock ∧ (capture s).seq = s.seq
    ∧ (capture s).climate = s.climate ∧ (capture s).frost = s.frost ∧ (capture s).humid = s.humid
    ∧ (capture s).demand = s.demand ∧ (capture s).filter = s.filter ∧ (capture s).peers = s.peers
    ∧ (capture s).house = s.house ∧ (capture s).line = s.line ∧ (capture s).ctl = s.ctl
    ∧ (capture s).loader = s.loader ∧ (capture s).pending = s.pending
    ∧ (capture s).fan.direction = s.fan.direction ∧ (capture s).fan.driveOutput = s.fan.driveOutput
    ∧ (capture s).fan.holdEnd = s.fan.holdEnd ∧ (capture s).fan.captureCounter = s.fan.captureCounter := by
  unfold capture
  (repeat' split) <;> simp

@[simp] theorem reversalOnSpeed_keeps (s : State) :
    (reversalOnSpeed s).now = s.now ∧ (reversalOnSpeed s).inReset = s.inReset
    ∧ (reversalOnSpeed s).strapsRead = s.strapsRead ∧ (reversalOnSpeed s).stationIndex = s.stationIndex
    ∧ (reversalOnSpeed s).lane = s.lane ∧ (reversalOnSpeed s).roomClass = s.roomClass
    ∧ (reversalOnSpeed s).cfg = s.cfg ∧ (reversalOnSpeed s).clock = s.clock ∧ (reversalOnSpeed s).peers = s.peers
    ∧ (reversalOnSpeed s).house = s.house ∧ (reversalOnSpeed s).loader = s.loader
    ∧ (reversalOnSpeed s).pending = s.pending ∧ (reversalOnSpeed s).fan.speed = s.fan.speed
    ∧ (reversalOnSpeed s).fan.periods = s.fan.periods
    ∧ (reversalOnSpeed s).fan.captureCounter = s.fan.captureCounter
    ∧ (reversalOnSpeed s).frost.account = s.frost.account ∧ (reversalOnSpeed s).demand.supply = s.demand.supply
    ∧ (reversalOnSpeed s).line.active = s.line.active
    ∧ (reversalOnSpeed s).line.transmission = s.line.transmission
    ∧ (reversalOnSpeed s).line.assembly = s.line.assembly ∧ (reversalOnSpeed s).line.idleTime = s.line.idleTime
    ∧ (reversalOnSpeed s).line.busyUntil = s.line.busyUntil ∧ (reversalOnSpeed s).line.modeSlot = s.line.modeSlot
    ∧ (reversalOnSpeed s).line.boostSlot = s.line.boostSlot
    ∧ (reversalOnSpeed s).climate.humidity = s.climate.humidity
    ∧ (reversalOnSpeed s).climate.outer = s.climate.outer ∧ (reversalOnSpeed s).climate.inner = s.climate.inner
    ∧ (reversalOnSpeed s).filter.state = s.filter.state ∧ (reversalOnSpeed s).filter.baseline = s.filter.baseline
    ∧ (reversalOnSpeed s).filter.runHours = s.filter.runHours ∧ (reversalOnSpeed s).ctl.steady = s.ctl.steady
    ∧ (reversalOnSpeed s).ctl.levels = s.ctl.levels ∧ (reversalOnSpeed s).ctl.stall = s.ctl.stall := by
  simp [reversalOnSpeed]

@[simp] theorem reportStall_keeps (s : State) :
    (reportStall s).now = s.now ∧ (reportStall s).inReset = s.inReset ∧ (reportStall s).strapsRead = s.strapsRead
    ∧ (reportStall s).stationIndex = s.stationIndex ∧ (reportStall s).lane = s.lane
    ∧ (reportStall s).roomClass = s.roomClass ∧ (reportStall s).cfg = s.cfg ∧ (reportStall s).peers = s.peers
    ∧ (reportStall s).house = s.house ∧ (reportStall s).loader = s.loader ∧ (reportStall s).pending = s.pending
    ∧ (reportStall s).fan.direction = s.fan.direction ∧ (reportStall s).fan.speed = s.fan.speed
    ∧ (reportStall s).fan.periods = s.fan.periods ∧ (reportStall s).fan.captureCounter = s.fan.captureCounter
    ∧ (reportStall s).clock.c = s.clock.c ∧ (reportStall s).clock.length = s.clock.length
    ∧ (reportStall s).frost.account = s.frost.account ∧ (reportStall s).demand.supply = s.demand.supply
    ∧ (reportStall s).line.active = s.line.active ∧ (reportStall s).line.transmission = s.line.transmission
    ∧ (reportStall s).line.assembly = s.line.assembly ∧ (reportStall s).line.idleTime = s.line.idleTime
    ∧ (reportStall s).line.busyUntil = s.line.busyUntil ∧ (reportStall s).line.modeSlot = s.line.modeSlot
    ∧ (reportStall s).line.boostSlot = s.line.boostSlot ∧ (reportStall s).climate.humidity = s.climate.humidity
    ∧ (reportStall s).climate.outer = s.climate.outer ∧ (reportStall s).climate.inner = s.climate.inner
    ∧ (reportStall s).filter.state = s.filter.state ∧ (reportStall s).filter.baseline = s.filter.baseline
    ∧ (reportStall s).filter.runHours = s.filter.runHours ∧ (reportStall s).ctl.levels = s.ctl.levels := by
  simp only [reportStall]
  (repeat' split) <;> simp

@[simp] theorem ageHistory_keeps (s : State) :
    (ageHistory s).now = s.now ∧ (ageHistory s).inReset = s.inReset ∧ (ageHistory s).strapsRead = s.strapsRead
    ∧ (ageHistory s).stationIndex = s.stationIndex ∧ (ageHistory s).lane = s.lane
    ∧ (ageHistory s).roomClass = s.roomClass ∧ (ageHistory s).cfg = s.cfg ∧ (ageHistory s).clock = s.clock
    ∧ (ageHistory s).fan = s.fan ∧ (ageHistory s).climate = s.climate ∧ (ageHistory s).frost = s.frost
    ∧ (ageHistory s).humid = s.humid ∧ (ageHistory s).demand = s.demand ∧ (ageHistory s).filter = s.filter
    ∧ (ageHistory s).peers = s.peers ∧ (ageHistory s).house = s.house ∧ (ageHistory s).line = s.line
    ∧ (ageHistory s).ctl = s.ctl ∧ (ageHistory s).loader = s.loader ∧ (ageHistory s).pending = s.pending
    ∧ (ageHistory s).seq.state = s.seq.state ∧ (ageHistory s).seq.phase = s.seq.phase
    ∧ (ageHistory s).seq.target = s.seq.target :=
  ⟨rfl, rfl, rfl, rfl, rfl, rfl, rfl, rfl, rfl, rfl, rfl, rfl, rfl, rfl, rfl, rfl, rfl, rfl, rfl, rfl,
    rfl, rfl, rfl⟩

@[simp] theorem closeStep_keeps (s : State) :
    (closeStep s).now = s.now ∧ (closeStep s).inReset = s.inReset ∧ (closeStep s).strapsRead = s.strapsRead
    ∧ (closeStep s).stationIndex = s.stationIndex ∧ (closeStep s).lane = s.lane
    ∧ (closeStep s).roomClass = s.roomClass ∧ (closeStep s).cfg = s.cfg ∧ (closeStep s).clock = s.clock
    ∧ (closeStep s).climate = s.climate ∧ (closeStep s).peers = s.peers ∧ (closeStep s).house = s.house
    ∧ (closeStep s).loader = s.loader ∧ (closeStep s).pending = s.pending ∧ (closeStep s).fan.speed = s.fan.speed
    ∧ (closeStep s).fan.periods = s.fan.periods ∧ (closeStep s).fan.captureCounter = s.fan.captureCounter
    ∧ (closeStep s).demand.supply = s.demand.supply ∧ (closeStep s).line.active = s.line.active
    ∧ (closeStep s).line.transmission = s.line.transmission ∧ (closeStep s).line.assembly = s.line.assembly
    ∧ (closeStep s).line.idleTime = s.line.idleTime ∧ (closeStep s).line.busyUntil = s.line.busyUntil
    ∧ (closeStep s).line.modeSlot = s.line.modeSlot ∧ (closeStep s).line.boostSlot = s.line.boostSlot
    ∧ (closeStep s).filter.state = s.filter.state ∧ (closeStep s).filter.baseline = s.filter.baseline
    ∧ (closeStep s).filter.runHours = s.filter.runHours ∧ (closeStep s).ctl.steady = s.ctl.steady
    ∧ (closeStep s).ctl.levels = s.ctl.levels ∧ (closeStep s).ctl.stall = s.ctl.stall := by
  unfold closeStep
  (repeat' split) <;> simp

@[simp] theorem takeRestReading_keeps (rh : Int) (s : State) :
    (takeRestReading rh s).now = s.now ∧ (takeRestReading rh s).inReset = s.inReset
    ∧ (takeRestReading rh s).strapsRead = s.strapsRead ∧ (takeRestReading rh s).stationIndex = s.stationIndex
    ∧ (takeRestReading rh s).lane = s.lane ∧ (takeRestReading rh s).roomClass = s.roomClass
    ∧ (takeRestReading rh s).cfg = s.cfg ∧ (takeRestReading rh s).clock = s.clock
    ∧ (takeRestReading rh s).climate = s.climate ∧ (takeRestReading rh s).frost = s.frost
    ∧ (takeRestReading rh s).peers = s.peers ∧ (takeRestReading rh s).house = s.house
    ∧ (takeRestReading rh s).line = s.line ∧ (takeRestReading rh s).ctl = s.ctl
    ∧ (takeRestReading rh s).loader = s.loader ∧ (takeRestReading rh s).pending = s.pending
    ∧ (takeRestReading rh s).seq.state = s.seq.state ∧ (takeRestReading rh s).seq.phase = s.seq.phase
    ∧ (takeRestReading rh s).seq.target = s.seq.target
    ∧ (takeRestReading rh s).seq.stallHistory = s.seq.stallHistory
    ∧ (takeRestReading rh s).fan.direction = s.fan.direction ∧ (takeRestReading rh s).fan.speed = s.fan.speed
    ∧ (takeRestReading rh s).fan.periods = s.fan.periods
    ∧ (takeRestReading rh s).fan.driveOutput = s.fan.driveOutput
    ∧ (takeRestReading rh s).fan.holdEnd = s.fan.holdEnd
    ∧ (takeRestReading rh s).fan.captureCounter = s.fan.captureCounter
    ∧ (takeRestReading rh s).demand.supply = s.demand.supply
    ∧ (takeRestReading rh s).filter.state = s.filter.state
    ∧ (takeRestReading rh s).filter.baseline = s.filter.baseline
    ∧ (takeRestReading rh s).filter.runHours = s.filter.runHours := by
  unfold takeRestReading
  (repeat' split) <;> simp

@[simp] theorem restCheckAt_keeps (e : Time) (s : State) :
    (restCheckAt e s).now = s.now ∧ (restCheckAt e s).inReset = s.inReset
    ∧ (restCheckAt e s).strapsRead = s.strapsRead ∧ (restCheckAt e s).stationIndex = s.stationIndex
    ∧ (restCheckAt e s).lane = s.lane ∧ (restCheckAt e s).roomClass = s.roomClass ∧ (restCheckAt e s).cfg = s.cfg
    ∧ (restCheckAt e s).clock = s.clock ∧ (restCheckAt e s).climate = s.climate
    ∧ (restCheckAt e s).frost = s.frost ∧ (restCheckAt e s).peers = s.peers ∧ (restCheckAt e s).house = s.house
    ∧ (restCheckAt e s).line = s.line ∧ (restCheckAt e s).ctl = s.ctl ∧ (restCheckAt e s).loader = s.loader
    ∧ (restCheckAt e s).pending = s.pending ∧ (restCheckAt e s).seq.state = s.seq.state
    ∧ (restCheckAt e s).seq.phase = s.seq.phase ∧ (restCheckAt e s).seq.target = s.seq.target
    ∧ (restCheckAt e s).seq.stallHistory = s.seq.stallHistory ∧ (restCheckAt e s).fan.direction = s.fan.direction
    ∧ (restCheckAt e s).fan.speed = s.fan.speed ∧ (restCheckAt e s).fan.periods = s.fan.periods
    ∧ (restCheckAt e s).fan.driveOutput = s.fan.driveOutput ∧ (restCheckAt e s).fan.holdEnd = s.fan.holdEnd
    ∧ (restCheckAt e s).fan.captureCounter = s.fan.captureCounter
    ∧ (restCheckAt e s).demand.supply = s.demand.supply ∧ (restCheckAt e s).filter.state = s.filter.state
    ∧ (restCheckAt e s).filter.baseline = s.filter.baseline
    ∧ (restCheckAt e s).filter.runHours = s.filter.runHours := by
  unfold restCheckAt
  (repeat' split) <;> simp

@[simp] theorem restCheck_keeps (s : State) :
    (restCheck s).now = s.now ∧ (restCheck s).inReset = s.inReset ∧ (restCheck s).strapsRead = s.strapsRead
    ∧ (restCheck s).stationIndex = s.stationIndex ∧ (restCheck s).lane = s.lane
    ∧ (restCheck s).roomClass = s.roomClass ∧ (restCheck s).cfg = s.cfg ∧ (restCheck s).clock = s.clock
    ∧ (restCheck s).climate = s.climate ∧ (restCheck s).frost = s.frost ∧ (restCheck s).peers = s.peers
    ∧ (restCheck s).house = s.house ∧ (restCheck s).line = s.line ∧ (restCheck s).ctl = s.ctl
    ∧ (restCheck s).loader = s.loader ∧ (restCheck s).pending = s.pending ∧ (restCheck s).seq.state = s.seq.state
    ∧ (restCheck s).seq.phase = s.seq.phase ∧ (restCheck s).seq.target = s.seq.target
    ∧ (restCheck s).seq.stallHistory = s.seq.stallHistory ∧ (restCheck s).fan.direction = s.fan.direction
    ∧ (restCheck s).fan.speed = s.fan.speed ∧ (restCheck s).fan.periods = s.fan.periods
    ∧ (restCheck s).fan.driveOutput = s.fan.driveOutput ∧ (restCheck s).fan.holdEnd = s.fan.holdEnd
    ∧ (restCheck s).fan.captureCounter = s.fan.captureCounter ∧ (restCheck s).demand.supply = s.demand.supply
    ∧ (restCheck s).filter.state = s.filter.state ∧ (restCheck s).filter.baseline = s.filter.baseline
    ∧ (restCheck s).filter.runHours = s.filter.runHours := by
  unfold restCheck
  (repeat' split) <;> simp

@[simp] theorem takePair_keeps (mode1 mode0 : Level) (s : State) :
    (takePair mode1 mode0 s).now = s.now ∧ (takePair mode1 mode0 s).inReset = s.inReset
    ∧ (takePair mode1 mode0 s).strapsRead = s.strapsRead ∧ (takePair mode1 mode0 s).stationIndex = s.stationIndex
    ∧ (takePair mode1 mode0 s).lane = s.lane ∧ (takePair mode1 mode0 s).roomClass = s.roomClass
    ∧ (takePair mode1 mode0 s).cfg = s.cfg ∧ (takePair mode1 mode0 s).clock = s.clock
    ∧ (takePair mode1 mode0 s).fan = s.fan ∧ (takePair mode1 mode0 s).climate = s.climate
    ∧ (takePair mode1 mode0 s).frost = s.frost ∧ (takePair mode1 mode0 s).humid = s.humid
    ∧ (takePair mode1 mode0 s).filter = s.filter ∧ (takePair mode1 mode0 s).peers = s.peers
    ∧ (takePair mode1 mode0 s).loader = s.loader ∧ (takePair mode1 mode0 s).pending = s.pending
    ∧ (takePair mode1 mode0 s).seq.state = s.seq.state ∧ (takePair mode1 mode0 s).seq.phase = s.seq.phase
    ∧ (takePair mode1 mode0 s).seq.target = s.seq.target
    ∧ (takePair mode1 mode0 s).seq.stallHistory = s.seq.stallHistory
    ∧ (takePair mode1 mode0 s).demand.stack = s.demand.stack
    ∧ (takePair mode1 mode0 s).demand.supply = s.demand.supply
    ∧ (takePair mode1 mode0 s).line.active = s.line.active
    ∧ (takePair mode1 mode0 s).line.transmission = s.line.transmission
    ∧ (takePair mode1 mode0 s).line.assembly = s.line.assembly
    ∧ (takePair mode1 mode0 s).line.idleTime = s.line.idleTime
    ∧ (takePair mode1 mode0 s).line.busyUntil = s.line.busyUntil
    ∧ (takePair mode1 mode0 s).line.boostSlot = s.line.boostSlot
    ∧ (takePair mode1 mode0 s).ctl.levels = s.ctl.levels ∧ (takePair mode1 mode0 s).ctl.stall = s.ctl.stall
    ∧ (takePair mode1 mode0 s).ctl.amber = s.ctl.amber ∧ (takePair mode1 mode0 s).ctl.green = s.ctl.green := by
  unfold takePair
  (repeat' split) <;> simp

end Sys2Proof.Machine
end

