-- ==== Sys2Proof/Laws/State.lean ====
section
/-! SUPPORT. What the named updates of the state put into the fields they name; each true by unfolding. The
fields that they leave stand in the Keeps files. -/

namespace Sys2Proof.Machine

@[simp] theorem zeroDrive_driveOutput (s : State) : (zeroDrive s).fan.driveOutput = 0 := rfl
@[simp] theorem zeroDrive_holdEnd (s : State) : (zeroDrive s).fan.holdEnd = none := rfl
@[simp] theorem orderDirection_direction (d : Dir) (s : State) : (orderDirection d s).fan.direction = d := rfl
@[simp] theorem liftHold_probeHold (s : State) : (liftHold s).fan.probeHold = false := rfl
@[simp] theorem liftHold_holdPlaced (s : State) : (liftHold s).filter.holdPlaced = false := rfl
@[simp] theorem placeHold_probeHold (s : State) : (placeHold s).fan.probeHold = true := rfl
@[simp] theorem placeHold_holdPlaced (s : State) : (placeHold s).filter.holdPlaced = true := rfl
@[simp] theorem restartRamp_rampFrom (s : State) : (restartRamp s).fan.rampFrom = s.fan.driveOutput := rfl
@[simp] theorem restartRamp_rampStart (s : State) : (restartRamp s).fan.rampStart = s.now := rfl
@[simp] theorem takeRise_active (s : State) : (takeRise s).demand.active = s.demand.requested := rfl
@[simp] theorem takeRise_requested (s : State) : (takeRise s).demand.requested = s.demand.requested := rfl
@[simp] theorem reformLevels_requested (s : State) : (reformLevels s).demand.requested = wantedLevel s := rfl
@[simp] theorem reformLevels_active (s : State) :
    (reformLevels s).demand.active = min s.demand.active (wantedLevel s) := rfl
@[simp] theorem reformLevels_stack (s : State) : (reformLevels s).demand.stack = s.demand.stack := rfl
@[simp] theorem removeEntry_stack (src : Source) (o : Nat) (s : State) :
    (removeEntry src o s).demand.stack = s.demand.stack.filter (fun x => !x.is src o) := rfl
@[simp] theorem setAccount_account (a : Nat) (s : State) : (setAccount a s).frost.account = a := rfl
@[simp] theorem clearContention_windowEnd (s : State) : (clearContention s).frost.windowEnd = none := rfl
@[simp] theorem clearContention_contentionStart (s : State) :
    (clearContention s).frost.contentionStart = none := rfl
@[simp] theorem clearContention_entryAccount (s : State) : (clearContention s).frost.entryAccount = none := rfl
@[simp] theorem clearDefrost_defrostStart (s : State) : (clearDefrost s).frost.defrostStart = none := rfl
@[simp] theorem clearDefrost_meltStepEnd (s : State) : (clearDefrost s).frost.meltStepEnd = none := rfl
@[simp] theorem startMelt_meltStepEnd (s : State) :
    (startMelt s).frost.meltStepEnd = some (s.now + seconds 10) := rfl
@[simp] theorem dropMelt_meltStepEnd (s : State) : (dropMelt s).frost.meltStepEnd = none := rfl
@[simp] theorem startLockout_lockoutEnd (s : State) :
    (startLockout s).frost.lockoutEnd = some (s.now + seconds 1800) := rfl
@[simp] theorem clearBlindDefrost_blindDefrost (s : State) : (clearBlindDefrost s).frost.blindDefrost = false := rfl
@[simp] theorem clearBlindDefrost_defrostStart (s : State) : (clearBlindDefrost s).frost.defrostStart = none := rfl
@[simp] theorem queueNotice_notice (a : NoticeAction) (f : Bool) (s : State) :
    (queueNotice a f s).frost.notice = some ⟨a, f⟩ := rfl
@[simp] theorem queueMode_modeBody (s : State) : (queueMode s).line.modeBody = some s.house := rfl
@[simp] theorem queueBoost_boostBody (b : BoostCall) (s : State) : (queueBoost b s).line.boostBody = some b := rfl
@[simp] theorem openCollection_openTime (s : State) : (openCollection s).climate.openTime = some s.now := rfl
@[simp] theorem openCollection_window (s : State) : (openCollection s).climate.window = [] := rfl
@[simp] theorem openCollection_lastCompletion (s : State) : (openCollection s).climate.lastCompletion = none := rfl
@[simp] theorem closeCollection_openTime (s : State) : (closeCollection s).climate.openTime = none := rfl
@[simp] theorem closeCollection_window (s : State) : (closeCollection s).climate.window = [] := rfl
@[simp] theorem closeCollection_lastCompletion (s : State) : (closeCollection s).climate.lastCompletion = none := rfl
@[simp] theorem advanceClock_c (n : Nat) (e : Time) (s : State) : (advanceClock n e s).clock.c = s.clock.c + 1 := rfl
@[simp] theorem advanceClock_startTime (n : Nat) (e : Time) (s : State) :
    (advanceClock n e s).clock.startTime = some s.now := rfl
@[simp] theorem advanceClock_length (n : Nat) (e : Time) (s : State) : (advanceClock n e s).clock.length = n := rfl
@[simp] theorem advanceClock_endTime (n : Nat) (e : Time) (s : State) :
    (advanceClock n e s).clock.endTime = some e := rfl
@[simp] theorem storeCapture_lastCapture (s : State) :
    (storeCapture s).fan.lastCapture = some s.fan.captureCounter := rfl
@[simp] theorem storeCapture_ticksSince (s : State) : (storeCapture s).fan.ticksSince = 0 := rfl
@[simp] theorem overflow_lastCapture (s : State) : (overflow s).fan.lastCapture = none := rfl
@[simp] theorem overflow_periods (s : State) : (overflow s).fan.periods = [] := rfl
@[simp] theorem overflow_speed (s : State) : (overflow s).fan.speed = 0 := rfl
@[simp] theorem overflow_ticksSince (s : State) : (overflow s).fan.ticksSince = 0 := rfl
@[simp] theorem addPeriod_periods (p : Nat) (s : State) :
    (addPeriod p s).fan.periods = ringAdd p s.fan.periods := rfl
@[simp] theorem addPeriod_speed (p : Nat) (s : State) :
    (addPeriod p s).fan.speed = speedOf (ringAdd p s.fan.periods) := rfl
@[simp] theorem setBoostStage_boostStage (g : GestureStage) (o : Option Time) (s : State) :
    (setBoostStage g o s).ctl.boostStage = g := rfl
@[simp] theorem setBoostStage_boostStart (g : GestureStage) (o : Option Time) (s : State) :
    (setBoostStage g o s).ctl.boostStart = o := rfl
@[simp] theorem setFilterStage_filterStage (g : GestureStage) (o : Option Time) (s : State) :
    (setFilterStage g o s).ctl.filterStage = g := rfl
@[simp] theorem setFilterStage_filterStart (g : GestureStage) (o : Option Time) (s : State) :
    (setFilterStage g o s).ctl.filterStart = o := rfl
@[simp] theorem setLevel_levels (c : ControlLine) (v : Level) (s : State) :
    (setLevel c v s).ctl.levels = LineLevels.set s.ctl.levels c v := rfl
@[simp] theorem hearOwnIndex_duplicate (s : State) : (hearOwnIndex s).ctl.duplicate = true := rfl
@[simp] theorem emptyAssembly_assembly (tail : Nat) (s : State) : (emptyAssembly tail s).line.assembly = [] := rfl
@[simp] theorem emptyAssembly_idleTime (tail : Nat) (s : State) :
    (emptyAssembly tail s).line.idleTime = gapTime + tail := rfl
@[simp] theorem readStraps_inReset (index : BitVec 4) (lane : BitVec 1) (cl : BitVec 2) (s : State) :
    (readStraps index lane cl s).inReset = false := rfl
@[simp] theorem lampOutput_inReset (s : State) (l : Lamp) (h : s.inReset = true) : lampOutput s l = false := by
  simp [lampOutput, h]
@[simp] theorem collide_busyUntil (e : Time) (x : Transmission) (s : State) :
    (collide e x s).line.busyUntil = some e := by
  unfold collide
  dsimp only
  split <;> rfl
@[simp] theorem collide_transmission (e : Time) (x : Transmission) (s : State) :
    (collide e x s).line.transmission = none := by
  unfold collide
  dsimp only
  split <;> rfl
@[simp] theorem startWrite_inFlight (s : State) : (startWrite s).loader.inFlight = true := rfl
@[simp] theorem startWrite_writeBytes (s : State) :
    (startWrite s).loader.writeBytes = filterRecordBytes s.filter := rfl
@[simp] theorem startLevels_requested (s : State) : (startLevels s).demand.requested = wantedLevel s := rfl
@[simp] theorem startLevels_active (s : State) : (startLevels s).demand.active = wantedLevel s := rfl
@[simp] theorem putPeer_peers (r : PeerRec) (s : State) : (putPeer r s).peers = insertPeer r s.peers := rfl
@[simp] theorem requestStatus_statusMark (mark : Bool) (s : State) :
    (requestStatus mark s).line.statusMark = (s.line.statusMark || mark) := rfl
@[simp] theorem requestStatus_pending (mark : Bool) (s : State) :
    (requestStatus mark s).line.statusSlot.pending = true := rfl

end Sys2Proof.Machine
end

