-- ==== Sys2Proof/Laws/Commands.lean ====
section
/-! SUPPORT. What every command has in common: what time moves, what follows a command, and the form of an
event whose condition holds or fails. -/

namespace Sys2Proof.Machine

/-! ## Time -/

@[simp] theorem advance_now (t : Time) (s : State) : (advance t s).now = timeAfter t s := rfl

/-- Time moves nothing of the held part. -/
@[simp] theorem held_advance (t : Time) (s : State) : held (advance t s) = held s := rfl

/-- Time moves none of these of the fan drive and the line interface. -/
@[simp] theorem advance_keeps_fan (t : Time) (s : State) :
    (advance t s).fan.demandTarget = s.fan.demandTarget ∧ (advance t s).fan.probeHold = s.fan.probeHold
    ∧ (advance t s).fan.rampFrom = s.fan.rampFrom ∧ (advance t s).fan.rampStart = s.fan.rampStart
    ∧ (advance t s).fan.holdEnd = s.fan.holdEnd ∧ (advance t s).fan.direction = s.fan.direction
    ∧ (advance t s).fan.lastCapture = s.fan.lastCapture ∧ (advance t s).fan.periods = s.fan.periods
    ∧ (advance t s).fan.speed = s.fan.speed ∧ (advance t s).fan.driveOutput = outputAt s (timeAfter t s) :=
  ⟨rfl, rfl, rfl, rfl, rfl, rfl, rfl, rfl, rfl, rfl⟩

@[simp] theorem advance_keeps_line (t : Time) (s : State) :
    (advance t s).line.statusSlot = s.line.statusSlot ∧ (advance t s).line.statusMark = s.line.statusMark
    ∧ (advance t s).line.steady = s.line.steady ∧ (advance t s).line.active = s.line.active
    ∧ (advance t s).line.transmission = s.line.transmission ∧ (advance t s).line.assembly = s.line.assembly
    ∧ (advance t s).line.arrival = s.line.arrival ∧ (advance t s).line.statusPeriodEnd = s.line.statusPeriodEnd
    ∧ (advance t s).line.defrostSlot = s.line.defrostSlot ∧ (advance t s).line.modeSlot = s.line.modeSlot
    ∧ (advance t s).line.boostSlot = s.line.boostSlot ∧ (advance t s).line.modeBody = s.line.modeBody
    ∧ (advance t s).line.boostBody = s.line.boostBody ∧ (advance t s).line.collisions = s.line.collisions
    ∧ (advance t s).line.collisionKind = s.line.collisionKind ∧ (advance t s).line.busyUntil = s.line.busyUntil :=
  ⟨rfl, rfl, rfl, rfl, rfl, rfl, rfl, rfl, rfl, rfl, rfl, rfl, rfl, rfl, rfl, rfl⟩

/-- Time alone changes no input of the demand unit, of the lamps or of STATUS. -/
@[simp] theorem advance_inputs (t : Time) (s : State) :
    demandInputs (advance t s) = demandInputs s ∧ lampInputs (advance t s) = lampInputs s
    ∧ announced (advance t s) = announced s := ⟨rfl, rfl, rfl⟩

/-! ## What follows a command -/

/-- A recomputation moves the demand unit's results alone. -/
@[simp] theorem held_recompute (s : State) : held (recompute s) = held s := by
  unfold recompute
  split <;> rfl

/-- What follows a command moves nothing of the held part. -/
@[simp] theorem held_finish (m s : State) : held (finish m s) = held s := by
  have h1 : held (trackDemand m s) = held s := by unfold trackDemand; split <;> simp
  have h2 (x : State) : held (trackAnnounced m x) = held x := by unfold trackAnnounced; split <;> rfl
  have h3 (x : State) : held (trackLamps m x) = held x := by unfold trackLamps; split <;> rfl
  have h4 (x : State) : held (trackRamp m x) = held x := by unfold trackRamp; split <;> rfl
  exact (h4 _).trans ((h3 _).trans ((h2 _).trans h1))

/-- A change that is announced and shown moves nothing more of the held part. -/
@[simp] theorem held_showChange (m s : State) : held (showChange m s) = held s := by
  have h (x : State) : held (trackAnnounced m x) = held x := by unfold trackAnnounced; split <;> rfl
  have k (x : State) : held (trackLamps m x) = held x := by unfold trackLamps; split <;> rfl
  exact (k _).trans (h _)

/-- A recomputation changes none of its own inputs, nor a lamp's. -/
@[simp] theorem recompute_inputs (s : State) :
    demandInputs (recompute s) = demandInputs s ∧ lampInputs (recompute s) = lampInputs s := by
  unfold recompute
  constructor <;> split <;> rfl

/-- The four trackers change no input of the demand unit. -/
@[simp] theorem track_demandInputs (m s : State) :
    demandInputs (trackDemand m s) = demandInputs s ∧ demandInputs (trackAnnounced m s) = demandInputs s
    ∧ demandInputs (trackLamps m s) = demandInputs s ∧ demandInputs (trackRamp m s) = demandInputs s
    ∧ ∀ t, demandInputs (trackStall m t s) = demandInputs s := by
  unfold trackDemand trackAnnounced trackLamps trackRamp
  refine ⟨?_, ?_, ?_, ?_, fun _ => rfl⟩ <;> split <;> first | rfl | exact (recompute_inputs s).1

/-- The four trackers change no input of the lamps. -/
@[simp] theorem track_lampInputs (m s : State) :
    lampInputs (trackDemand m s) = lampInputs s ∧ lampInputs (trackAnnounced m s) = lampInputs s
    ∧ lampInputs (trackLamps m s) = lampInputs s ∧ lampInputs (trackRamp m s) = lampInputs s
    ∧ ∀ t, lampInputs (trackStall m t s) = lampInputs s := by
  unfold trackDemand trackAnnounced trackLamps trackRamp
  refine ⟨?_, ?_, ?_, ?_, fun _ => rfl⟩ <;> split <;> first | rfl | exact (recompute_inputs s).2

/-- Announcing and showing a change moves no input of the demand unit and of the lamps, and no announced field. -/
@[simp] theorem showChange_inputs (m s : State) :
    demandInputs (showChange m s) = demandInputs s ∧ lampInputs (showChange m s) = lampInputs s
    ∧ announced (showChange m s) = announced s := by
  refine ⟨by simp [showChange], by simp [showChange], ?_⟩
  unfold showChange trackAnnounced trackLamps
  split <;> split <;> rfl

/-- A change of an announced field that is shown leaves the STATUS slot pending. -/
theorem showChange_requests (m s : State) (h : announced m ≠ announced s) :
    (showChange m s).line.statusSlot.pending = true := by
  unfold showChange trackAnnounced trackLamps
  split <;> split <;> first | rfl | simp_all

/-- What follows a command changes no input of the demand unit and of the lamps. -/
@[simp] theorem finish_inputs (m s : State) :
    demandInputs (finish m s) = demandInputs s ∧ lampInputs (finish m s) = lampInputs s := by
  simp [finish]

/-- What time and the tach move in the fan drive, with local time and the idle time. -/
abbrev timeRun (s : State) : Time × Nat × BitVec 16 × Nat × Time :=
  (s.now, s.fan.driveOutput, s.fan.captureCounter, s.fan.ticksSince, s.line.idleTime)

/-- A recomputation leaves what time moves. -/
@[simp] theorem recompute_timeRun (s : State) : timeRun (recompute s) = timeRun s := by
  unfold recompute
  split <;> rfl

/-- What follows a command leaves local time, the drive output, the counters of the tach and the idle time. -/
theorem finish_timeRun (m s : State) : timeRun (finish m s) = timeRun s := by
  have h1 : timeRun (trackDemand m s) = timeRun s := by
    unfold trackDemand; split <;> [rfl; exact recompute_timeRun s]
  have h2 (x : State) : timeRun (trackAnnounced m x) = timeRun x := by unfold trackAnnounced; split <;> rfl
  have h3 (x : State) : timeRun (trackLamps m x) = timeRun x := by unfold trackLamps; split <;> rfl
  have h4 (x : State) : timeRun (trackRamp m x) = timeRun x := by unfold trackRamp; split <;> rfl
  exact (h4 _).trans ((h3 _).trans ((h2 _).trans h1))

/-- The same, field by field. -/
@[simp] theorem finish_keeps_timeRun (m s : State) :
    (finish m s).now = s.now ∧ (finish m s).fan.driveOutput = s.fan.driveOutput
    ∧ (finish m s).fan.captureCounter = s.fan.captureCounter ∧ (finish m s).fan.ticksSince = s.fan.ticksSince
    ∧ (finish m s).line.idleTime = s.line.idleTime := by
  simpa using finish_timeRun m s

/-! ## The form of a command -/

/-- A command answers a next state. -/
theorem command_next (t : Time) (f : State → State) {s : State} (h : s.inReset = false) :
    command t f s = .next (finish (advance t s) (f (advance t s))) := by
  simp [command, unlessInReset, h]

/-- Held in reset, a command changes nothing (R167). -/
theorem command_inReset (t : Time) (f : State → State) {s : State} (h : s.inReset = true) :
    command t f s = .next s := by
  simp [command, unlessInReset, h]

/-- An event whose condition holds when its time has come. -/
theorem event_due {t : Time} {due : State → Bool} {f : State → State} {s : State} (hr : s.inReset = false)
    (h : due (advance t s) = true) : event t due f s = .next (finish (advance t s) (f (advance t s))) := by
  simp [event, command_next _ _ hr, onlyIf, h]

/-- An event whose condition fails: time passes and nothing else of the held part moves. -/
theorem event_not_due {t : Time} {due : State → Bool} {f : State → State} {s : State} (hr : s.inReset = false)
    (h : due (advance t s) = false) : event t due f s = .next (finish (advance t s) (advance t s)) := by
  simp [event, command_next _ _ hr, onlyIf, h]

/-- Held in reset, an event changes nothing (R167). -/
theorem event_inReset {t : Time} {due : State → Bool} {f : State → State} {s : State} (h : s.inReset = true) :
    event t due f s = .next s := command_inReset t _ h

/-- A step with a command at the front of the queue. -/
theorem step_front (c : Instr) (rest : List Instr) (s : State) :
    step { s with pending := c :: rest } = exec c { s with pending := rest } := rfl

/-- A time that is present is reached when local time is not before it. -/
theorem reached_iff (e : Option Time) (now : Time) : reached e now = true ↔ ∃ x, e = some x ∧ x ≤ now := by
  cases e <;> simp [reached]

end Sys2Proof.Machine
end

