-- ==== Sys2Proof/Laws/PerInstr.lean ====
section
/-! SUPPORT. What holds of every command as syntax: one lemma for each constructor. -/

namespace Sys2Proof.Laws.Timing

open Sys2Proof Sys2Proof.Machine

/-- Section 1.1: a command other than RESET carries the local time at which it takes place. -/
def Statement (i : Instr) : Prop := (∃ a b c, i = .reset a b c) ∨ (timeOf i).isSome = true

theorem reset (index : BitVec 4) (lane : BitVec 1) (roomClass : BitVec 2) : Statement (.reset index lane roomClass) := .inl ⟨index, lane, roomClass, rfl⟩
theorem configurationRecordRead (reply : MemoryReply) (t : Time) : Statement (.configurationRecordRead reply t) :=
  .inr rfl
theorem filterRecordRead (reply : MemoryReply) (raw : LineLevels) (t : Time) : Statement (.filterRecordRead reply raw t) :=
  .inr rfl
theorem listenEnd (t : Time) : Statement (.listenEnd t) := .inr rfl
theorem halfBoundary (t : Time) : Statement (.halfBoundary t) := .inr rfl
theorem rundownEnd (t : Time) : Statement (.rundownEnd t) := .inr rfl
theorem switchDeadTimeEnd (t : Time) : Statement (.switchDeadTimeEnd t) := .inr rfl
theorem spinupHoldEnd (t : Time) : Statement (.spinupHoldEnd t) := .inr rfl
theorem spinupLimit (t : Time) : Statement (.spinupLimit t) := .inr rfl
theorem tachCapture (t : Time) : Statement (.tachCapture t) := .inr rfl
theorem captureOverflow (t : Time) : Statement (.captureOverflow t) := .inr rfl
theorem stallReport (t : Time) : Statement (.stallReport t) := .inr rfl
theorem stallHistoryAgeing (t : Time) : Statement (.stallHistoryAgeing t) := .inr rfl
theorem pauseEnd (t : Time) : Statement (.pauseEnd t) := .inr rfl
theorem sample (inner outer humidity : BitVec 12) (t : Time) : Statement (.sample inner outer humidity t) := .inr rfl
theorem runSecond (t : Time) : Statement (.runSecond t) := .inr rfl
theorem contentionWindowEnd (t : Time) : Statement (.contentionWindowEnd t) := .inr rfl
theorem meltStepEnd (t : Time) : Statement (.meltStepEnd t) := .inr rfl
theorem defrostTimeLimit (t : Time) : Statement (.defrostTimeLimit t) := .inr rfl
theorem blindDefrostLimit (t : Time) : Statement (.blindDefrostLimit t) := .inr rfl
theorem lockoutEnd (t : Time) : Statement (.lockoutEnd t) := .inr rfl
theorem boostCap (t : Time) : Statement (.boostCap t) := .inr rfl
theorem restCheck (t : Time) : Statement (.restCheck t) := .inr rfl
theorem overrideExpiry (source : Source) (origin : Nat) (t : Time) : Statement (.overrideExpiry source origin t) :=
  .inr rfl
theorem frameStart (t : Time) : Statement (.frameStart t) := .inr rfl
theorem lostContention (header : Byte) (t : Time) : Statement (.lostContention header t) := .inr rfl
theorem collision (x : CollisionTimes) : Statement (.collision x) := .inr rfl
theorem frameSent (t : Time) : Statement (.frameSent t) := .inr rfl
theorem frameReceived (chars : List Byte) (stops : StopBits) (arrival : Time) (t : Time) : Statement (.frameReceived chars stops arrival t) :=
  .inr rfl
theorem peerStale (station : Nat) (t : Time) : Statement (.peerStale station t) := .inr rfl
theorem peerRemoved (station : Nat) (t : Time) : Statement (.peerRemoved station t) := .inr rfl
theorem contendingFallback (station : Nat) (t : Time) : Statement (.contendingFallback station t) := .inr rfl
theorem statusPeriodEnd (t : Time) : Statement (.statusPeriodEnd t) := .inr rfl
theorem lineFaultRaised (dominant : Time) (t : Time) : Statement (.lineFaultRaised dominant t) := .inr rfl
theorem lineFaultCleared (recessive : Time) (t : Time) : Statement (.lineFaultCleared recessive t) := .inr rfl
theorem debounce (line : ControlLine) (level : Level) (t : Time) : Statement (.debounce line level t) := .inr rfl
theorem hold (t : Time) : Statement (.hold t) := .inr rfl
theorem filterReset (t : Time) : Statement (.filterReset t) := .inr rfl
theorem modePositionTaken (mode1 mode0 : Level) (t : Time) : Statement (.modePositionTaken mode1 mode0 t) := .inr rfl
theorem writeComplete (t : Time) : Statement (.writeComplete t) := .inr rfl
theorem writeFailed (t : Time) : Statement (.writeFailed t) := .inr rfl

end Sys2Proof.Laws.Timing
end

