-- ==== Sys2Proof/WellFormed.lean ====
section
/-! DEFINITION. Which commands are ones the surroundings can send: record lengths, station numbers,
frame kinds and times that the rules allow. The meanings are total and do not rest on it. -/

namespace Sys2Proof

/-- A station number lies in 1..16 (section 0.5.4). -/
def isStationNumber (n : Nat) : Bool := 1 ≤ n && n ≤ 16

/-- A reply of a read that was acknowledged throughout holds the whole record. -/
def MemoryReply.hasLength (n : Nat) : MemoryReply → Bool
  | .silent => true
  | .bytes bs => bs.length == n

/-- A header byte names one of the four frame kinds in bits 7..4 (R146). -/
def headerNamesKind (h : Byte) : Bool := 1 ≤ h.toNat / 16 && h.toNat / 16 ≤ 4

/-- The checks on a command's operands, one arm for each command. -/
def Instr.wellFormed : Instr → Bool
  | .reset _ _ _ => true
  | .configurationRecordRead r _ => r.hasLength 17
  | .filterRecordRead r _ _ => r.hasLength 8
  | .listenEnd _ => true
  | .halfBoundary _ => true
  | .rundownEnd _ => true
  | .switchDeadTimeEnd _ => true
  | .spinupHoldEnd _ => true
  | .spinupLimit _ => true
  | .tachCapture _ => true
  | .captureOverflow _ => true
  | .stallReport _ => true
  | .stallHistoryAgeing _ => true
  | .pauseEnd _ => true
  | .sample _ _ _ _ => true
  | .runSecond _ => true
  | .contentionWindowEnd _ => true
  | .meltStepEnd _ => true
  | .defrostTimeLimit _ => true
  | .blindDefrostLimit _ => true
  | .lockoutEnd _ => true
  | .boostCap _ => true
  | .restCheck _ => true
  | .overrideExpiry src o _ => src != .humidity && isStationNumber o
  | .frameStart _ => true
  | .lostContention h _ => headerNamesKind h
  | .collision x => x.time ≤ x.restEnd
  | .frameSent _ => true
  | .frameReceived _ _ a t => a ≤ t
  | .peerStale n _ => isStationNumber n
  | .peerRemoved n _ => isStationNumber n
  | .contendingFallback n _ => isStationNumber n
  | .statusPeriodEnd _ => true
  | .lineFaultRaised d _ => millis 100 ≤ d
  | .lineFaultCleared r _ => seconds 1 ≤ r
  | .debounce _ _ _ => true
  | .hold _ => true
  | .filterReset _ => true
  | .modePositionTaken _ _ _ => true
  | .writeComplete _ => true
  | .writeFailed _ => true

end Sys2Proof
end

