-- ==== Sys2Proof/Tests/Slice0.lean ====
section
/-! SUPPORT. Tests: the checks of WellFormed, worked examples of the spec, and for every statement a state
and operands that meet its hypotheses, clause by clause. -/

namespace Sys2Proof.Tests

open Sys2Proof Sys2Proof.Machine

/-! ## WellFormed: each check refuses an ill-formed command -/

theorem test_config_reply_length :
    (Instr.configurationRecordRead (.bytes [0]) 5).wellFormed = false
    ∧ (Instr.configurationRecordRead (.bytes (List.replicate 17 0)) 5).wellFormed = true := by decide

theorem test_filter_reply_length :
    (Instr.filterRecordRead (.bytes (List.replicate 9 0)) ⟨.high, .high, .high, .high, .high⟩ 5).wellFormed = false
    ∧ (Instr.filterRecordRead (.bytes (List.replicate 8 0)) ⟨.high, .high, .high, .high, .high⟩ 5).wellFormed = true := by
  decide

theorem test_expiry_source : (Instr.overrideExpiry .humidity 3 5).wellFormed = false := by decide

theorem test_expiry_origin :
    (Instr.overrideExpiry .localBoost 0 5).wellFormed = false
    ∧ (Instr.overrideExpiry .houseBoost 17 5).wellFormed = false
    ∧ (Instr.overrideExpiry .houseBoost 16 5).wellFormed = true := by decide

theorem test_lost_header :
    (Instr.lostContention 0x05 5).wellFormed = false ∧ (Instr.lostContention 0x52 5).wellFormed = false
    ∧ (Instr.lostContention 0x42 5).wellFormed = true := by decide

theorem test_arrival_after_close :
    (Instr.frameReceived [] .recessive 6 5).wellFormed = false
    ∧ (Instr.frameReceived [] .recessive 5 5).wellFormed = true := by decide

theorem test_collision_ends_before_it : (Instr.collision ⟨5, 4⟩).wellFormed = false ∧ (Instr.collision ⟨5, 5⟩).wellFormed = true := by
  decide

theorem test_station_numbers :
    (Instr.peerStale 0 5).wellFormed = false ∧ (Instr.peerRemoved 17 5).wellFormed = false
    ∧ (Instr.contendingFallback 0 5).wellFormed = false ∧ (Instr.peerStale 16 5).wellFormed = true := by decide

theorem test_line_times :
    (Instr.lineFaultRaised (millis 100 - 1) 5).wellFormed = false
    ∧ (Instr.lineFaultCleared (seconds 1 - 1) 5).wellFormed = false
    ∧ (Instr.lineFaultRaised (millis 100) 5).wellFormed = true
    ∧ (Instr.lineFaultCleared (seconds 1) 5).wellFormed = true := by decide

/-- No row of spec/opcode_table.json gives bits, so no word spells a command. -/
theorem test_no_word_is_a_command : decodeTableWord 8 0x42 = none ∧ State.reset.withFetchWord 8 0x42 = State.reset := by
  decide

/-! ## Worked examples of the spec -/

/-- The table of R56's worked codes. -/
theorem test_thermistor_codes :
    [100, 2048, 2200, 3100, 3400, 3800, 3995].map (fun k => thermistorTemp (BitVec.ofNat 12 k))
      = [600, 250, 215, 3, -82, -232, -371] ∧ thermistorValid 99 = false ∧ thermistorValid 3996 = false := by decide

/-- R57. -/
theorem test_humidity_codes :
    [300, 2384, 3700].map (fun k => convertHumidity (BitVec.ofNat 12 k)) = [some 0, some 620, some 1000] := by decide

/-- R69, R70 and the worked record of section 4.6. -/
theorem test_moisture : density 210 = 1845 ∧ absoluteHumidity 620 210 = 1143 ∧ dewPoint 1143 = 129 := by decide

/-- Section 4.6: means of eight samples, truncated toward zero. -/
theorem test_means : meanInt [-42, -43, -42, -43, -44, -41, -41, -41] = some (-42) := by decide

/-- Section 5.2.1: growth to 1595 and 1630, melt to 1492. -/
theorem test_frost_account :
    accountAfterRecord 1560 (-42) 129 55 45 = 1595 ∧ accountAfterRecord 1595 (-45) 129 55 45 = 1630
    ∧ accountAfterRecord 1595 25 129 55 45 = 1492 := by decide

/-- Section 6.2: a baseline of 780 meeting 811 gains 1, and meeting 793 stays. -/
theorem test_baseline : baselineToward 780 811 = 781 ∧ baselineToward 780 793 = 780 := by decide

/-- Section 3.7: four periods of 2600 ticks. -/
theorem test_speed : speedOf [2600, 2600, 2600, 2600] = 2884 := by decide

/-- Section 3.7: from 350 at 0.7 s toward 840: 534 at 3.0 s, 840 at 6.825 s. -/
theorem test_ramp :
    rampOutput 350 840 (tenths 7) (tenths 30) = 534 ∧ rampOutput 350 840 (tenths 7) (millis 6825) = 840
    ∧ rampOutput 350 840 (tenths 7) (millis 6825 - 1) = 839 := by decide

/-- Section 7.6.1, half 37: trims of 3; stations 2 and 3. -/
theorem test_balance :
    trimOf (-27) [-16, 15, 16] = 3 ∧ setFlowOf .extract (-27) 3 6 30 = -24 ∧ flowPercentOf (-24) 30 = 80
    ∧ demandTargetOf 80 = 840 ∧ trimOf 15 [-16, -27, 16] = 3 ∧ setFlowOf .supply 15 3 6 15 = 15 := by decide

/-- Section 7.6.2: the trim of 7 at station 1 and at the defroster. -/
theorem test_balance_with_defroster :
    trimOf 16 [-16, -21] = 7 ∧ setFlowOf .supply 16 7 6 30 = 23 ∧ setFlowOf .extract (-21) 7 6 21 = -14 := by decide

/-- Section 8.8.1: (2010 + 1930) / 2 over a baseline of 1850. -/
theorem test_filter_load : loadOf 1970 1850 = 64 := by decide

/-- Section 10.7: station 3 originates NORMAL with summer off at stamp 7. -/
theorem test_mode_frame :
    frameOf .mode 2 (modeBody ⟨.normal, false, 7, 3⟩) = [0x22, 0x01, 0x07, 214]
    ∧ frameValid [0x22, 0x01, 0x07, 214] false = true ∧ frameValid [0x22, 0x01, 0x07, 214] true = false
    ∧ frameValid [0x22, 0x01, 0x07, 213] false = false := by decide

/-- R12: with L = 45 s, 11.2 s is within a quarter and 11.3 s is not. -/
theorem test_quarter : inTenths (tenths 112) ≤ 10 * 45 / 4 ∧ 10 * 45 / 4 < inTenths (tenths 113) := by decide

/-- R164: DOUBLE BLINK. -/
theorem test_double_blink :
    [0, 1, 2, 3, 4, 5, 6, 19].map (fun k => Pattern.litAt .doubleBlink (tenths k))
      = [true, true, false, false, true, true, false, false] := by decide

/-! ## States for the witnesses -/

/-- The state that a command leads to. -/
def after (c : Instr) (s : State) : State :=
  match exec c s with
  | .next x => x
  | _ => s

/-- Station 5, lane A, in SUPPLY since 1000 s in half 116, alone and settled. -/
def cycling : State := { State.reset with
  now := seconds 1000
  inReset := false
  strapsRead := true
  stationIndex := 4
  clock := ⟨116, some (seconds 1045), some (seconds 1000), 45, true, some 5, none, none⟩
  seq := { SeqRec.reset with state := .supply }
  house := ⟨.normal, false, 7, 5⟩
  fan := { FanRec.reset with
    demandTarget := 624, driveOutput := 430, rampFrom := 350, rampStart := seconds 999
    periods := [2600], speed := 2884, lastCapture := some 100, captureCounter := 600, ticksSince := 500 }
  ctl := { ControlRec.reset with amber := ⟨.off, 0⟩, green := ⟨.steady, 0⟩ } }

/-- A peer with station number `n` that announces a running clock. -/
def peer (n : Nat) : PeerRec :=
  ⟨n, seconds 990, true, some ⟨some .supply, true, .A, 116, 45, seconds 1045, 1, 16, 16, 0, .clear, 10⟩, none⟩

/-- `cycling` with its sequencer record changed. -/
def withSeq (f : SeqRec → SeqRec) : State := { cycling with seq := f cycling.seq }

/-- REVERSING toward EXTRACT in a phase that began at 990 s, at a speed. -/
def reversing (p : Phase) (rpm : Nat) : State :=
  { withSeq (fun q => { q with
      state := .reversing, phase := some p, target := some .extract, phaseStart := some (seconds 990) }) with
    fan := { cycling.fan with speed := rpm } }

/-- `cycling` with its frost guard changed. -/
def withFrost (f : FrostRec → FrostRec) : State := { cycling with frost := f cycling.frost }

/-- CONTENDING with a window that ends at 1000 s, at an account. -/
def contending (a : Nat) : State := withFrost (fun f => { f with
  stage := .contending, account := a, windowEnd := some (seconds 1000)
  contentionStart := some (seconds 998), entryAccount := some a })

/-- DEFROST since 100 s, a melt step ending at 1000 s, at an account. -/
def defrosting (a : Nat) : State :=
  { withSeq (fun q => { q with state := .defrost }) with
    frost := { FrostRec.reset with
      stage := .defrosting, account := a, defrostStart := some (seconds 100), meltStepEnd := some (seconds 1000) } }

/-- The BOOST button and the FILTER button pressed at a time. -/
def pressed (b : Time) : State := { cycling with ctl := { cycling.ctl with
  levels := ⟨.low, .low, .high, .high, .high⟩
  boostStage := .pressed, boostStart := some b, filterStage := .pressed, filterStart := some b } }

/-- A frame of a kind being sent, with its collisions so far. -/
def sendingKind (k : FrameKind) (bytes : List Byte) (n : Nat) (ck : Option FrameKind) : State := { cycling with
  line := { cycling.line with transmission := some ⟨k, bytes, seconds 999⟩, collisions := n, collisionKind := ck } }

/-- A STATUS of station 2, running, in half `h`, with `r` tenths remaining of 45 s. -/
def statusFrame (h : Byte) (r : Nat) : List Byte :=
  frameOf .status 1 ([2, 1, 0, h, 45] ++ word r ++ [0x10, 16, 16, 0, 10, 0, 1, 7, 2])

/-- STARTING with the straps read. -/
def starting : State := { State.reset with inReset := false, strapsRead := true, stationIndex := 4 }

/-- A valid half record of EXTRACT. -/
def extractHalf : HalfRecord :=
  ⟨115, seconds 1045, .extract, some .extract, 8, some 210, some (-1), some 620, some ⟨700, 129⟩, 45, 55, true, true⟩

/-- A sample set taken at a time in SUPPLY or EXTRACT, with an outer temperature. -/
def sampleAt (d : Dir) (t : Time) (outer : Int) : SampleSet :=
  ⟨t, some 210, some outer, some 620, false, false, false, d.state, some d⟩

/-- `cycling` with a filter probe in its half toward SUPPLY, its hold placed and ten readings taken. -/
def probing (p : ProbeState) (rpm : Nat) : State := { cycling with
  filter := { FilterRec.reset with
    probe := p, expected := some .supply, halfStart := some (seconds 1000), holdPlaced := true
    speeds := List.replicate 10 rpm, firstSpeed := some ⟨1930, .extract⟩, firstClose := some (seconds 955)
    baseline := 1850 }
  fan := { cycling.fan with probeHold := true }
  climate := { cycling.climate with
    openTime := some (seconds 1000), window := List.replicate 8 (sampleAt .supply (seconds 1040) 12)
    ring := [{ extractHalf with close := seconds 955 }] } }

/-- EXTRACT in a stage at an account, with eight samples of an outer temperature: the half that ends at 1045 s gives a
valid EXTRACT record of 45 s at 55 %. At -42 the account gains 35, at 25 it loses 103, at 5 it stays. -/
def frosty (st : FrostStage) (a : Nat) (outer : Int) : State :=
  { withSeq (fun q => { q with state := .extract }) with
    frost := { FrostRec.reset with stage := st, account := a }
    demand := { cycling.demand with flowPercent := 55 }
    climate := { cycling.climate with
      openTime := some (seconds 1000), window := List.replicate 8 (sampleAt .extract (seconds 1040) outer) } }

/-- LIMITING at an account, in a state of the sequencer with its settling count. -/
def frostyIn (q : SeqState) (n a : Nat) : State :=
  { frosty .limiting a 5 with seq := { SeqRec.reset with state := q, settling := n } }

/-- The account and the stage that the boundary at 1045 s leaves. -/
def frostLeft (s : State) : Nat × FrostStage :=
  ((after (.halfBoundary (seconds 1045)) s).frost.account, (after (.halfBoundary (seconds 1045)) s).frost.stage)

/-- A DEFERRED station that waits for the place of one contending peer. -/
def waiting : State := { frosty .deferred 1650 5 with
  peers := [{ peer 2 with defrost := some ⟨.contending, 1700, false, seconds 990⟩ }] }

/-- A record of EXTRACT with an outer temperature and an absolute humidity. -/
def extractRecord (outer : Int) (ah : Nat) : HalfRecord :=
  { extractHalf with outer := some outer, moisture := some ⟨ah, 129⟩ }

/-! ## Witnesses: the machine -/

theorem witness_StepRunsTheFrontCommand : State.reset.pending = [] := by decide

/-- The states that the witnesses below are made from are not held in reset; a block after RESET is not, and before it
is, where a sample changes nothing. -/
theorem witness_NotHeldInReset :
    cycling.inReset = false ∧ starting.inReset = false ∧ (after (.reset 4 0 0) State.reset).inReset = false
    ∧ (timeOf (.sample 2200 3400 2384 5)).isSome = true ∧ State.reset.inReset = true
    ∧ exec (.sample 2200 3400 2384 5) State.reset = .next State.reset :=
  ⟨by decide, by decide, by decide, by decide, by decide, rfl⟩

theorem witness_TimeMovesLocalTimeAndTheTach : timeOf (.listenEnd 5) = some 5 := by decide

theorem witness_OutputRampsWithTime :
    following cycling = true ∧ cycling.fan.rampFrom ≤ cycling.fan.driveTarget
    ∧ following { cycling with fan := { cycling.fan with rampFrom := 624 } } = true
    ∧ following { cycling with fan := { cycling.fan with demandTarget := 0 } } = true
    ∧ ({ cycling.fan with demandTarget := 0 } : FanRec).driveTarget < cycling.fan.rampFrom
    ∧ following starting = false := by decide

/-- R42: a boost call lifts a probe hold, so the target changes and the ramp begins anew at 430; a run second leaves it;
the end of a spin-up hold begins it at 350 with the target as it was. -/
theorem witness_OutputRampsWithTime_new :
    let p := probing .firstHalf 0
    let x := after (.frameReceived (frameOf .boost 1 [0, 90, 30]) .recessive (seconds 1000) (seconds 1000)) p
    let y := after (.runSecond (seconds 1001)) cycling
    let h : State := { reversing .spinup 1 with
      fan := { cycling.fan with demandTarget := 624, driveOutput := 350, holdEnd := some (seconds 1001), speed := 1 } }
    let z := after (.spinupHoldEnd (seconds 1001)) h
    x.fan.driveTarget ≠ p.fan.driveTarget ∧ x.fan.rampFrom = 430 ∧ x.fan.rampStart = seconds 1000
    ∧ y.fan.driveTarget = cycling.fan.driveTarget ∧ y.fan.rampFrom = 350 ∧ y.fan.rampStart = seconds 999
    ∧ h.fan.holdEnd.isSome = true ∧ z.fan.holdEnd = none ∧ following z = true ∧ z.fan.rampFrom = 350
    ∧ z.fan.rampStart = seconds 1001 ∧ (∀ t, Instr.runSecond 5 ≠ .switchDeadTimeEnd t) :=
  ⟨by decide, by decide, by decide, by decide, by decide, by decide, by decide, by decide, by decide, by decide,
    by decide, fun _ h => (nomatch h)⟩

theorem witness_RecomputationFollowsItsInputs :
    exec (.hold (seconds 1000)) (pressed (seconds 995)) = .next (after (.hold (seconds 1000)) (pressed (seconds 995)))
    ∧ demandInputs (after (.hold (seconds 1000)) (pressed (seconds 995))) ≠ demandInputs (pressed (seconds 995)) :=
  ⟨rfl, by decide⟩

theorem witness_DemandHoldsBetweenChanges :
    (∀ t, Instr.runSecond 5 ≠ .halfBoundary t) ∧ (∀ x b a t, Instr.runSecond 5 ≠ .frameReceived x b a t)
    ∧ (∀ r l t, Instr.runSecond 5 ≠ .filterRecordRead r l t)
    ∧ exec (.runSecond 5) cycling = .next (after (.runSecond 5) cycling)
    ∧ demandInputs (after (.runSecond 5) cycling) = demandInputs cycling :=
  ⟨fun _ h => (nomatch h), fun _ _ _ _ h => (nomatch h), fun _ _ _ h => (nomatch h), rfl, by decide⟩

theorem witness_AnnouncedChangeRequestsStatus :
    announced (after (.hold (seconds 1000)) (pressed (seconds 995))) ≠ announced (pressed (seconds 995)) := by decide

theorem witness_StatusSlotHoldsBetweenRequests :
    (∀ t, Instr.runSecond 5 ≠ .statusPeriodEnd t) ∧ (∀ t, Instr.runSecond 5 ≠ .frameSent t)
    ∧ announced (after (.runSecond 5) cycling) = announced cycling :=
  ⟨fun _ h => (nomatch h), fun _ h => (nomatch h), by decide⟩

theorem witness_LampsKeepTheirPhase :
    LampsInv cycling ∧ lampInputs (after (.runSecond 5) cycling) = lampInputs cycling
    ∧ LampsInv (pressed (seconds 995))
    ∧ lampInputs (after (.hold (seconds 1000)) (pressed (seconds 995))) ≠ lampInputs (pressed (seconds 995))
    ∧ (defrosting 3199).frost.account < 3200 := by decide

/-- All nine invariants hold together in a cycling state, from which a step runs. -/
theorem witness_KeptInvariants :
    (DriveInv cycling ∧ SeqInv cycling ∧ ClockInv cycling ∧ FrostInv cycling ∧ LevelsInv cycling ∧ HumidInv cycling
      ∧ PeersInv cycling ∧ RingsInv cycling ∧ LampsInv cycling)
    ∧ step { cycling with pending := [.runSecond (seconds 1001)] } = .next (after (.runSecond (seconds 1001)) cycling) :=
  ⟨⟨by decide, by decide, by decide, by decide, by decide, by decide, by decide, by decide, by decide⟩, rfl⟩

/-- R51: the watch begins where the ramp from 290 passes 300, at 999.125 s, and where an overflow takes the speed at
430; it is kept while the condition lasts. -/
theorem witness_DriveStopsOutsideMotion_watch :
    let still (o f : Nat) (w : Option Time) : State := { cycling with fan := { cycling.fan with
      driveOutput := o, rampFrom := f, rampStart := seconds 1000, speed := 0, periods := [], stallWatch := w } }
    let fast : State := { cycling with fan := { cycling.fan with lastCapture := some 100, ticksSince := 65535 } }
    let low := after (.runSecond (seconds 1001)) (still 290 290 none)
    let spun := after (.captureOverflow (seconds 1000 + 1)) fast
    let kept := after (.runSecond (seconds 1001)) (still 430 430 (some (seconds 999)))
    DriveInv (still 290 290 none) ∧ following (still 290 290 none) = true
    ∧ stallCondition (still 290 290 none) = false ∧ low.fan.stallWatch = some (seconds 1000 + millis 125)
    ∧ DriveInv fast ∧ stallCondition fast = false ∧ fast.fan.speed ≠ 0
    ∧ spun.fan.stallWatch = some (seconds 1000 + 1)
    ∧ DriveInv (still 430 430 (some (seconds 999))) ∧ stallCondition (still 430 430 (some (seconds 999))) = true
    ∧ kept.fan.stallWatch = some (seconds 999) := by
  refine ⟨?_, ?_, ?_, ?_, ?_, ?_, ?_, ?_, ?_, ?_, ?_⟩ <;> decide

theorem witness_DirectionChangesOnlyInSwitch :
    (after (.rundownEnd (seconds 1000)) (reversing .rundown 2000)).fan.direction
      ≠ (reversing .rundown 2000).fan.direction := by decide

/-! ## Witnesses: start-up and write-back -/

theorem witness_ConfigurationRecordIsRead :
    starting.seq.state = .starting ∧ starting.strapsRead = true ∧ starting.loader.config = none
    ∧ (List.replicate 17 (0 : Byte)).length = 17 ∧ byteSum (List.replicate 17 0) = 0
    ∧ byteSum (List.replicate 17 1) ≠ 0 := by decide

/-- Bytes below, at and above the ends of their ranges. -/
theorem witness_ConfigurationFieldsAreClamped :
    (configOf [9, 0, 19, 20, 100, 101]).qNom = 10 ∧ (configOf [60]).qNom = 60 ∧ (configOf [61]).qNom = 60
    ∧ (configOf [9, 0, 19, 20, 100, 101]).awayLevel = 20 ∧ (configOf [9, 0, 19, 20, 100, 101]).highLevel = 100
    ∧ (configOf [9, 0, 19, 20, 100, 101]).humidityStep = 100
    ∧ (configOf [0, 0, 0, 0, 0, 0, 0, 0, 200, 40, 2]).blockedRise = 220
    ∧ (configOf [0, 0, 0, 0, 0, 0, 0, 0, 200, 40, 2]).policy = .fixed := by decide

theorem witness_StartingEnds :
    ({ starting with loader := { starting.loader with config := some ConfigRecord.defaults, writeEnabled := true } }
      : State).loader.config = some ConfigRecord.defaults
    ∧ starting.loader.writeEnabled = false ∧ (List.replicate 8 (0 : Byte)).length = 8
    ∧ byteSum (List.replicate 8 0) = 0 ∧ byteSum (List.replicate 8 1) ≠ 0 := by decide

theorem witness_WriteEnds :
    ({ cycling with loader := { cycling.loader with inFlight := true } } : State).loader.inFlight = true := by decide

/-! ## Witnesses: clock and motion -/

theorem witness_ListenEndStartsTheCount :
    let s : State := { withSeq (fun q => { q with state := .listen }) with
      clock := { ClockRec.reset with listenEnd := some (seconds 1000) } }
    let w : State := { s with peers := [peer 2] }
    s.seq.state = .listen ∧ s.clock.listenEnd = some (seconds 1000) ∧ seconds 1000 ≤ timeAfter (seconds 1000) s
    ∧ s.clock.heardLength = none ∧ (∀ p ∈ s.peers, p.counts = false) ∧ s.seq.restHeld = false
    ∧ w.line.active = false ∧ (w.peers.filter (·.counts)).head? = some (peer 2) ∧ (peer 2).status.isSome = true
    ∧ lengthInRange 45 := by decide

theorem witness_HouseRowIsTheLargest :
    cycling.line.active = false ∧ (peer 2).fresh = true ∧ (peer 2).counts = true
    ∧ houseRow { cycling with peers := [peer 2, { peer 3 with fresh := false }] } = 2 := by decide

/-- A valid SUPPLY record at the end of a half, as all its samples count and settling is 0; the density table at a
grid point, between two, and at its ends. -/
theorem witness_HalfBoundaryMovesTheClock :
    let s : State := { cycling with climate := { cycling.climate with
      openTime := some (seconds 1000), window := List.replicate 8 (sampleAt .supply (seconds 1040) 12) } }
    s.clock.running = true ∧ s.clock.endTime = some (seconds 1045) ∧ seconds 1045 ≤ timeAfter (seconds 1045) s
    ∧ (after (.halfBoundary (seconds 1045)) s).climate.ring.map (fun r => (r.valid, r.duration)) = [(true, 45)]
    ∧ (after (.halfBoundary (seconds 1045)) s).climate.outdoor = some 12
    ∧ nextLength s = 45 ∧ nextLength { s with clock := { s.clock with reference := some 2, heardLength := some 30 } } = 30
    ∧ density (-301) = 45 ∧ density (-300) = 45 ∧ density 400 = 5117 ∧ dewPoint 44 = -300 ∧ dewPoint 5117 = 400 := by
  decide

/-- SUPPLY, THROUGH on both sides of the exit test, REVERSING, REST with and without a rejoin, DEFROST, and a probe
that waits, with its time of abandonment before and at the boundary. -/
theorem witness_BoundaryTurnsTheCycle :
    let w : State := { cycling with
      house := ⟨.normal, true, 7, 5⟩, climate := { cycling.climate with outdoor := some 120 } }
    let rest (j : Option Rejoin) : State := withSeq (fun q => { q with state := .rest, restStart := some 0, rejoin := j })
    cycling.seq.state = Dir.supply.state ∧ cycling.frost.account < 600 ∧ cycling.demand.flowPercent ≤ 100
    ∧ laneDirection cycling.lane (cycling.clock.c + 1) = Dir.supply.other
    ∧ laneDirection cycling.lane ((117 : Byte) + 1) = .supply
    ∧ w.house.summer = true ∧ w.climate.outdoor = some 120 ∧ 10 * (w.cfg.summerThreshold : Int) ≤ 120
    ∧ (119 : Int) < 10 * (w.cfg.summerThreshold : Int) ∧ (99 : Int) < 10 * (w.cfg.summerThreshold : Int) - 20
    ∧ ¬ (100 : Int) < 10 * (w.cfg.summerThreshold : Int) - 20
    ∧ summerDirection w.lane = .supply ∧ summerDirection .B = Dir.supply.other
    ∧ (withSeq (fun q => { q with state := .through })).seq.state = .through
    ∧ (reversing .spinup 300).seq.target = some .extract ∧ (rest none).seq.rejoin = none
    ∧ (rest (some .fast)).seq.state = .rest ∧ (rest (some .deep)).seq.rejoin = some .deep
    ∧ (defrosting 599).seq.state = .defrost ∧ (defrosting 599).frost.account < 600
    ∧ (probing .waiting 0).filter.probe = .waiting ∧ (probing .waiting 0).filter.abandonTime = none
    ∧ (probing .waiting 0).frost.stage = .clear ∧ (probing .waiting 0).seq.settling ≤ 1
    ∧ (probing .waiting 0).demand.stack = [] := by decide

theorem witness_ReversalPhasesEnd :
    (reversing .rundown 299).seq.target = some .extract ∧ (reversing .rundown 299).fan.speed < 300
    ∧ (reversing .rundown 300).seq.phaseStart = some (seconds 990)
    ∧ seconds 990 + tenths 40 ≤ timeAfter (seconds 994) (reversing .rundown 300)
    ∧ (reversing .switch 599).seq.phase = some .switch ∧ (reversing .switch 599).fan.speed < 600
    ∧ seconds 990 + tenths 2 ≤ timeAfter (tenths 9902) (reversing .switch 599)
    ∧ ({ (reversing .spinup 0).fan with holdEnd := some (seconds 991) } : FanRec).holdEnd = some (seconds 991)
    ∧ seconds 991 ≤ timeAfter (seconds 991) (reversing .spinup 0) := by decide

/-- At the limit and by a capture, with and without a rest held, and in a probe half toward the target and not. -/
theorem witness_SpinupCompletes :
    let s := reversing .spinup 1
    let h : State := { s with seq := { s.seq with restHeld := true } }
    s.seq.state = .reversing ∧ s.seq.phase = some .spinup ∧ s.seq.target = some .extract ∧ s.seq.restHeld = false
    ∧ 0 < s.fan.speed ∧ s.seq.phaseStart = some (seconds 990) ∧ seconds 990 + tenths 30 ≤ timeAfter (seconds 993) s
    ∧ s.fan.lastCapture = some 100 ∧ counterAt (seconds 1000) s ≠ 100
    ∧ s.fan.ticksSince + (timeAfter (seconds 1000) s - s.now) < 65536
    ∧ 600 ≤ ringSpeed (ringAfter s.fan.periods (counterAt (seconds 1000) s - 100).toNat)
    ∧ s.fan.periods.length ≤ 4 ∧ s.filter.probing = false
    ∧ h.seq.restHeld = true ∧ h.seq.target = some .extract ∧ Target.extract ≠ .defrost
    ∧ (probing .firstHalf 0).filter.probing = true ∧ (probing .firstHalf 0).filter.expected = some .supply
    ∧ Dir.extract.target = .extract ∧ Dir.supply.target ≠ .extract := by decide

/-- R85: DEFROST entered in stage DEFROSTING begins the first melt step, and EXTRACT none. -/
theorem witness_SpinupCompletes_melt :
    let s (g : Target) : State := { reversing .spinup 1 with
      seq := { (reversing .spinup 1).seq with target := some g }
      frost := { FrostRec.reset with stage := .defrosting, account := 1700, defrostStart := some (seconds 900) } }
    let e (g : Target) := (after (.spinupLimit (seconds 1000)) (s g)).frost.meltStepEnd
    e .defrost = some (seconds 1010) ∧ e .extract = none := by decide

/-- With no stall before it and with two, at the limit of SPINUP and by a report. -/
theorem witness_StallPausesOrStops :
    let s := reversing .spinup 0
    let w : State := { cycling with fan := { cycling.fan with
      speed := 0, periods := [], driveOutput := 624, rampFrom := 624, stallWatch := some (seconds 998) } }
    s.seq.restHeld = false ∧ s.seq.target.isSome = true ∧ s.fan.speed = 0
    ∧ seconds 990 + tenths 30 ≤ timeAfter (seconds 993) s
    ∧ (historyAfter (timeAfter (seconds 993) s) s.seq.stallHistory).length < 3
    ∧ 3 ≤ (historyAfter (seconds 1000) [seconds 900, seconds 950]).length
    ∧ (historyAfter (seconds 3600 + 1) [0, 1]).length = 2
    ∧ ({ w.seq with restHeld := true } : SeqRec).restHeld = true ∧ w.seq.moving = true ∧ (advance (seconds 1000) w).fan.stallWatch = some (seconds 998)
    ∧ seconds 998 + tenths 20 ≤ timeAfter (seconds 1000) w := by decide

/-- R82, R87 and R90 at a third stall: what it does to a contention, a defrost, a blind defrost and another stage. -/
theorem witness_StallPausesOrStops_stopped :
    let s (f : FrostRec) : State := { reversing .spinup 0 with
      frost := f
      seq := { (reversing .spinup 0).seq with stallHistory := [seconds 900, seconds 950] } }
    let left (f : FrostRec) : FrostStage × Option Notice :=
      let x := (after (.spinupLimit (seconds 993)) (s f)).frost
      (x.stage, x.notice)
    left (contending 1700).frost = (.limiting, some ⟨.withdraw, false⟩)
    ∧ left (defrosting 700).frost = (.lockout, some ⟨.leave, false⟩)
    ∧ left { FrostRec.reset with stage := .blind, blindDefrost := true } = (.blind, some ⟨.leave, false⟩)
    ∧ left { FrostRec.reset with stage := .blind } = (.blind, none) := by decide

/-- R85 and R87: PAUSED out of DEFROST drops the melt step, and a held rest ends the defrost. -/
theorem witness_StallPausesOrStops_paused :
    let s (h : Bool) : State := { defrosting 700 with
      seq := { (defrosting 700).seq with restHeld := h }
      fan := { cycling.fan with
        speed := 0, periods := [], driveOutput := 624, rampFrom := 624, stallWatch := some (seconds 998) } }
    let left (h : Bool) : FrostStage × Option Time :=
      let x := (after (.stallReport (seconds 1000)) (s h)).frost
      (x.stage, x.meltStepEnd)
    (s false).seq.moving = true ∧ (advance (seconds 1000) (s false)).fan.stallWatch = some (seconds 998)
    ∧ left false = (.defrosting, none) ∧ left true = (.limiting, none) := by decide

theorem witness_CaptureMeasuresTheSpeed :
    cycling.seq.state ≠ .reversing ∧ cycling.fan.periods.length ≤ 4 ∧ cycling.fan.lastCapture = some 100
    ∧ cycling.fan.ticksSince + (timeAfter (seconds 1000 + 65035) cycling - cycling.now) < 65536
    ∧ counterAt (seconds 1000) cycling ≠ 100
    ∧ counterAt (seconds 1000) { cycling with fan := { cycling.fan with captureCounter := 100 } } = 100
    ∧ starting.fan.lastCapture = none ∧ starting.seq.state ≠ .reversing := by decide

/-- R22 and R48 in REVERSING: a first capture keeps the speed, and a period of 20000 ticks gives 375 rpm, of 30000 gives
250 rpm, which ends RUNDOWN and ends neither SWITCH nor SPINUP. -/
theorem witness_CaptureMeasuresTheSpeed_reversing :
    let s (p : Phase) (d : BitVec 16) (l : Option (BitVec 16)) : State := { reversing p 2000 with
      now := seconds 991
      fan := { (reversing p 2000).fan with periods := [], lastCapture := l, captureCounter := 100 + d } }
    let left (s : State) : Option Phase × Nat := let x := after (.tachCapture (seconds 991)) s; (x.seq.phase, x.fan.speed)
    (s .rundown 0 none).seq.state = .reversing ∧ (s .rundown 0 none).seq.target = some .extract
    ∧ (s .rundown 0 none).seq.phaseStart = some (seconds 990)
    ∧ timeAfter (seconds 991) (s .rundown 0 none) < seconds 990 + tenths 40
    ∧ counterAt (seconds 991) (s .rundown 20000 (some 100)) ≠ 100
    ∧ [s .rundown 0 none, s .rundown 20000 (some 100), s .rundown 30000 (some 100)].map left
      = [(some .rundown, 2000), (some .rundown, 375), (some .switch, 250)]
    ∧ [s .switch 30000 (some 100), s .spinup 20000 (some 100)].map left = [(some .switch, 250), (some .spinup, 375)] := by
  decide

theorem witness_CaptureOverflows :
    cycling.fan.lastCapture.isSome = true
    ∧ 65536 ≤ cycling.fan.ticksSince + (timeAfter (seconds 1000 + 65036) cycling - cycling.now)
    ∧ cycling.seq.state ≠ .reversing ∧ (reversing .rundown 2000).seq.phase = some .rundown
    ∧ (reversing .rundown 2000).fan.lastCapture.isSome = true := by decide

theorem witness_PauseEnds :
    let s := withSeq (fun q => { q with state := .paused, pauseEnd := some (seconds 1000) })
    s.seq.state = .paused ∧ s.seq.pauseEnd = some (seconds 1000) ∧ seconds 1000 ≤ timeAfter (seconds 1000) s := by decide

/-! ## Witnesses: measurement -/

/-- The own outdoor value at 1800.0 s of age and past it; a band moved by a new value; a speed reading at 600. -/
theorem witness_SampleIsTaken :
    let s (x : Time) : State := { cycling with now := seconds 2799, climate := { cycling.climate with
      ownOutdoor := some 60, ownOutdoorTime := some x, outdoor := some 55, band := 1, bandFormed := true } }
    let p : State := { probing .firstHalf 2010 with fan := { cycling.fan with driveOutput := 600, rampFrom := 600 } }
    starting.climate.openTime = none ∧ starting.climate.inner.fault = false
    ∧ (after (.sample 2200 3400 2384 (seconds 1001)) cycling).climate.inner.fault = cycling.climate.inner.fault
    ∧ (after (.sample 2200 3400 2384 (seconds 1001)) cycling).climate.outer.fault = cycling.climate.outer.fault
    ∧ (after (.sample 2200 3400 2384 (seconds 1001)) cycling).climate.humidity.fault
        = cycling.climate.humidity.fault
    ∧ timeAfter (seconds 2800) (s (seconds 1000)) ≤ seconds 1000 + seconds 1800
    ∧ seconds 1000 - 1 + seconds 1800 < timeAfter (seconds 2800) (s (seconds 1000 - 1))
    ∧ (after (.sample 2200 3400 2384 (seconds 2800)) (s (seconds 1000))).climate.outdoor = some 60
    ∧ (after (.sample 2200 3400 2384 (seconds 2800)) (s (seconds 1000 - 1))).climate.outdoor = some 55
    ∧ (s 0).climate.band ≤ 3 ∧ rowAfter true 1 59 = 1 ∧ rowAfter true 1 60 = 0 ∧ rowAfter true 0 50 = 0
    ∧ rowAfter true 0 49 = 1 ∧ p.filter.holdPlaced = true
    ∧ (99 : BitVec 12).toNat < 100 ∧ 3995 < (3996 : BitVec 12).toNat ∧ (100 : BitVec 12).toNat = 256 * 0 + 100
    ∧ (3995 : BitVec 12).toNat = 256 * 15 + 155 ∧ convertThermistor 99 = none ∧ convertThermistor 3996 = none := by decide

theorem witness_ProbeFaultsAct :
    let b (a : Nat) (d : Bool) : State := { withFrost (fun f => { f with stage := .blind, account := a, blindDefrost := d }) with
      roomClass := .wet
      climate := { cycling.climate with outer := ⟨true, 9, none⟩, humidity := ⟨true, 9, none⟩ } }
    let s := b 1599 false
    cycling.climate.inner.fault = false ∧ thermistorValid 99 = false ∧ cycling.climate.outer.fault = false
    ∧ thermistorValid 3996 = false ∧ (defrosting 700).frost.stage = .defrosting ∧ (contending 1700).frost.stage = .contending
    ∧ s.climate.outer.fault = true ∧ thermistorValid 3995 = true ∧ s.climate.outer.validRun = 9
    ∧ s.frost.blindDefrost = false ∧ s.frost.account < 1600 ∧ humidityValid 299 = false ∧ humidityValid 300 = true
    ∧ s.roomClass ≠ .dry ∧ s.humid.state = .disabled ∧ (b 700 true).frost.blindDefrost = true
    ∧ 3200 ≤ (b 3200 false).frost.account ∧ SeqState.refusesDefrost s.seq.state = false
    ∧ 1600 ≤ (b 1600 false).frost.account ∧ (b 3199 false).frost.account < 3200
    ∧ SeqState.skipsWant s.seq.state = false ∧ s.seq.settling = 0 ∧ s.line.active = false
    ∧ placesInUse s < s.cfg.allowance
    ∧ s.cfg.allowance ≤ placesInUse { s with
        peers := [{ peer 2 with defrost := some ⟨.contending, 0, false, 0⟩ }] } := by decide

theorem witness_RunSecondsCount :
    outputAt starting (timeAfter 5 starting) = 0 ∧ outputAt cycling (timeAfter (seconds 1001) cycling) ≠ 0
    ∧ (3598 : Nat) < 3599 ∧ (23 + 1) % 24 = 0 ∧ cycling.filter.runHours ≠ 65535 ∧ cycling.filter.runSeconds < 3599 := by
  decide

/-! ## Witnesses: frost guard -/

theorem witness_ContentionIsDecided :
    (contending 1700).frost.windowEnd = some (seconds 1000)
    ∧ seconds 1000 ≤ timeAfter (seconds 1000) (contending 1700)
    ∧ SeqState.refusesDefrost .rest = true ∧ SeqState.refusesDefrost (contending 1700).seq.state = false
    ∧ precedenceCount (contending 1700) < (contending 1700).cfg.allowance
    ∧ (contending 3199).frost.account < 3200 ∧ 3200 ≤ (contending 3200).frost.account
    ∧ (contending 1700).cfg.allowance ≤ precedenceCount { contending 1700 with
        peers := [{ peer 2 with defrost := some ⟨.defrosting, 0, false, 0⟩ }] }
    ∧ (contending 1700).frost.contentionStart = some (seconds 998) ∧ (contending 1700).frost.entryAccount = some 1700
    ∧ precedenceCount { contending 1700 with
        peers := [{ peer 2 with defrost := some ⟨.contending, 1700, false, seconds 998⟩ },
          { peer 6 with defrost := some ⟨.contending, 1700, false, seconds 998⟩ }] } = 1 := by decide

/-- R30: the order in THROUGH in either lane, and in REVERSING toward SUPPLY, EXTRACT and DEFROST in each phase. -/
theorem witness_ContentionIsDecided_order :
    let s (l : Lane) (q : SeqState) (p : Phase) (g : Target) : State := { contending 1700 with
      lane := l
      seq := { (reversing p 1).seq with
        state := q
        phase := if q = .reversing then some p else none
        target := if q = .reversing then some g else none } }
    let x (l : Lane) (q : SeqState) (p : Phase) (g : Target) :=
      let y := after (.contentionWindowEnd (seconds 1000)) (s l q p g)
      (y.seq.state, y.seq.phase, y.seq.target, y.fan.direction)
    x .B .through .spinup .through = (.defrost, none, none, .supply)
    ∧ x .A .through .spinup .through = (.reversing, some .rundown, some .defrost, .supply)
    ∧ x .A .reversing .spinup .defrost = (.reversing, some .spinup, some .defrost, .supply)
    ∧ x .A .reversing .spinup .extract = (.reversing, some .spinup, some .defrost, .supply)
    ∧ x .B .reversing .spinup .through = (.reversing, some .spinup, some .defrost, .supply)
    ∧ x .A .reversing .spinup .through = (.reversing, some .rundown, some .defrost, .supply)
    ∧ x .A .reversing .rundown .supply = (.reversing, some .rundown, some .defrost, .supply)
    ∧ x .A .reversing .switch .supply = (.reversing, some .switch, some .defrost, .extract)
    ∧ x .A .reversing .spinup .supply = (.reversing, some .rundown, some .defrost, .supply) := by
  refine ⟨?_, ?_, ?_, ?_, ?_, ?_, ?_, ?_, ?_⟩ <;> decide

/-- Melt steps whose mean of 9 takes nothing and whose mean of 10 takes 11; the samples at the ends of the 10 s; the
time limit below and from 3200, with a rest held, and in REST. -/
theorem witness_DefrostMeltsAndEnds :
    let s (a : Nat) (x : Int) : State := { defrosting a with climate := { cycling.climate with
      stream := [sampleAt .extract (seconds 990) x, sampleAt .extract (seconds 1000) 999] } }
    let taken (a : Nat) (x : Int) : Nat := (after (.meltStepEnd (seconds 1000)) (s a x)).frost.account
    (s 101 9).frost.stage = .defrosting ∧ (s 101 9).frost.meltStepEnd = some (seconds 1000)
    ∧ seconds 1000 ≤ timeAfter (seconds 1000) (s 101 9)
    ∧ taken 101 9 = 101 ∧ taken 112 10 = 101 ∧ taken 111 10 = 0 ∧ taken 100 9 = 0
    ∧ (defrosting 101).frost.defrostStart = some (seconds 100)
    ∧ seconds 100 + tenths 9000 ≤ timeAfter (seconds 1000) (defrosting 101)
    ∧ 100 < (defrosting 101).frost.account ∧ (defrosting 3199).frost.account < 3200
    ∧ 3200 ≤ (defrosting 3200).frost.account ∧ (defrosting 3200).seq.state.refusesDefrost = false
    ∧ (defrosting 3200).seq.restHeld = false ∧ SeqState.refusesDefrost .rest = true
    ∧ laneDirectionNow (defrosting 101) = .supply
    ∧ laneDirectionNow { defrosting 101 with lane := .B } = .extract := by decide

theorem witness_BlindDefrostAndLockoutEnd :
    let b := withFrost (fun f => { f with stage := .blind, blindDefrost := true, defrostStart := some (seconds 100) })
    let l := withFrost (fun f => { f with stage := .lockout, account := 1600, lockoutEnd := some (seconds 1000) })
    b.frost.stage = .blind ∧ seconds 100 + seconds 900 ≤ timeAfter (seconds 1000) b
    ∧ l.frost.lockoutEnd = some (seconds 1000) ∧ seconds 1000 ≤ timeAfter (seconds 1000) l ∧ 1600 ≤ l.frost.account
    ∧ l.frost.account < 3200 ∧ l.seq.state.skipsWant = false ∧ l.seq.settling = 0 ∧ l.line.active = false
    ∧ placesInUse l < l.cfg.allowance
    ∧ l.cfg.allowance ≤ placesInUse { l with peers := [{ peer 2 with defrost := some ⟨.contending, 0, false, 0⟩ }] } := by
  decide

/-- R76 and section 5.2 at a half boundary: the stage moves with the account. -/
theorem witness_BlindDefrostAndLockoutEnd_stages :
    let s := frosty .deferred 1650 5
    s.clock.running = true ∧ s.clock.endTime = some (seconds 1045) ∧ seconds 1045 ≤ timeAfter (seconds 1045) s
    ∧ [frosty .clear 764 (-42), frosty .clear 765 (-42), frosty .limiting 702 25, frosty .limiting 703 25].map frostLeft
      = [(799, .clear), (800, .limiting), (599, .clear), (600, .limiting)]
    ∧ [frosty .deferred 1702 25, frosty .deferred 702 25, frosty .clear 1570 (-42)].map frostLeft
      = [(1599, .limiting), (599, .clear), (1605, .contending)] := by decide

/-- R78, R81 and R83 at a half boundary: the want test and the forced test, made and skipped. -/
theorem witness_BlindDefrostAndLockoutEnd_tests :
    let s := frosty .deferred 1650 5
    let busy : State := { s with peers := [{ peer 2 with defrost := some ⟨.contending, 0, false, 0⟩ }] }
    [s, { s with line := { s.line with active := true } }, busy].map frostLeft
      = [(1650, .contending), (1650, .defrosting), (1650, .deferred)]
    ∧ [frosty .contending 3164 (-42), frosty .lockout 3164 (-42), frosty .lockout 3165 (-42)].map frostLeft
      = [(3199, .contending), (3199, .lockout), (3200, .defrosting)]
    ∧ [frosty .limiting 1600 5, frostyIn .extract 3 1600, frostyIn .paused 0 1600].map frostLeft
      = [(1600, .contending), (1600, .limiting), (1600, .limiting)]
    ∧ [frostyIn .paused 0 3200, frostyIn .stopped 0 3200, frostyIn .rest 0 3200].map frostLeft
      = [(3200, .defrosting), (3200, .limiting), (3200, .limiting)] := by decide

/-- R131: a probe in its first half at the boundary that leaves CLEAR, and one that waits. -/
theorem witness_BlindDefrostAndLockoutEnd_probe :
    let s (p : ProbeState) : State := { frosty .clear 799 (-42) with
      filter := { (probing p 1900).filter with expected := some .extract }
      fan := { cycling.fan with probeHold := decide (p = .firstHalf) } }
    let x (p : ProbeState) := after (.halfBoundary (seconds 1045)) (s p)
    (x .firstHalf).frost.stage = .limiting ∧ (x .firstHalf).filter.probe = .waiting
    ∧ (x .firstHalf).filter.abandonTime = some (seconds 1045) ∧ (x .firstHalf).fan.probeHold = false
    ∧ (x .waiting).frost.stage = .limiting ∧ (x .waiting).filter.probe = .waiting := by decide

/-! ## Witnesses: humidity and overrides -/

/-- A reading at the ceiling of 850, one just under it, and in REARMING one under 800 and one at it; samples just before
the last 10 s, at their start and at their end. -/
theorem witness_BoostCapAndRestCheck :
    let x (rh : Int) : SampleSet := ⟨seconds 999, none, none, some rh, false, false, false, .rest, none⟩
    let reading (s : State) : Option Int := meanOf (s.climate.stream.filterMap (fun x =>
      if x.rhFault = false ∧ seconds 1000 ≤ x.time + tenths 100 ∧ x.time < seconds 1000 then x.rh else none))
    let r (rh : Int) : State := { withSeq (fun q => { q with state := .rest, restStart := some 0 }) with
      climate := { cycling.climate with stream := [x rh] }
      humid := { HumidRec.reset with state := .watching, nextRestCheck := some (seconds 1000) } }
    ({ HumidRec.reset with state := .boosting, boostStart := some 0 } : HumidRec).boostStart = some 0
    ∧ 0 + seconds 3600 ≤ timeAfter (seconds 3600) cycling
    ∧ (r 850).seq.state = .rest ∧ (r 850).humid.nextRestCheck = some (seconds 1000)
    ∧ seconds 1000 ≤ timeAfter (seconds 1000) (r 850)
    ∧ reading (r 850) = some 850 ∧ 10 * ((r 850).cfg.rhCeiling : Int) ≤ 850
    ∧ (r 850).cfg.wake.humidityCeiling = true ∧ (849 : Int) < 10 * ((r 849).cfg.rhCeiling : Int)
    ∧ (799 : Int) < 10 * ((r 799).cfg.rhCeiling : Int) - 50 ∧ 10 * ((r 800).cfg.rhCeiling : Int) - 50 ≤ 800
    ∧ reading cycling = none ∧ ({ (r 850).humid with state := .boosting } : HumidRec).state = .boosting
    ∧ reading { cycling with climate := { cycling.climate with stream :=
        [{ x 1 with time := seconds 990 - 1 }, { x 700 with time := seconds 990 }, { x 1 with time := seconds 1000 }] } }
      = some 700 := by decide

/-- R106: a push on a full stack drops the bottom entry, one that repeats an entry drops none, and each abandons a probe. -/
theorem witness_CallsAreTaken_push :
    let o (n : Nat) : Override := ⟨.houseBoost, n, 60, some (seconds 2000)⟩
    let s : State := { probing .firstHalf 0 with demand := { cycling.demand with stack := [o 6, o 7, o 8, o 9] } }
    let x (i : BitVec 4) := after (.frameReceived (frameOf .boost i [0, 90, 30]) .recessive (seconds 1000) (seconds 1000)) s
    (x 1).demand.stack.map (·.origin) = [2, 6, 7, 8] ∧ (x 7).demand.stack.map (·.origin) = [8, 6, 7, 9]
    ∧ s.filter.probing = true ∧ (x 1).filter.probing = false := by decide

theorem witness_OverrideRunsOut :
    let x : Override := ⟨.localBoost, 5, 80, some (seconds 1000)⟩
    let s : State := { cycling with demand := { cycling.demand with stack := [x] } }
    x ∈ s.demand.stack ∧ x.source = .localBoost ∧ x.origin = 5 ∧ x.expiry = some (seconds 1000)
    ∧ seconds 1000 ≤ timeAfter (seconds 1000) s := by decide

/-! ## Witnesses: house line and peers -/

/-- 781 ticks are short of three character times, 782 are enough; after a collision they count from the
last dominant bit of the frame that went on. -/
theorem witness_FrameBegins :
    let s (b : Option Time) : State := { cycling with
      line := { cycling.line with statusSlot := ⟨true, false⟩, busyUntil := b } }
    let idle (b : Option Time) (d : Time) : Nat :=
      (s b).line.idleTime + 24 * (timeAfter (seconds 1000 + d) (s b) - max (s b).now ((s b).line.busyUntil.getD 0))
    (s none).strapsRead = true ∧ (s none).line.active = false ∧ (s none).line.transmission = none
    ∧ (s none).line.assembly = [] ∧ 18750 ≤ idle none 782 ∧ ¬ 18750 ≤ idle none 781
    ∧ 18750 ≤ idle (some (seconds 1000 + 100)) 882 ∧ ¬ 18750 ≤ idle (some (seconds 1000 + 100)) 881
    ∧ ((s none).line.slot .status).pending = true ∧ ((s none).line.slot .defrost).pending = false
    ∧ ((s none).line.slot .mode).pending = false ∧ ((s none).line.slot .boost).pending = false := by decide

theorem witness_FrameIsLost :
    (sendingKind .status [0x44] 0 none).line.transmission = some ⟨.status, [0x44], seconds 999⟩
    ∧ (0x42 : Byte) < (⟨.status, [0x44], seconds 999⟩ : Transmission).header
    ∧ (sendingKind .status [0x44] 1 (some .mode)).line.collisionKind ≠ some .status
    ∧ (sendingKind .status [0x44] 1 (some .status)).line.collisionKind = some .status
    ∧ (sendingKind .status [0x44] 1 (some .status)).line.collisions < 2
    ∧ 2 ≤ (sendingKind .status [0x44] 2 (some .status)).line.collisions := by decide

theorem witness_FrameIsSent :
    let bs := frameOf .defrost 4 (noticeBody (some ⟨.enter, false⟩) 4000)
    let s : State := { sendingKind .defrost bs 0 none with frost := (contending 4000).frost }
    s.line.transmission = some ⟨.defrost, bs, seconds 999⟩ ∧ s.frost.stage = .contending
    ∧ (s.line.slot .defrost).reRequest = false
    ∧ (({ s.line with defrostSlot := ⟨true, true⟩ } : LineRec).slot .defrost).reRequest = true
    ∧ bs.getLast?.isSome = true ∧ tailOf [0x42, 0x7F] = 625 * 8 ∧ tailOf [0xFE] = 625 ∧ tailOf [0xFF] = 625 * 9 := by
  decide

/-- A frame whose start lies just before and at the last dominant bit of the frame that went on after a collision; and
the idle after a frame spoilt in its last character, before it, and in none. -/
theorem witness_ReceivedFrameIsChecked :
    let s : State := { cycling with line := { cycling.line with busyUntil := some (seconds 1000) } }
    let idle (stops : StopBits) : Nat :=
      (after (.frameReceived [0x22, 0x01, 0x07, 214] stops (seconds 1000) (seconds 1000)) cycling).line.idleTime
    [StopBits.lastDominant, .earlierDominant, .recessive].map idle = [24 * 521, 24 * 521 + 625, 24 * 521 + 625]
    ∧ s.strapsRead = true ∧ s.line.active = false ∧ s.line.transmission = none ∧ s.line.assembly = []
    ∧ (∀ b ∈ s.line.busyUntil, seconds 1000 - 1 < b) ∧ (∀ b ∈ s.line.busyUntil, b ≤ seconds 1000)
    ∧ cycling.line.busyUntil = none
    ∧ frameKind ([] ++ [0x02]) = none ∧ frameKind ([] ++ [0x24, 0x01, 0x07, 212]) = some .mode
    ∧ ([] ++ [0x24, 0x01, 0x07, 212] : List Byte).length = FrameKind.mode.length
    ∧ byteSum ([] ++ [0x24, 0x01, 0x07, 212]) = 0
    ∧ frameIndex ([] ++ [0x24, 0x01, 0x07, 212]) = cycling.stationIndex.toNat := by decide

theorem witness_FrameEntersThePeerTable :
    frameKind (statusFrame 116 450) = some .status ∧ (statusFrame 116 450).length = FrameKind.status.length
    ∧ byteSum (statusFrame 116 450) = 0 ∧ frameIndex (statusFrame 116 450) ≠ cycling.stationIndex.toNat
    ∧ frameKind (frameOf .defrost 1 [0, 6, 164]) = some .defrost
    ∧ (noticeOf (frameOf .defrost 1 [0, 6, 164])).action = some .enter
    ∧ (noticeOf (frameOf .defrost 1 [1, 6, 164])).action = some .withdraw
    ∧ (noticeOf (frameOf .defrost 1 [2, 6, 164])).action = some .leave
    ∧ cycling.line.busyUntil = none ∧ byteAt (statusFrame 116 450) 1 ≠ 5 ∧ byteAt (statusFrame 116 450) 8 % 8 ≠ 4
    ∧ byteAt (frameOf .status 1 [5, 1, 0, 116, 45]) 1 = 5
    ∧ ([{ peer 2 with defrost := some ⟨.defrosting, 0, false, 0⟩ }] : List PeerRec).find?
        (fun q => q.number = frameIndex (statusFrame 116 450) + 1)
      = some { peer 2 with defrost := some ⟨.defrosting, 0, false, 0⟩ } := by decide

/-- R11: a STATUS of station 7 leaves the clock of station 5; R136: a MODE call keeps both parts of the sender's record. -/
theorem witness_FrameEntersThePeerTable_clock :
    let f := frameOf .status 6 ([2, 1, 0, 118, 45] ++ word 100 ++ [0x10, 16, 16, 0, 10, 0, 1, 7, 2])
    let x := after (.frameReceived f .recessive (seconds 1000) (seconds 1001)) cycling
    frameKind f = some .status ∧ byteSum f = 0 ∧ frameIndex f ≠ cycling.stationIndex.toNat
    ∧ x.clock.reference ≠ some (frameIndex f + 1) ∧ x.clock = cycling.clock := by decide

theorem witness_FrameEntersThePeerTable_parts :
    let q : PeerRec := { peer 2 with defrost := some ⟨.contending, 1700, false, seconds 990⟩ }
    let x := after (.frameReceived (frameOf .mode 1 [1, 7]) .recessive (seconds 1000) (seconds 1001))
      { cycling with peers := [q] }
    x.peers = [{ q with lastHeard := seconds 1000 }] := by decide

/-- R138: a STATUS after which DEFROSTING has fallen to NONE. -/
theorem witness_FrameEntersThePeerTable_fall :
    let s : State := { waiting with
      peers := [{ peer 7 with defrost := some ⟨.defrosting, 1700, false, seconds 990⟩ }] }
    let f := frameOf .status 6 ([2, 1, 0, 118, 45] ++ word 100 ++ [0x10, 16, 16, 0, 10, 0, 1, 7, 2])
    (s.peers.find? (fun q => q.number = frameIndex f + 1)).isSome = true ∧ byteAt f 1 ≠ 5 ∧ byteAt f 8 % 8 ≠ 4
    ∧ s.cfg.allowance ≤ placesInUse s
    ∧ (after (.frameReceived f .recessive (seconds 1000) (seconds 1000)) s).frost.stage = .contending := by decide

/-- START and CANCEL calls and one of no action; stamps 7 (record's own) from origin 2, 8 and 134 (newer),
135 and 6 (older). -/
theorem witness_CallsAreTaken :
    cycling.line.busyUntil = none ∧ frameKind (frameOf .boost 1 [0, 90, 30]) = some .boost ∧ (frameOf .boost 1 [0, 90, 30]).length = 5
    ∧ byteAt (frameOf .boost 1 [0, 90, 30]) 1 = 0 ∧ byteAt (frameOf .boost 1 [1, 90, 30]) 1 = 1
    ∧ 2 ≤ byteAt (frameOf .boost 1 [2, 90, 30]) 1
    ∧ frameKind (frameOf .mode 1 [2, 8]) = some .mode ∧ (frameOf .mode 1 [2, 8]).length = 4
    ∧ byteSum (frameOf .mode 1 [2, 8]) = 0 ∧ frameIndex (frameOf .mode 1 [2, 8]) ≠ cycling.stationIndex.toNat
    ∧ modeOfCode (byteAt (frameOf .mode 1 [2, 8]) 1 % 4) = some .high
    ∧ newer cycling.house.stamp 8 = true ∧ newer cycling.house.stamp 134 = true
    ∧ cycling.house.stamp = 7 ∧ 1 + 1 < cycling.house.origin
    ∧ newer cycling.house.stamp 135 = false ∧ newer cycling.house.stamp 6 = false := by decide

/-- R144 by a STATUS: stamp 8 (newer), 7 (the record's own) from origin 2 and from the record's 5, 6 (older), and origins
0 and 17; in REST no rejoin. -/
theorem witness_CallsAreTaken_status :
    let f (m st o : Byte) : List Byte := frameOf .status 6 ([2, 1, 0, 118, 45] ++ word 100 ++ [0x10, 16, 16, 0, 10, 0, m, st, o])
    let rest : State := withSeq (fun q => { q with state := .rest })
    let x (m st o : Byte) := after (.frameReceived (f m st o) .recessive (seconds 1000) (seconds 1000)) rest
    (f 0x82 8 16).length = 18 ∧ modeOfCode (byteAt (f 0x82 8 16) 14 % 4) = some .high
    ∧ (x 0x82 8 16).house = ⟨.high, true, 8, 16⟩ ∧ (x 0x82 7 2).house = ⟨.high, true, 7, 2⟩
    ∧ (x 0x82 8 16).demand.requested ≠ rest.demand.requested ∧ (x 0x82 8 16).seq = rest.seq
    ∧ [x 0x82 7 5, x 0x82 6 1, x 0x82 8 0, x 0x82 8 17, x 0x83 8 2].map (·.house) = List.replicate 5 cycling.house := by
  refine ⟨?_, ?_, ?_, ?_, ?_, ?_, ?_⟩ <;> decide

/-- c equal to h, behind, ahead within and past a quarter of L, and another relation, with the lane direction kept and
changed; an end estimate after, at and before local time. -/
theorem witness_AlignmentFollowsTheReference :
    let p (h : Byte) : StatusPart := statusPartOf (statusFrame h 450) (seconds 1000)
    cycling.seq.state ≠ .starting ∧ cycling.clock.running = true ∧ (p 116).running = true
    ∧ cycling.line.busyUntil = none ∧ frameIndex (statusFrame 116 450) < cycling.stationIndex.toNat
    ∧ (∀ q ∈ ([peer 2, peer 3] : List PeerRec), q.counts = true → frameIndex (statusFrame 116 450) + 1 ≤ q.number)
    ∧ timeAfter (seconds 1000) cycling < (p 116).endEstimate
    ∧ (statusPartOf (statusFrame 116 0) (seconds 1000)).endEstimate ≤ timeAfter (seconds 1000) cycling
    ∧ timeAfter (seconds 1001 - 1) cycling < (statusPartOf (statusFrame 116 10) (seconds 1000)).endEstimate
    ∧ cycling.clock.c = (p 116).half ∧ cycling.clock.c + 1 = (p 117).half ∧ cycling.clock.c = (p 115).half + 1
    ∧ cycling.clock.startTime = some (seconds 1000)
    ∧ (timeAfter (tenths 10112) cycling - seconds 1000) / 25000 ≤ 10 * cycling.clock.length / 4
    ∧ 10 * cycling.clock.length / 4 < (timeAfter (tenths 10113) cycling - seconds 1000) / 25000
    ∧ cycling.clock.c ≠ (p 118).half ∧ cycling.clock.c + 1 ≠ (p 118).half ∧ cycling.clock.c ≠ (p 118).half + 1
    ∧ laneDirection cycling.lane (p 118).half = laneDirection cycling.lane cycling.clock.c
    ∧ laneDirection cycling.lane (p 119).half ≠ laneDirection cycling.lane cycling.clock.c
    ∧ cycling.frost.account < 1600 := by decide

theorem witness_PeersAge :
    let s : State := { cycling with
      peers := [peer 2, { peer 3 with defrost := some ⟨.contending, 0, false, seconds 990⟩ }] }
    PeersInv s ∧ peer 2 ∈ s.peers ∧ (peer 2).fresh = true ∧ (peer 2).usesPlace = false
    ∧ (peer 2).lastHeard + seconds 75 < timeAfter (seconds 1065 + 1) s
    ∧ (peer 2).lastHeard + seconds 300 ≤ timeAfter (seconds 1290) s
    ∧ seconds 990 + seconds 5 < timeAfter (seconds 1000) s := by decide

theorem witness_PeersAge_place :
    PeersInv waiting ∧ standingOf (some ⟨.contending, 1700, false, seconds 990⟩) ≠ .none ∧ standingOf none = .none
    ∧ (waiting.peers.find? (fun q => q.number = frameIndex (frameOf .defrost 1 [1, 6, 164]) + 1)).isSome = true
    ∧ waiting.seq.settling = 0 ∧ waiting.cfg.allowance ≤ placesInUse waiting := by decide

/-- R81: the place comes free by a peer that grows stale, and is kept while it is FRESH. -/
theorem witness_PeersAge_stale :
    (after (.peerStale 2 (seconds 1065 + 1)) waiting).frost.stage = .contending
    ∧ (after (.peerStale 2 (seconds 1065)) waiting).frost.stage = .deferred := by decide

/-- R81: by a peer that is removed. -/
theorem witness_PeersAge_removed :
    (after (.peerRemoved 2 (seconds 1000)) { waiting with
      peers := waiting.peers.map (fun p => { p with lastHeard := seconds 700 }) }).frost.stage = .contending := by decide

/-- R81: by a standing that falls back. -/
theorem witness_PeersAge_fallback :
    (after (.contendingFallback 2 (seconds 1000)) waiting).frost.stage = .contending := by decide

/-- R81: by a WITHDRAW. -/
theorem witness_FrameEntersThePeerTable_place :
    (after (.frameReceived (frameOf .defrost 1 [1, 6, 164]) .recessive (seconds 1000) (seconds 1001)) waiting).frost.stage
      = .contending := by decide

/-- The want test where it does not hold: below 1600, and while settling. -/
theorem witness_PeersAge_noWant :
    (after (.peerStale 2 (seconds 1066)) { waiting with frost := (frostyIn .extract 0 1599).frost }).frost.stage = .limiting
    ∧ (after (.peerStale 2 (seconds 1066)) { waiting with seq := (frostyIn .extract 1 0).seq }).frost.stage = .deferred := by
  decide

theorem witness_LineStateMoves :
    let s : State := { cycling with line := { cycling.line with statusPeriodEnd := some (seconds 1000) } }
    s.line.statusPeriodEnd = some (seconds 1000) ∧ seconds 1000 ≤ timeAfter (seconds 1000) s
    ∧ s.line.active = false ∧ millis 100 ≤ 25000
    ∧ ({ contending 1700 with frost := { (contending 1700).frost with windowEnd := none } } : State).frost.windowEnd = none
    ∧ SeqState.refusesDefrost (contending 1700).seq.state = false ∧ SeqState.refusesDefrost .listen = true
    ∧ cycling.frost.stage ≠ .contending
    ∧ ({ cycling.line with active := true } : LineRec).active = true ∧ seconds 1 ≤ 250000 := by decide

/-- R157: what the raising of LINE keeps while a DEFROST frame is sent, and the slot of a WITHDRAW in REST. -/
theorem witness_LineStateMoves_kept :
    let s (q : SeqState) : State := { sendingKind .defrost [0x14, 0, 6, 0xA4] 2 (some .defrost) with
      seq := { cycling.seq with state := q }
      frost := { (contending 1700).frost with windowEnd := none }
      line := { (sendingKind .defrost [0x14, 0, 6, 0xA4] 2 (some .defrost)).line with
        defrostSlot := ⟨false, true⟩, modeSlot := ⟨true, false⟩, modeBody := some cycling.house, statusMark := true } }
    let x (q : SeqState) := (after (.lineFaultRaised 25000 (seconds 1000)) (s q)).line
    (x .supply).defrostSlot = ⟨false, true⟩ ∧ (x .rest).defrostSlot = ⟨true, true⟩
    ∧ (x .supply).modeSlot = ⟨true, false⟩ ∧ (x .supply).modeBody = some cycling.house
    ∧ (x .supply).statusSlot = ⟨true, false⟩ ∧ (x .supply).statusMark = true := by decide

/-! ## Witnesses: local controls -/

/-- Presses of just under 2.0 s, of 2.0 s and of just under 5.0 s. -/
theorem witness_BoostButtonActs :
    let s := pressed (seconds 1000)
    let own : List Override := [⟨.localBoost, 5, 80, some 1⟩, ⟨.houseBoost, 5, 90, some 1⟩]
    let w : State := { s with demand := { s.demand with stack := own } }
    s.seq.state ≠ .starting ∧ s.ctl.levels.boost ≠ .high ∧ s.ctl.boostStage = .pressed
    ∧ s.ctl.boostStart = some (seconds 1000)
    ∧ timeAfter (seconds 1002 - 1) s - seconds 1000 < seconds 2 ∧ seconds 2 ≤ timeAfter (seconds 1002) s - seconds 1000
    ∧ timeAfter (seconds 1005 - 1) s - seconds 1000 < seconds 5
    ∧ stands s .localBoost (ownNumber s) = false ∧ stands s .houseBoost (ownNumber s) = false
    ∧ stands w .localBoost (ownNumber w) = true ∧ stands w .houseBoost (ownNumber w) = true
    ∧ cycling.ctl.boostStage = .waitRelease ∧ cycling.ctl.levels.boost ≠ .low := by decide

theorem witness_HoldsAreTaken :
    let s := pressed (seconds 995)
    s.ctl.boostStage = .pressed ∧ s.ctl.boostStart = some (seconds 995)
    ∧ seconds 995 + seconds 5 ≤ timeAfter (seconds 1000) s ∧ s.seq.state = .supply ∧ s.seq.restHeld = false
    ∧ timeAfter (seconds 1800 - 1) s - 0 < minutes 30 ∧ ¬ timeAfter (seconds 1800) s - 0 < minutes 30
    ∧ s.ctl.filterStage = .pressed ∧ s.ctl.filterStart = some (seconds 995)
    ∧ seconds 995 + seconds 3 ≤ timeAfter (seconds 998) s ∧ s.loader.writeEnabled = false := by decide

/-- R87: a hold that enters REST ends a defrost, from PAUSED and from a cycling state. -/
theorem witness_HoldsAreTaken_rest :
    let s (q : SeqState) : State := { pressed (seconds 995) with
      seq := { SeqRec.reset with state := q }, frost := (defrosting 700).frost }
    let left (q : SeqState) : SeqState × FrostStage :=
      let x := after (.hold (seconds 1000)) (s q)
      (x.seq.state, x.frost.stage)
    left .paused = (.rest, .limiting) ∧ left .supply = (.rest, .limiting) ∧ left .listen = (.listen, .defrosting) := by
  decide

theorem witness_SwitchesOriginate :
    let s : State := { cycling with ctl := { cycling.ctl with fitted := true, modeTaken := some .away } }
    s.seq.state ≠ .starting ∧ s.ctl.levels.summer ≠ .low ∧ s.ctl.fitted = true
    ∧ positionOf .low .high ≠ none ∧ positionOf .low .high ≠ s.ctl.modeTaken
    ∧ (positionOf .high .high = none ∨ positionOf .high .high = s.ctl.modeTaken)
    ∧ s.ctl.levels.mode1 ≠ .low ∧ s.ctl.levels.mode0 ≠ .low ∧ s.ctl.levels.filter = .high
    ∧ ({ s.ctl with filterStage := .released } : ControlRec).filterStage = .released
    ∧ (pressed 5).ctl.levels.filter = .low ∧ (pressed 5).ctl.filterStage ≠ .released := by decide

/-! ## Witnesses: operations and encodings -/

theorem witness_FramesReadBack :
    ([1, 7] : List Byte).length + 2 = FrameKind.mode.length ∧ lengthInRange 20 ∧ lengthInRange 120
    ∧ cycling.demand.supply < 256 ∧ cycling.frost.account ≤ 4000 ∧ cycling.house.origin < 256
    ∧ (-400 : Int) ≤ 600 ∧ cycling.filter.countdown < 65536
    ∧ cycling.clock.running = true ∧ cycling.clock.endTime = some (seconds 1045) ∧ timeRemaining cycling = 450
    ∧ State.reset.clock.running = false := by decide

/-- Bytes 2, 3 and 13 of STATUS with every flag set, and with none. -/
theorem witness_FramesReadBack_bytes :
    let s : State := { probing .firstHalf 0 with
      lane := .B, roomClass := .kitchen, humid := { HumidRec.reset with state := .boosting }
      seq := { cycling.seq with settling := 1 }, filter := { (probing .firstHalf 0).filter with state := .blocked }
      climate := { cycling.climate with inner := ⟨true, 0, none⟩, outer := ⟨true, 0, none⟩, humidity := ⟨true, 0, none⟩ }
      line := { cycling.line with active := true }
      ctl := { cycling.ctl with stall := true, duplicate := true, config := true, memory := true } }
    let b (s : State) (mark : Bool) : List Nat := [2, 3, 13].map (byteAt (frameOf .status 4 (statusBody s mark 7)))
    b s true = [31, 21, 255] ∧ b State.reset false = [0, 0, 0] := by decide

theorem witness_HumidityCodesConvert :
    (299 : BitVec 12).toNat < 300 ∧ 300 ≤ (300 : BitVec 12).toNat ∧ (3700 : BitVec 12).toNat ≤ 3700
    ∧ 3700 < (3701 : BitVec 12).toNat ∧ State.reset.climate.humidity.fault = false := by decide

theorem witness_OutdoorFallbackIsTheLowest :
    outdoorFallback { cycling with peers := [peer 2] } = some 50 ∧ outdoorFallback cycling = none
    ∧ outdoorFallback { cycling with peers := [peer 2], line := { cycling.line with active := true } } = none := by decide

/-- At an exhaust temperature below 0, in 0..9 and at 10; with a rise below and at the step of 150; in BOOSTING and
REARMING around half the step and the ceiling less 5 %; a boundary with and without a sample of its instant behind
it that raises a fault; and a probe half judged as first and as second, accepted and not. -/
theorem witness_RecordsFeedTheMonitors :
    let w : State := { probing .secondHalf 2010 with pending := [.sample 99 3400 2384 (seconds 1045)] }
    let q := after (.halfBoundary (seconds 1045)) (probing .secondHalf 2010)
    (extractRecord (-1) 700).valid = true ∧ (extractRecord (-1) 700).direction = some .extract
    ∧ (extractRecord 9 700).outer = some 9 ∧ (extractRecord 10 700).outer = some 10
    ∧ cycling.frost.stage ≠ .defrosting ∧ (extractRecord 0 700).moisture = some ⟨700, 129⟩
    ∧ (5 * cycling.cfg.humidityStep : Int) ≤ 850 - 700 ∧ (849 : Int) - 700 < 5 * cycling.cfg.humidityStep
    ∧ (620 : Int) < 10 * (cycling.cfg.rhCeiling : Int) - 50
    ∧ (775 : Int) - 700 ≤ ((5 * cycling.cfg.humidityStep / 2 : Nat) : Int)
    ∧ ((5 * cycling.cfg.humidityStep / 2 : Nat) : Int) < (776 : Int) - 700
    ∧ cycling.clock.running = true ∧ cycling.clock.endTime = some (seconds 1045)
    ∧ seconds 1045 ≤ timeAfter (seconds 1045) cycling ∧ cycling.seq.state ≠ .rest
    ∧ w.pending = [.sample 99 3400 2384 (seconds 1045)] ∧ seconds 1045 ≤ timeAfter (seconds 1045) w
    ∧ w.climate.inner.fault = false ∧ thermistorValid 99 = false
    ∧ (probing .firstHalf 2010).filter.probing = true ∧ seconds 1000 < timeAfter (seconds 1045) (probing .firstHalf 2010)
    ∧ (probing .secondHalf 2010).seq.state = Dir.supply.state ∧ (probing .secondHalf 2010).house.summer = false
    ∧ (probing .secondHalf 2010).filter.speeds.length = 10
    ∧ q.climate.ring.map (fun r => (r.close, r.valid)) = [(seconds 955, true), (seconds 1045, true)]
    ∧ q.filter.load = 64 ∧ q.filter.state = .due
    ∧ (after (.halfBoundary (seconds 1045)) (probing .secondHalf 0)).filter.probe = .idle := by decide

end Sys2Proof.Tests
end

/-! The house row of R7: which rows enter the maximum, and that the fold of the model is their maximum. -/

namespace Sys2Proof.Proofs

open Sys2Proof.Machine

/-- R7: the preferred rows of the peers that count, in the order of the peer table. -/
def countingRows (s : State) : List Nat :=
  s.peers.filterMap (fun p => if p.counts then p.status.map (·.row) else none)

theorem counts_iff (p : PeerRec) :
    p.counts = true ↔ p.fresh = true ∧ ∃ st, p.status = some st ∧ st.running = true := by
  simp [PeerRec.counts, Option.any_eq_true]

/-- The rows that enter the maximum are those of the peers that count, and no others. -/
theorem mem_countingRows {s : State} {r : Nat} :
    r ∈ countingRows s ↔
      ∃ p ∈ s.peers, ∃ st, p.fresh = true ∧ p.status = some st ∧ st.running = true ∧ r = st.row := by
  simp only [countingRows, List.mem_filterMap, Option.ite_none_right_eq_some, Option.map_eq_some_iff, counts_iff]
  constructor
  · rintro ⟨p, hp, ⟨hfresh, st, hst, hrun⟩, st', hst', rfl⟩
    obtain rfl : st = st' := Option.some.inj (hst.symm.trans hst')
    exact ⟨p, hp, st, hfresh, hst, hrun, rfl⟩
  · rintro ⟨p, hp, st, hfresh, hst, hrun, rfl⟩
    exact ⟨p, hp, ⟨hfresh, st, hst, hrun⟩, st, hst, rfl⟩

theorem houseRow_of_line_active {s : State} (h : s.line.active = true) : houseRow s = preferredRow s := by
  simp [houseRow, h]

theorem houseRow_of_line_clear {s : State} (h : s.line.active = false) :
    houseRow s = (countingRows s).foldl max (preferredRow s) := by
  simp [houseRow, countingRows, h]

/-- R7 while LINE is clear: the house row is one of the own preferred row and the counting rows, and none of them
is above it. -/
theorem houseRow_isMax {s : State} (h : s.line.active = false) :
    houseRow s ∈ preferredRow s :: countingRows s ∧ ∀ r ∈ preferredRow s :: countingRows s, r ≤ houseRow s := by
  have hmax : (preferredRow s :: countingRows s).max? = some (houseRow s) := by
    rw [houseRow_of_line_clear h, List.max?_cons']
  exact List.max?_eq_some_iff.mp hmax

/-- Settles O27: the house row is the maximum of a list whose members are the own preferred row and the rows of
the peers that count. -/
theorem houseRowIsTheLargest : Obligations.HouseRowIsTheLargest := by
  intro s
  refine ⟨houseRow_of_line_active, fun hclear => ?_⟩
  obtain ⟨hmem, hle⟩ := houseRow_isMax hclear
  refine ⟨hle _ List.mem_cons_self, fun p hp st hfresh hst hrun => ?_, ?_⟩
  · have hrow : st.row ∈ countingRows s := mem_countingRows.mpr ⟨p, hp, st, hfresh, hst, hrun, rfl⟩
    exact hle _ (List.mem_cons_of_mem _ hrow)
  · exact (List.mem_cons.mp hmem).imp_right mem_countingRows.mp

end Sys2Proof.Proofs

/-! Humidity codes of R57: which codes convert, to what value, and what a code that does not convert does to a
channel (R58). -/

namespace Sys2Proof.Proofs

open Sys2Proof.Machine

/-- Section 0.5.2: with its limits in order, the clamp is the larger of the low limit and what the high limit
leaves. -/
theorem clampInt_eq_max_min {lo hi : Int} (h : lo ≤ hi) (x : Int) : clampInt lo hi x = max lo (min hi x) := by
  unfold clampInt
  split
  · omega
  · split <;> omega

theorem clampInt_of_le_low {lo hi x : Int} (h : lo ≤ hi) (hx : x ≤ lo) : clampInt lo hi x = lo := by
  rw [clampInt_eq_max_min h, max_eq_left ((min_le_right hi x).trans hx)]

theorem clampInt_of_high_le {lo hi x : Int} (h : lo ≤ hi) (hx : hi ≤ x) : clampInt lo hi x = hi := by
  rw [clampInt_eq_max_min h, min_eq_left hx, max_eq_right h]

theorem humidityValid_iff (k : BitVec 12) : humidityValid k = true ↔ 300 ≤ k.toNat ∧ k.toNat ≤ 3700 := by
  simp [humidityValid]

theorem convertHumidity_of_outside {k : BitVec 12} (h : k.toNat < 300 ∨ 3700 < k.toNat) :
    convertHumidity k = none := by
  have hinvalid : ¬ humidityValid k = true := by rw [humidityValid_iff]; omega
  exact if_neg hinvalid

theorem convertHumidity_of_inside {k : BitVec 12} (hlo : 300 ≤ k.toNat) (hhi : k.toNat ≤ 3700) :
    convertHumidity k = some (humidityRh k) :=
  if_pos ((humidityValid_iff k).mpr ⟨hlo, hhi⟩)

/-- At code 400 and below the quotient is not above 0, so the clamp holds it at its low end. -/
theorem humidityRh_of_le_400 {k : BitVec 12} (h : k.toNat ≤ 400) : humidityRh k = 0 := by
  have hquot : (((k.toNat : Int) - 400) * 1000).tdiv 3200 ≤ 0 :=
    calc (((k.toNat : Int) - 400) * 1000).tdiv 3200
      _ ≤ (0 : Int).tdiv 3200 := Int.tdiv_le_tdiv (by decide) (by omega)
      _ = 0 := Int.zero_tdiv 3200
  exact clampInt_of_le_low (by decide) hquot

/-- Code 3600 is exactly 1000 per-mille; from there up the clamp holds the value at its high end. -/
theorem humidityRh_of_3600_le {k : BitVec 12} (h : 3600 ≤ k.toNat) : humidityRh k = 1000 := by
  have hquot : 1000 ≤ (((k.toNat : Int) - 400) * 1000).tdiv 3200 :=
    Int.le_tdiv_of_mul_le (by decide) (by omega)
  exact clampInt_of_high_le (by decide) hquot

/-- R58: a code that is not converted leaves every channel faulted, whatever it was before. -/
theorem step_none_fault (c : Channel) : (c.step none).fault = true := by
  obtain ⟨fault, validRun, held⟩ := c
  cases fault <;> rfl

/-- Settles O59: the conversion splits on the valid range of R57, and the clamp decides the value at both of its
ends. -/
theorem humidityCodesConvert : Obligations.HumidityCodesConvert := by
  intro k
  refine ⟨fun hout => ?outside, fun hlo hhi => ?inside, by decide, by decide, by decide,
    fun hlo hhi => ?lowEnd, fun hlo hhi => ?highEnd⟩
  case outside =>
    rw [convertHumidity_of_outside hout]
    exact ⟨rfl, fun c _ => step_none_fault c⟩
  case inside => rw [convertHumidity_of_inside hlo hhi, humidityRh, clampInt_eq_max_min (by decide)]
  case lowEnd => rw [convertHumidity_of_inside hlo (by omega), humidityRh_of_le_400 hhi]
  case highEnd => rw [convertHumidity_of_inside (by omega) hhi, humidityRh_of_3600_le hlo.le]

end Sys2Proof.Proofs

/-! The outdoor fallback of R142: which outdoor bytes enter the minimum, and when there is none. -/

namespace Sys2Proof.Proofs

open Sys2Proof.Machine

/-- R142: the outdoor readings of the FRESH records, in half-degrees and in the order of the peer table. -/
def outdoorReadings (s : State) : List Int :=
  (s.peers.filterMap (fun p => if p.fresh then p.status.map (·.outdoor) else none)).filter (· ≠ -128)

/-- The bytes that enter the minimum are the readings of the FRESH records with a status part, and no others. -/
theorem mem_outdoorReadings {s : State} {r : Int} :
    r ∈ outdoorReadings s ↔
      ∃ p ∈ s.peers, ∃ st, p.fresh = true ∧ p.status = some st ∧ st.outdoor ≠ -128 ∧ r = st.outdoor := by
  simp only [outdoorReadings, List.mem_filter, List.mem_filterMap, Option.ite_none_right_eq_some,
    Option.map_eq_some_iff, decide_eq_true_eq]
  constructor
  · rintro ⟨⟨p, hp, hfresh, st, hst, rfl⟩, hreading⟩
    exact ⟨p, hp, st, hfresh, hst, hreading, rfl⟩
  · rintro ⟨p, hp, st, hfresh, hst, hreading, rfl⟩
    exact ⟨⟨p, hp, hfresh, st, hst, rfl⟩, hreading⟩

theorem outdoorFallback_of_line_active {s : State} (h : s.line.active = true) : outdoorFallback s = none :=
  if_pos h

theorem outdoorFallback_of_line_clear {s : State} (h : s.line.active = false) :
    outdoorFallback s = (outdoorReadings s).min?.map (· * 5) := by
  simp [outdoorFallback, outdoorReadings, h]

/-- R142: a value is offered only while LINE is clear, and it is then 5 times the lowest reading. -/
theorem outdoorFallback_eq_some_iff {s : State} {x : Int} :
    outdoorFallback s = some x ↔
      s.line.active = false ∧ ∃ r ∈ outdoorReadings s, (∀ r' ∈ outdoorReadings s, r ≤ r') ∧ x = 5 * r := by
  cases hline : s.line.active with
  | true => simp [outdoorFallback_of_line_active hline]
  | false =>
    simp [outdoorFallback_of_line_clear hline, List.min?_eq_some_iff, and_assoc,
      mul_comm _ (5 : Int), eq_comm (a := x)]

theorem outdoorFallback_eq_none_iff {s : State} :
    outdoorFallback s = none ↔ s.line.active = true ∨ outdoorReadings s = [] := by
  cases hline : s.line.active with
  | true => simp [outdoorFallback_of_line_active hline]
  | false => simp [outdoorFallback_of_line_clear hline, List.min?_eq_none_iff]

/-- No record qualifies exactly when each FRESH record's status part, where it has one, holds the none value. -/
theorem outdoorReadings_eq_nil_iff {s : State} :
    outdoorReadings s = [] ↔
      ∀ p ∈ s.peers, ∀ st, p.fresh = true → p.status = some st → st.outdoor = -128 := by
  simp only [List.eq_nil_iff_forall_not_mem, mem_outdoorReadings]
  constructor
  · intro hnone p hp st hfresh hst
    by_contra hreading
    exact hnone st.outdoor ⟨p, hp, st, hfresh, hst, hreading, rfl⟩
  · rintro hall r ⟨p, hp, st, hfresh, hst, hreading, -⟩
    exact hreading (hall p hp st hfresh hst)

/-- Settles O58: the fallback is 5 times the minimum of a list whose members are the qualifying readings, and
multiplying by 5 keeps their order. -/
theorem outdoorFallbackIsTheLowest : Obligations.OutdoorFallbackIsTheLowest := by
  intro s
  refine ⟨fun x => ?value, ?absence⟩
  case value =>
    rw [outdoorFallback_eq_some_iff]
    refine and_congr_right fun _ => ⟨?_, ?_⟩
    · rintro ⟨r, hr, hlowest, rfl⟩
      obtain ⟨p, hp, st, hfresh, hst, hreading, rfl⟩ := mem_outdoorReadings.mp hr
      refine ⟨⟨p, hp, st, hfresh, hst, hreading, rfl⟩, fun p' hp' st' hfresh' hst' hreading' => ?_⟩
      have hle := hlowest _ (mem_outdoorReadings.mpr ⟨p', hp', st', hfresh', hst', hreading', rfl⟩)
      omega
    · rintro ⟨⟨p, hp, st, hfresh, hst, hreading, rfl⟩, hlowest⟩
      refine ⟨st.outdoor, mem_outdoorReadings.mpr ⟨p, hp, st, hfresh, hst, hreading, rfl⟩, fun r hr => ?_, rfl⟩
      obtain ⟨p', hp', st', hfresh', hst', hreading', rfl⟩ := mem_outdoorReadings.mp hr
      have hle := hlowest p' hp' st' hfresh' hst' hreading'
      omega
  case absence => rw [outdoorFallback_eq_none_iff, outdoorReadings_eq_nil_iff]

end Sys2Proof.Proofs

/-! What every timed command is: time moves, the command's effect takes place, and the blocks that read it follow.
An invariant is kept by every step when the effects and these two keep it. -/

namespace Sys2Proof.Proofs

open Sys2Proof.Machine

/-- The effect of a command on the state in which local time has already moved, its condition included. -/
def effectOf : Instr → State → State
  | .reset _ _ _, m => m
  | .configurationRecordRead reply _, m =>
    onlyIf (awaitsConfigRecord m) (takeConfig (MemoryReply.record 17 reply)) m
  | .filterRecordRead reply raw _, m =>
    onlyIf (awaitsFilterRecord m) (takeFilterRecord (MemoryReply.record 8 reply) raw) m
  | .listenEnd _, m => onlyIf (listenOver m) startCycling m
  | .halfBoundary _, m => onlyIf (boundaryDue m) boundary m
  | .rundownEnd _, m => onlyIf (rundownOver m) endRundown m
  | .switchDeadTimeEnd _, m => onlyIf (deadTimeOver m) enterSpinup m
  | .spinupHoldEnd _, m => onlyIf (holdOver m) endHold m
  | .spinupLimit _, m => onlyIf (spinupOver m) endSpinup m
  | .tachCapture _, m => reversalOnSpeed (capture m)
  | .captureOverflow _, m => onlyIf (overflowDue m) (fun x => reversalOnSpeed (overflow x)) m
  | .stallReport _, m => onlyIf (stallDue m) reportStall m
  | .stallHistoryAgeing _, m => ageHistory m
  | .pauseEnd _, m => onlyIf (pauseOver m) endPause m
  | .sample i o h _, m => takeSample i o h m
  | .runSecond _, m => countRunSecond m
  | .contentionWindowEnd _, m => onlyIf (windowOver m) decideWindow m
  | .meltStepEnd _, m => onlyIf (meltStepOver m) closeStep m
  | .defrostTimeLimit _, m => onlyIf (defrostTimedOut m) timeOutDefrost m
  | .blindDefrostLimit _, m => onlyIf (blindDefrostOver m) endBlindDefrost m
  | .lockoutEnd _, m => onlyIf (lockoutOver m) endLockout m
  | .boostCap _, m => onlyIf (capReached m) (endBoost .rearming) m
  | .restCheck _, m => onlyIf (restCheckDue m) restCheck m
  | .overrideExpiry src origin _, m => onlyIf (runOut src origin m) (removeEntry src origin) m
  | .frameStart _, m => onlyIf (frameDue m) startFrame m
  | .lostContention header _, m => onlyIf (losesTo header m.line) (loseContention header) m
  | .collision x, m => onlyIf (sendingFrame m) (takeCollision x.restEnd) m
  | .frameSent _, m => onlyIf (sendingFrame m) completeFrame m
  | .frameReceived chars stops arrival _, m =>
    onlyIf (receives m && !restOfOtherFrame arrival m.line) (closeFrame chars stops arrival) m
  | .peerStale n _, m => ageingEvent PeerRec.staleDue makeStale n m
  | .peerRemoved n _, m => ageingEvent PeerRec.removalDue removePeer n m
  | .contendingFallback n _, m => ageingEvent PeerRec.fallbackDue fallBack n m
  | .statusPeriodEnd _, m => onlyIf (statusPeriodOver m) endStatusPeriod m
  | .lineFaultRaised d _, m => onlyIf (lineStuck d m) (raiseLine d) m
  | .lineFaultCleared r _, m => onlyIf (lineFree r m) (clearLine r) m
  | .debounce line level _, m => onlyIf (levelDiffers line level m) (debounceLine line level) m
  | .hold _, m => onlyIf (holdDue m) takeHold m
  | .filterReset _, m => onlyIf (filterResetDue m) takeFilterReset m
  | .modePositionTaken mode1 mode0 _, m => takePair mode1 mode0 m
  | .writeComplete _, m => onlyIf m.loader.inFlight endWrite m
  | .writeFailed _, m => onlyIf m.loader.inFlight failWrite m

/-- Each timed command runs its effect at its own time. -/
theorem exec_eq_command {c : Instr} {t : Time} (h : timeOf c = some t) (s : State) :
    exec c s = command t (effectOf c) s := by
  cases c <;> cases h <;> rfl

/-- The state to which a timed command leads out of reset. -/
def after (c : Instr) (t : Time) (s : State) : State := finish (advance t s) (effectOf c (advance t s))

theorem exec_eq_after {c : Instr} {t : Time} {s : State} (h : timeOf c = some t) (hr : s.inReset = false) :
    exec c s = .next (after c t s) := by
  rw [exec_eq_command h, command_next _ _ hr, after]

/-- What follows a command moves nothing of the held part. -/
theorem held_after (c : Instr) (t : Time) (s : State) : held (after c t s) = held (effectOf c (advance t s)) :=
  held_finish _ _

/-- Time moves none of the fan drive's steady part. -/
@[simp] theorem advance_fan_steady (t : Time) (s : State) : (advance t s).fan.steady = s.fan.steady := rfl

/-- What a timed command can answer: in reset the state as it was, and otherwise the state `after` it. -/
theorem exec_next_cases {c : Instr} {s s' : State} (hc : (timeOf c).isSome = true) (h : exec c s = .next s') :
    (s.inReset = true ∧ s' = s) ∨ (∃ t, timeOf c = some t ∧ s.inReset = false ∧ s' = after c t s) := by
  obtain ⟨t, ht⟩ := Option.isSome_iff_exists.mp hc
  cases hr : s.inReset with
  | true =>
    rw [exec_eq_command ht, command_inReset _ _ hr] at h
    exact .inl ⟨rfl, (Host.Outcome.next.inj h).symm⟩
  | false =>
    rw [exec_eq_after ht hr] at h
    exact .inr ⟨t, ht, rfl, (Host.Outcome.next.inj h).symm⟩

/-- An invariant that does not speak of the queue is kept by every step when RESET leads to it and every timed command
keeps it. -/
theorem keptByStep_of {inv : State → Prop} (hqueue : ∀ s q, inv s → inv { s with pending := q })
    (hreset : ∀ i l cl s, inv (readStraps i l cl (resetBlocks s)))
    (hcommand : ∀ c t s, timeOf c = some t → inv s → inv (after c t s)) : KeptByStep inv := by
  intro s s' hs hstep
  unfold step at hstep
  split at hstep
  case h_1 => exact Host.Outcome.next.inj hstep ▸ hs
  case h_2 c rest _ =>
    rcases hc : timeOf c with _ | t
    · cases c <;> cases hc
      exact Host.Outcome.next.inj hstep ▸ hreset _ _ _ _
    · rcases exec_next_cases (by simp [hc]) hstep with ⟨_, rfl⟩ | ⟨t', ht', _, rfl⟩
      · exact hqueue _ _ hs
      · exact hcommand _ _ _ ht' (hqueue _ _ hs)

/-- Settles O1. -/
theorem stepRunsTheFrontCommand : Obligations.StepRunsTheFrontCommand := by
  refine ⟨fun c rest s => step_front c rest s, fun s h => ?_⟩
  unfold step
  rw [h]

/-- An event either takes its effect or leaves the state. -/
theorem onlyIf_cases (b : Bool) (f : State → State) (m : State) :
    (b = true ∧ onlyIf b f m = f m) ∨ onlyIf b f m = m := by
  cases b
  · exact .inr rfl
  · exact .inl ⟨rfl, rfl⟩

/-- An ageing event either changes the table by the record it found due or leaves the state. -/
theorem ageingEvent_cases (due : PeerRec → Time → Bool) (f : PeerRec → State → State) (n : Nat) (m : State) :
    (∃ p, findPeer m.peers n = some p ∧ due p m.now = true ∧ ageingEvent due f n m = f p m)
      ∨ ageingEvent due f n m = m := by
  unfold ageingEvent
  split
  case h_1 p hp =>
    split
    case isTrue hdue => exact .inl ⟨p, hp, hdue, rfl⟩
    case isFalse => exact .inr rfl
  case h_2 => exact .inr rfl

/-- What an event keeps follows from what its effect keeps. -/
theorem onlyIf_keeps {α : Type} (get : State → α) {f : State → State} (h : ∀ x, get (f x) = get x) (b : Bool)
    (m : State) : get (onlyIf b f m) = get m := by
  rcases onlyIf_cases b f m with ⟨_, e⟩ | e <;> rw [e]
  exact h m

/-- What an ageing event keeps follows from what its change of the table keeps. -/
theorem ageingEvent_keeps {α : Type} (get : State → α) {f : PeerRec → State → State}
    (h : ∀ p x, get (f p x) = get x) (due : PeerRec → Time → Bool) (n : Nat) (m : State) :
    get (ageingEvent due f n m) = get m := by
  rcases ageingEvent_cases due f n m with ⟨p, _, _, e⟩ | e <;> rw [e]
  exact h p m

/-- What no effect moves: local time, the capture counter, the straps' values and the queue. -/
abbrev fixedPart (s : State) : Time × Bool × BitVec 16 × Bool × BitVec 4 × Lane × RoomClass × List Instr :=
  (s.now, s.inReset, s.fan.captureCounter, s.strapsRead, s.stationIndex, s.lane, s.roomClass, s.pending)

theorem effectOf_fixedPart (c : Instr) (m : State) : fixedPart (effectOf c m) = fixedPart m := by
  cases c
  case reset => rfl
  case tachCapture => simp [effectOf]
  case stallHistoryAgeing => rfl
  case sample => simp [effectOf]
  case runSecond => simp [effectOf]
  case peerStale n _ => exact ageingEvent_keeps fixedPart (by simp) _ n m
  case peerRemoved n _ => exact ageingEvent_keeps fixedPart (by simp) _ n m
  case contendingFallback n _ => exact ageingEvent_keeps fixedPart (by simp) _ n m
  case modePositionTaken => simp [effectOf]
  all_goals exact onlyIf_keeps fixedPart (by simp) _ m

/-- The same, field by field. -/
@[simp] theorem effectOf_keeps (c : Instr) (m : State) :
    (effectOf c m).now = m.now ∧ (effectOf c m).inReset = m.inReset
    ∧ (effectOf c m).fan.captureCounter = m.fan.captureCounter ∧ (effectOf c m).strapsRead = m.strapsRead
    ∧ (effectOf c m).stationIndex = m.stationIndex ∧ (effectOf c m).lane = m.lane
    ∧ (effectOf c m).roomClass = m.roomClass ∧ (effectOf c m).pending = m.pending := by
  simpa using effectOf_fixedPart c m

/-- Settles O4: time moves local time and the counter, and neither the effects nor what follows them does. -/
theorem timeMovesLocalTimeAndTheTach : Obligations.TimeMovesLocalTimeAndTheTach := by
  intro c t s hr ht
  have hnow : (after c t s).now = timeAfter t s := by simp [after]
  have hcounter : (after c t s).fan.captureCounter = counterAt t s := by simp [after]; rfl
  exact ⟨_, exec_eq_after ht hr, hnow, hcounter⟩

end Sys2Proof.Proofs

/-! Reset, the stored records and the write-back: RESET's whole state, the listed reset values, the configuration
fields, and the commands of the loader. -/

namespace Sys2Proof.Proofs

open Sys2Proof.Machine

/-! ## Reset -/

theorem laneOfStrap_eq : ∀ l : BitVec 1, laneOfStrap l = if l = 0 then .A else .B := by decide

theorem classOfStraps_eq :
    ∀ cl : BitVec 2, classOfStraps cl = if cl = 1 then .wet else if cl = 2 then .kitchen else .dry := by decide

/-- Settles O2: the straps' codes are read as R168 says; the rest is the reset state. -/
theorem resetCommand : Obligations.ResetCommand := by
  intro index lane cl s
  have hhumid : (if classOfStraps cl = .dry ∨ State.reset.climate.humidity.fault = true then HumidState.disabled
      else .seeding) = if cl = 1 ∨ cl = 2 then .seeding else .disabled := by
    revert cl; decide
  rw [← laneOfStrap_eq, ← classOfStraps_eq, ← hhumid]
  rfl

/-- Settles O3: the listed values by evaluation; held in reset, a command is no event. -/
theorem resetLeavesTheListedValues : Obligations.ResetLeavesTheListedValues := by
  have hdark (s : State) (l : Lamp) (h : s.inReset = true) : lampOutput s l = false := lampOutput_inReset s l h
  have hstill (c : Instr) (s : State) (hc : (timeOf c).isSome = true) (h : s.inReset = true) : exec c s = .next s := by
    obtain ⟨t, ht⟩ := Option.isSome_iff_exists.mp hc
    rw [exec_eq_command ht, command_inReset _ _ h]
  exact ⟨rfl, rfl, rfl, rfl, rfl, rfl, rfl, rfl, rfl, rfl, rfl, rfl, rfl, rfl, rfl, rfl, rfl, rfl, rfl, rfl, rfl, rfl,
    hdark, hstill, rfl, rfl⟩

/-- Settles O20: each invariant evaluated on the reset state. -/
theorem invariantsHoldAtReset : Obligations.InvariantsHoldAtReset := by
  refine ⟨?drive, ?seq, ?clock, ?frost, ?levels, ?humid, ?peers, ?rings, ?lamps⟩
  case clock =>
    refine ⟨by decide, by decide, by decide, by decide, by decide, by decide, by decide, ?_, by decide, rfl⟩
    exact fun c hc => absurd hc (by simp [State.reset, LoaderRec.reset])
  all_goals decide

/-! ## The configuration record -/

theorem clampNat_eq_max_min {lo hi : Nat} (h : lo ≤ hi) (x : Nat) : clampNat lo hi x = max lo (min hi x) := by
  unfold clampNat
  split
  · omega
  · split <;> omega

theorem bitOf_eq_testBit (b i : Nat) : bitOf b i = b.testBit i := by
  simp [bitOf, bitsOf, Nat.testBit, Nat.shiftRight_eq_div_pow, Nat.and_comm 1, Nat.and_one_is_mod]

/-- Byte 10 selects fixed by its two low bits alone. -/
theorem policy_fixed_iff (b : Nat) :
    (if b.testBit 1 && !b.testBit 0 then CyclePolicy.fixed else .tracked) = .fixed ↔ b % 4 = 2 := by
  have hpolicy : (if b.testBit 1 && !b.testBit 0 then CyclePolicy.fixed else .tracked) = .fixed
      ↔ b.testBit 1 = true ∧ b.testBit 0 = false := by
    cases b.testBit 1 <;> cases b.testBit 0 <;> simp
  rw [hpolicy, ← bitOf_eq_testBit, ← bitOf_eq_testBit, bitOf, bitOf, bitsOf, bitsOf, beq_iff_eq, beq_eq_false_iff_ne]
  omega

/-- Settles O23: each field is a clamp of its own byte, and every clamp's range is in order. -/
theorem configurationFieldsAreClamped : Obligations.ConfigurationFieldsAreClamped := by
  rintro bs c rfl
  simp only [configOf, clampNat_eq_max_min (show 10 ≤ 60 by decide), clampNat_eq_max_min (show 1 ≤ 8 by decide),
    clampNat_eq_max_min (show 20 ≤ 100 by decide), clampNat_eq_max_min (show 10 ≤ 100 by decide),
    clampNat_eq_max_min (show 70 ≤ 95 by decide), clampNat_eq_max_min (show 10 ≤ 80 by decide),
    clampNat_eq_max_min (show 20 ≤ 200 by decide), clampNat_eq_max_min (show 40 ≤ 250 by decide),
    clampNat_eq_max_min (show 20 ≤ 120 by decide), clampNat_eq_max_min (show 8 ≤ 20 by decide),
    clampNat_eq_max_min (show 5 ≤ 60 by decide), bitOf_eq_testBit, policy_fixed_iff, true_and]
  refine ⟨max_comm _ _, fun m => ?_, by omega, by omega⟩
  cases m <;> simp only [ConfigRecord.level] <;> omega

/-! ## The commands of the loader -/

/-- Settles O22: the reply decides which record the load buffer takes. -/
theorem configurationRecordIsRead : Obligations.ConfigurationRecordIsRead := by
  intro t s hr hstate hstraps hconfig
  have hdue : awaitsConfigRecord (advance t s) = true := by simp [awaitsConfigRecord, started, hstate, hstraps, hconfig]
  have hexec (reply : MemoryReply) : exec (.configurationRecordRead reply t) s
      = .next (finish (advance t s) (takeConfig (MemoryReply.record 17 reply) (advance t s))) := event_due hr hdue
  refine ⟨⟨_, hexec .silent, by rw [held_finish]; rfl⟩, fun bs hlen => ?_⟩
  have hrecord : MemoryReply.record 17 (.bytes bs) = some bs := by
    simp [MemoryReply.record, hlen, List.take_of_length_le hlen.le]
  refine ⟨fun hsum => ⟨_, hexec _, ?_⟩, fun hsum => ⟨_, hexec _, ?_⟩⟩ <;>
  · rw [held_finish, hrecord]
    simp only [takeConfig, hsum, if_true, if_false]
    rfl

/-- What the end of a write leaves in the loader. -/
theorem endWrite_loader (s : State) :
    (endWrite s).loader = { s.loader with
      inFlight := s.loader.writePending
      writePending := false
      writeBytes := if s.loader.writePending then filterRecordBytes s.filter else s.loader.writeBytes } := by
  unfold endWrite
  cases h : s.loader.writePending <;> simp [startWrite]

theorem held_endWrite (s : State) : held (endWrite s) = { held s with loader := (endWrite s).loader } := by
  simp [held]

/-- Settles O25: both ends of a write are `endWrite`; a failure raises MEMORY besides. -/
theorem writeEnds : Obligations.WriteEnds := by
  intro t s hr hflight
  have hcomplete : effectOf (.writeComplete t) (advance t s) = endWrite (advance t s) := if_pos (by simpa using hflight)
  have hfail : effectOf (.writeFailed t) (advance t s) = failWrite (advance t s) := if_pos (by simpa using hflight)
  refine ⟨⟨_, exec_eq_after (c := .writeComplete t) rfl hr, ?_⟩, ⟨_, exec_eq_after (c := .writeFailed t) rfl hr, ?_⟩⟩
  · simp [held_after, hcomplete, held_endWrite, endWrite_loader]
  · simp [held_after, hfail, failWrite, held_endWrite, endWrite_loader]
    simp [held, ControlRec.steady]

/-- Settles O35: the ageing touches the history alone. -/
theorem stallHistoryAges : Obligations.StallHistoryAges := by
  intro t s hr
  refine ⟨_, command_next t ageHistory hr, ?_⟩
  rw [held_finish]
  rfl

end Sys2Proof.Proofs

/-! The quiet acts: the elementary acts of the frost guard, the filter monitor, the humidity monitor, the demand unit and
the other blocks that leave the sequencer, the drive, the clock and the peers alone; and that the larger operations of
these blocks are made of them. -/

namespace Sys2Proof.Proofs

open Sys2Proof.Machine

/-- One elementary act that leaves sequencer, drive, clock, peers and configuration alone. The conditions are those that
stand wherever the model makes the act. -/
inductive Quiet : State → State → Prop
  | stage (st : FrostStage) (s : State) (hmelt : s.frost.stage = .defrosting → s.frost.meltStepEnd = none) :
      Quiet s (setStage st s)
  | endStage (st : FrostStage) (s : State) : Quiet s (leaveDefrost (setStage st s))
  | notice (a : NoticeAction) (f : Bool) (s : State) : Quiet s (queueNotice a f s)
  | frost (f : FrostRec) (s : State) (hstage : f.stage = s.frost.stage) (haccount : f.account = s.frost.account)
      (hmelt : f.meltStepEnd = s.frost.meltStepEnd ∨ f.meltStepEnd = none) : Quiet s { s with frost := f }
  | account (a : Nat) (s : State) (ha : a ≤ 4000 ∨ a ≤ s.frost.account) : Quiet s (setAccount a s)
  | melt (e : Time) (s : State) (hstage : s.frost.stage = .defrosting)
      (hstate : s.seq.state = .defrost ∨ s.frost.meltStepEnd.isSome = true) :
      Quiet s { s with frost := { s.frost with meltStepEnd := some e } }
  | drop (s : State) : Quiet s (dropProbe s)
  | lift (s : State) : Quiet s (liftHold s)
  | place (s : State) : Quiet s (placeHold s)
  | filter (f : FilterRec) (s : State) (hspeeds : f.speeds = s.filter.speeds ∨ f.speeds.length ≤ 10) :
      Quiet s { s with filter := f }
  | loader (l : LoaderRec) (s : State) (hconfig : l.config = s.loader.config) : Quiet s { s with loader := l }
  | humid (h : HumidRec) (s : State) (hdisabled : h.state = .disabled ↔ s.humid.state = .disabled)
      (hboosting : s.humid.state = .boosting → h.state = .boosting) : Quiet s { s with humid := h }
  | endBoost (next : HumidState) (s : State) (hnext : next ≠ .disabled) (hstate : s.humid.state = .boosting) :
      Quiet s (endBoost next s)
  | startBoost (s : State) (hstate : s.humid.state = .seeding ∨ s.humid.state = .watching) : Quiet s (startBoost s)
  | push (e : Override) (s : State) (hsource : e.source ≠ .humidity) : Quiet s (push e s)
  | remove (src : Source) (origin : Nat) (s : State) : Quiet s (removeEntry src origin s)
  | climate (c : ClimateRec) (s : State)
      (hfaults : c.inner.fault = s.climate.inner.fault ∧ c.outer.fault = s.climate.outer.fault
        ∧ c.humidity.fault = s.climate.humidity.fault)
      (hring : c.ring.length ≤ 4 ∨ c.ring.length ≤ s.climate.ring.length)
      (hwindow : c.window.length ≤ 8 ∨ c.window = s.climate.window) : Quiet s { s with climate := c }
  | line (l : LineRec) (s : State) (hactive : l.active = s.line.active) : Quiet s { s with line := l }
  | ctl (c : ControlRec) (s : State) (hlamps : c.amber = s.ctl.amber ∧ c.green = s.ctl.green) :
      Quiet s { s with ctl := c }

/-- Some quiet acts, one after another. -/
abbrev Quiets : State → State → Prop := Relation.ReflTransGen Quiet

theorem Quiet.once {s s' : State} (h : Quiet s s') : Quiets s s' := .single h

/-! ## The filter monitor -/

theorem quiets_abandonProbe (s : State) : Quiets s (abandonProbe s) := by
  unfold abandonProbe
  split
  · exact (Quiet.drop s).once
  · exact .refl

theorem quiets_filterOnSequencer (s : State) : Quiets s (filterOnSequencer s) := by
  unfold filterOnSequencer
  split
  · exact quiets_abandonProbe s
  · exact .refl

theorem quiets_filterOnCompletion (g : Target) (s : State) : Quiets s (filterOnCompletion g s) := by
  unfold filterOnCompletion
  split
  · split
    · split
      · exact .refl
      · exact (Quiet.place s).once
    · exact (Quiet.drop s).once
  · exact .refl

theorem quiets_startTestAtBoundary (before : SeqState) (s : State) : Quiets s (startTestAtBoundary before s) := by
  unfold startTestAtBoundary
  split
  · split
    · split
      · exact (Quiet.filter _ s (.inr (Nat.zero_le _))).once
      · exact .refl
    · exact .refl
  · exact .refl

theorem quiets_startWrite (s : State) : Quiets s (startWrite s) := (Quiet.loader _ s (by rfl)).once

theorem quiets_requestWriteBack (s : State) : Quiets s (requestWriteBack s) := by
  unfold requestWriteBack
  split
  · split
    · exact (Quiet.loader _ s (by rfl)).once
    · exact quiets_startWrite s
  · exact .refl

theorem quiets_endWrite (s : State) : Quiets s (endWrite s) := by
  have hidle : Quiet s { s with loader := { s.loader with inFlight := false, writePending := false } } :=
    .loader _ s (by rfl)
  unfold endWrite
  dsimp only
  split
  · exact .trans hidle.once (quiets_startWrite _)
  · exact hidle.once

/-- A new filter record with a write-back request after it. -/
theorem quiets_filter_writeBack (f : FilterRec) (s : State) (h : f.speeds = s.filter.speeds ∨ f.speeds.length ≤ 10) :
    Quiets s (requestWriteBack { s with filter := f }) :=
  .trans (Quiet.filter f s h).once (quiets_requestWriteBack _)

theorem quiets_raiseFilter (f : FilterState) (s : State) : Quiets s (raiseFilter f s) := by
  unfold raiseFilter
  split
  · exact .refl
  · exact quiets_filter_writeBack _ s (.inl (by rfl))

theorem quiets_filterByLoad (s : State) : Quiets s (filterByLoad s) := by
  unfold filterByLoad
  split
  · exact quiets_raiseFilter _ s
  · split
    · split
      · exact quiets_raiseFilter _ s
      · exact .refl
    · exact .refl

theorem quiets_probeResult (sp : Nat) (s : State) : Quiets s (probeResult sp s) := by
  unfold probeResult
  split
  · exact quiets_filter_writeBack _ s (.inr (Nat.zero_le _))
  · exact .trans (Quiet.filter _ s (.inr (Nat.zero_le _))).once (quiets_filterByLoad _)

theorem quiets_judgeHalf (r : HalfRecord) (s : State) : Quiets s (judgeHalf r s) := by
  unfold judgeHalf
  split
  · split
    · exact (Quiet.filter _ s (.inr (Nat.zero_le _))).once
    · exact (Quiet.drop s).once
  · split
    · exact quiets_probeResult _ s
    · exact (Quiet.drop s).once
  · exact (Quiet.drop s).once
  · exact (Quiet.drop s).once
  · exact .refl

theorem quiets_filterTakesRecord (r : HalfRecord) (s : State) : Quiets s (filterTakesRecord r s) := by
  unfold filterTakesRecord
  split
  · exact .trans (Quiet.lift s).once (quiets_judgeHalf r _)
  · exact .refl

theorem quiets_takeSpeedReading (s : State) : Quiets s (takeSpeedReading s) := by
  unfold takeSpeedReading
  split
  · refine (Quiet.filter _ s (.inr ?_)).once
    simp only [List.length_drop]
    omega
  · exact .refl

theorem hourPassed_speeds (f : FilterRec) : (hourPassed f).speeds = f.speeds := by
  unfold hourPassed hourToProbe
  dsimp only
  split <;> rfl

theorem quiets_runHour (s : State) : Quiets s (runHour s) := by
  unfold runHour
  split
  · exact .refl
  · dsimp only
    split
    · exact quiets_filter_writeBack _ s (.inl (hourPassed_speeds _))
    · exact (Quiet.filter _ s (.inl (hourPassed_speeds _))).once

theorem quiets_countRunSecond (s : State) : Quiets s (countRunSecond s) := by
  unfold countRunSecond
  split
  · exact .refl
  · split
    · exact (Quiet.filter _ s (.inl (by rfl))).once
    · exact .trans (Quiet.filter _ s (.inl (by rfl))).once (quiets_runHour _)

theorem quiets_resetFilter (s : State) : Quiets s (resetFilter s) := by
  unfold resetFilter
  exact .trans (quiets_abandonProbe s) (quiets_filter_writeBack _ _ (.inl (by rfl)))

/-! ## The frost guard's own record -/

theorem quiets_clearContention (s : State) : Quiets s (clearContention s) :=
  (Quiet.frost _ s (by rfl) (by rfl) (.inl (by rfl))).once

theorem quiets_leaveDefrost (s : State) : Quiets s (leaveDefrost s) :=
  .trans (Quiet.notice .leave false s).once (Quiet.frost _ _ (by rfl) (by rfl) (.inr (by rfl))).once

theorem quiets_startLockout (s : State) : Quiets s (startLockout s) :=
  (Quiet.frost _ s (by rfl) (by rfl) (.inl (by rfl))).once

theorem quiets_clearBlindDefrost (s : State) : Quiets s (clearBlindDefrost s) :=
  (Quiet.frost _ s (by rfl) (by rfl) (.inl (by rfl))).once

/-- A contention is given up from a stage other than DEFROSTING. -/
theorem quiets_withdraw (st : FrostStage) (s : State) (h : s.frost.stage ≠ .defrosting) : Quiets s (withdraw st s) := by
  refine .trans (Quiet.notice .withdraw false s).once (.trans (quiets_clearContention _) (Quiet.stage _ _ ?_).once)
  exact fun he => absurd he h

theorem quiets_frostOnStopped (s : State) : Quiets s (frostOnStopped s) := by
  unfold frostOnStopped
  split
  case h_1 h => exact quiets_withdraw _ s (by simp [h])
  case h_2 =>
    refine .trans (quiets_leaveDefrost s) (.trans (quiets_startLockout _) (Quiet.stage _ _ ?_).once)
    exact fun _ => rfl
  case h_3 =>
    split
    · exact .trans (Quiet.notice .leave false s).once (quiets_clearBlindDefrost _)
    · exact .refl
  case h_4 => exact .refl

theorem quiets_defrostOnSequencer (old : SeqState) (s : State) (h : s.frost.stage = .defrosting) :
    Quiets s (defrostOnSequencer old s) := by
  unfold defrostOnSequencer
  split
  case isTrue hstate => exact (Quiet.melt _ s h (.inl hstate.1)).once
  case isFalse =>
    split
    · exact .trans (quiets_leaveDefrost s) (Quiet.stage _ _ (fun _ => rfl)).once
    · split
      · exact (Quiet.frost _ s (by rfl) (by rfl) (.inr (by rfl))).once
      · exact .refl

theorem quiets_frostOnSequencer (old : SeqState) (s : State) : Quiets s (frostOnSequencer old s) := by
  unfold frostOnSequencer
  split
  · exact quiets_frostOnStopped s
  · split
    case isTrue h => exact quiets_defrostOnSequencer old s h
    case isFalse => exact .refl

/-! ## The humidity monitor -/

theorem quiets_leaveBoost_seeding (s : State) (h : s.humid.state ≠ .disabled) : Quiets s (leaveBoost .seeding s) := by
  unfold leaveBoost
  split
  case isTrue hb => exact (Quiet.endBoost .seeding s (by decide) hb).once
  case isFalse hb => exact (Quiet.humid _ s (by simp [h]) (fun he => absurd he hb)).once

/-- A change of the monitor's record that keeps its state. -/
theorem quiets_humid_same_state (h : HumidRec) (s : State) (hstate : h.state = s.humid.state) :
    Quiets s { s with humid := h } :=
  (Quiet.humid h s (by rw [hstate]) (fun hb => by rw [hstate, hb])).once

theorem quiets_reseed (s : State) (h : s.humid.state ≠ .disabled) : Quiets s (reseed s) :=
  .trans (quiets_leaveBoost_seeding s h) (quiets_humid_same_state _ _ (by rfl))

theorem quiets_humidOnRest (s : State) : Quiets s (humidOnRest s) := by
  unfold humidOnRest
  split
  case h_1 => exact .refl
  case h_2 h => exact .trans (Quiet.endBoost .rearming s (by decide) h).once (quiets_humid_same_state _ _ (by rfl))
  case h_3 => exact quiets_humid_same_state _ s (by rfl)

theorem quiets_humidOnStopped (s : State) : Quiets s (humidOnStopped s) := by
  unfold humidOnStopped
  split
  case isTrue => exact .refl
  case isFalse h => exact quiets_reseed s h

theorem quiets_humidOnSequencer (old : SeqState) (s : State) : Quiets s (humidOnSequencer old s) := by
  have hleft : Quiets s (if old = .rest ∧ s.seq.state ≠ .rest then
      { s with humid := { s.humid with nextRestCheck := none } } else s) := by
    split
    · exact quiets_humid_same_state _ s (by rfl)
    · exact .refl
  unfold humidOnSequencer
  dsimp only
  split
  · exact hleft.trans (quiets_humidOnRest _)
  · split
    · exact hleft.trans (quiets_humidOnStopped _)
    · exact hleft

theorem quiets_humidOnListenEnd (s : State) : Quiets s (humidOnListenEnd s) := by
  unfold humidOnListenEnd
  split
  case isTrue => exact .refl
  case isFalse h => exact .trans (quiets_reseed s h) (quiets_humid_same_state _ _ (by rfl))

theorem quiets_humidOnDeepExit (s : State) : Quiets s (humidOnDeepExit s) := by
  unfold humidOnDeepExit
  split
  case h_1 => exact .refl
  case h_2 => exact quiets_humid_same_state _ s (by rfl)
  case h_3 hd hb => exact (Quiet.humid _ s (by simpa using hd) (fun h => absurd h hb)).once

theorem quiets_boostRecord (ah : Nat) (rh : Int) (s : State) (h : s.humid.state = .boosting) :
    Quiets s (boostRecord ah rh s) := by
  unfold boostRecord
  dsimp only
  split
  · refine (Quiet.endBoost _ s ?_ h).once
    unfold restingState
    split <;> decide
  · exact quiets_humid_same_state _ s (by rfl)

theorem quiets_rearmRecord (ah : Nat) (rh : Int) (s : State) (h : s.humid.state = .rearming) :
    Quiets s (rearmRecord ah rh s) := by
  have hwatch (b : Option Nat) : Quiets s { s with humid := { s.humid with state := .watching, baseline := b } } :=
    (Quiet.humid _ s (by simp [h]) (by simp [h])).once
  unfold rearmRecord
  split <;> split
  · exact hwatch _
  · exact .refl
  · exact hwatch _
  · exact .refl

theorem quiets_humidRecord (ah : Nat) (rh : Int) (s : State) : Quiets s (humidRecord ah rh s) := by
  unfold humidRecord
  split
  case h_1 => exact .refl
  case h_2 h => exact (Quiet.humid _ s (by simp [h]) (by simp [h])).once
  case h_3 h =>
    split
    · unfold watchRecord
      split
      · exact (Quiet.startBoost s (.inr h)).once
      · exact quiets_humid_same_state _ s (by rfl)
    · exact quiets_humid_same_state _ s (by rfl)
  case h_4 h => exact quiets_boostRecord ah rh s h
  case h_5 h => exact quiets_rearmRecord ah rh s h

theorem quiets_humidTakesRecord (r : HalfRecord) (s : State) : Quiets s (humidTakesRecord r s) := by
  unfold humidTakesRecord
  split
  · split
    · exact quiets_humidRecord _ _ s
    · exact .refl
  · exact .refl

/-! ## The change of the sequencer's record, told to the blocks -/

theorem quiets_notify (old : SeqState) (s : State) : Quiets s (notify old s) :=
  .trans (quiets_frostOnSequencer old s) (.trans (quiets_filterOnSequencer _) (quiets_humidOnSequencer old _))

/-! ## The climate front end -/

theorem reformBand_keeps (t : Int) (c : ClimateRec) :
    (reformBand t c).inner = c.inner ∧ (reformBand t c).outer = c.outer ∧ (reformBand t c).humidity = c.humidity
    ∧ (reformBand t c).ring = c.ring ∧ (reformBand t c).window = c.window := by
  unfold reformBand
  split <;> exact ⟨rfl, rfl, rfl, rfl, rfl⟩

/-- A change of the climate record that keeps channels, ring and window. -/
theorem quiets_climate_same (c : ClimateRec) (s : State) (hi : c.inner = s.climate.inner)
    (ho : c.outer = s.climate.outer) (hh : c.humidity = s.climate.humidity) (hr : c.ring = s.climate.ring)
    (hw : c.window = s.climate.window) : Quiets s { s with climate := c } :=
  (Quiet.climate c s ⟨by rw [hi], by rw [ho], by rw [hh]⟩ (.inr (by rw [hr])) (.inr hw)).once

theorem quiets_evaluateOutdoor (s : State) : Quiets s (evaluateOutdoor s) := by
  unfold evaluateOutdoor
  dsimp only
  split
  · split
    · exact .refl
    · obtain ⟨hi, ho, hh, hr, hw⟩ := reformBand_keeps _ { s.climate with outdoor := outdoorNow s }
      exact quiets_climate_same _ s hi ho hh hr hw
  · exact quiets_climate_same _ s (by rfl) (by rfl) (by rfl) (by rfl) (by rfl)

theorem quiets_outdoorTakesRecord (r : HalfRecord) (s : State) : Quiets s (outdoorTakesRecord r s) := by
  unfold outdoorTakesRecord
  split
  · exact .trans (quiets_climate_same _ s (by rfl) (by rfl) (by rfl) (by rfl) (by rfl)) (quiets_evaluateOutdoor _)
  · exact .refl

theorem ringWith_length (r : HalfRecord) (ring : List HalfRecord) : (ringWith r ring).length ≤ 4 := by
  simp only [ringWith, List.length_drop, List.length_append, List.length_singleton]
  omega

theorem quiets_openCollection (s : State) : Quiets s (openCollection s) :=
  (Quiet.climate _ s ⟨by rfl, by rfl, by rfl⟩ (.inr (by exact le_rfl)) (.inl (by exact Nat.zero_le _))).once

theorem quiets_closeCollection (s : State) : Quiets s (closeCollection s) :=
  (Quiet.climate _ s ⟨by rfl, by rfl, by rfl⟩ (.inr (by exact le_rfl)) (.inl (by exact Nat.zero_le _))).once

theorem quiets_closeRecord (r : HalfRecord) (s : State) : Quiets s (closeRecord r s) :=
  .trans (Quiet.climate _ s ⟨by rfl, by rfl, by rfl⟩ (.inl (ringWith_length r _)) (.inr (by rfl))).once (quiets_openCollection _)

theorem quiets_spoilRing (s : State) : Quiets s (spoilRing s) :=
  (Quiet.climate _ s ⟨by rfl, by rfl, by rfl⟩ (.inr (by simp)) (.inr (by rfl))).once

theorem quiets_recordSample (x : SampleSet) (s : State) : Quiets s (recordSample x s) := by
  refine Relation.ReflTransGen.single (Quiet.climate _ s ⟨by rfl, by rfl, by rfl⟩ (.inr (by exact le_rfl)) ?_)
  dsimp only
  split
  · refine .inl ?_
    simp only [List.length_drop]
    omega
  · exact .inr rfl

theorem quiets_onInner (x : FaultChange) (s : State) : Quiets s (onInner x s) := by
  unfold onInner
  split
  · exact .trans (quiets_spoilRing s) (quiets_abandonProbe _)
  · exact .refl

theorem quiets_enterBlind (s : State) : Quiets s (enterBlind s) := by
  unfold enterBlind
  split
  case h_4 h => exact quiets_withdraw _ s (by simp [h])
  case h_5 h =>
    exact .trans (Quiet.frost _ s (by rfl) (by rfl) (.inl (by rfl))).once (Quiet.stage _ _ (by simp [h])).once
  case h_6 h => exact .trans (Quiet.frost _ s (by rfl) (by rfl) (.inr (by rfl))).once (Quiet.stage _ _ (fun _ => rfl)).once
  case h_7 => exact .refl
  all_goals rename_i h; exact (Quiet.stage _ s (by simp [h])).once

/-! ## The line interface and the local controls -/

theorem collide_eq (e : Time) (x : Transmission) (s : State) :
    ∃ l c, collide e x s = { s with line := l, ctl := c } ∧ l.active = s.line.active ∧ c.amber = s.ctl.amber
      ∧ c.green = s.ctl.green := by
  unfold collide
  dsimp only
  split
  · exact ⟨_, _, rfl, rfl, rfl, rfl⟩
  · exact ⟨_, s.ctl, rfl, rfl, rfl, rfl⟩

theorem quiets_takeCollision (e : Time) (s : State) : Quiets s (takeCollision e s) := by
  unfold takeCollision
  split
  case h_1 x _ =>
    obtain ⟨l, c, heq, hactive, hlamps⟩ := collide_eq e x s
    rw [heq]
    exact .trans (Quiet.line l s hactive).once (Quiet.ctl c { s with line := l } hlamps).once
  case h_2 => exact .refl

theorem quiets_loseContention (h : Byte) (s : State) : Quiets s (loseContention h s) := by
  unfold loseContention
  split
  · exact (Quiet.line _ s (by rfl)).once
  · exact .refl

theorem quiets_startFrame (s : State) : Quiets s (startFrame s) := by
  unfold startFrame
  split
  · exact (Quiet.line _ s (by rfl)).once
  · exact .refl

theorem setSlot_active (l : LineRec) (k : FrameKind) (v : Slot) : (l.setSlot k v).active = l.active := by
  cases k <;> rfl

theorem afterSending_active (l : LineRec) (x : Transmission) : (l.afterSending x).active = l.active := by
  unfold LineRec.afterSending LineRec.sent
  dsimp only
  split
  · exact setSlot_active l _ _
  · rw [← setSlot_active l x.kind Slot.empty]
    cases x.kind <;> rfl

theorem quiets_reportSent (x : Transmission) (s : State) : Quiets s (reportSent x s) := by
  unfold reportSent
  split
  · unfold noticeSent
    dsimp only
    split
    · exact (Quiet.frost _ s (by rfl) (by rfl) (.inl (by rfl))).once
    · exact .refl
  · exact (Quiet.line _ s (by rfl)).once
  · exact .refl
  · exact .refl

theorem quiets_completeFrame (s : State) : Quiets s (completeFrame s) := by
  unfold completeFrame
  split
  case h_1 x _ => exact .trans (Quiet.line _ s (afterSending_active _ x)).once (quiets_reportSent x _)
  case h_2 => exact .refl

theorem quiets_emptyAssembly (n : Nat) (s : State) : Quiets s (emptyAssembly n s) := (Quiet.line _ s (by rfl)).once

theorem quiets_hearOwnIndex (s : State) : Quiets s (hearOwnIndex s) := (Quiet.ctl _ s ⟨by rfl, by rfl⟩).once

theorem quiets_queueMode (s : State) : Quiets s (queueMode s) := (Quiet.line _ s (by rfl)).once

theorem quiets_queueBoost (b : BoostCall) (s : State) : Quiets s (queueBoost b s) := (Quiet.line _ s (by rfl)).once

theorem quiets_setBoostStage (g : GestureStage) (o : Option Time) (s : State) : Quiets s (setBoostStage g o s) :=
  (Quiet.ctl _ s ⟨by rfl, by rfl⟩).once

theorem quiets_setFilterStage (g : GestureStage) (o : Option Time) (s : State) : Quiets s (setFilterStage g o s) :=
  (Quiet.ctl _ s ⟨by rfl, by rfl⟩).once

theorem quiets_setLevel (c : ControlLine) (v : Level) (s : State) : Quiets s (setLevel c v s) :=
  (Quiet.ctl _ s ⟨by rfl, by rfl⟩).once

theorem quiets_filterLevel (v : Level) (s : State) : Quiets s (filterLevel v s) := by
  unfold filterLevel
  split
  · exact quiets_setFilterStage _ _ s
  · exact quiets_setFilterStage _ _ s
  · exact quiets_setFilterStage _ _ s
  · exact quiets_setFilterStage _ _ s
  · exact .refl

theorem quiets_toggleLocalBoost (s : State) : Quiets s (toggleLocalBoost s) := by
  unfold toggleLocalBoost
  split
  · exact (Quiet.remove _ _ s).once
  · exact (Quiet.push _ s (by simp)).once

theorem quiets_toggleHouseBoost (s : State) : Quiets s (toggleHouseBoost s) := by
  unfold toggleHouseBoost
  split
  · exact .trans (Quiet.remove _ _ s).once (quiets_queueBoost _ _)
  · exact .trans (Quiet.push _ s (by simp)).once (quiets_queueBoost _ _)

theorem quiets_takeFilterReset (s : State) : Quiets s (takeFilterReset s) :=
  .trans (quiets_setFilterStage _ _ s) (quiets_resetFilter _)

end Sys2Proof.Proofs

/-! The acts of every command: the quiet ones and the motions of the sequencer, the drive, the clock and the peer table;
and that the effects of the commands are made of them. An invariant of all acts is one of all these effects. -/

namespace Sys2Proof.Proofs

open Sys2Proof.Machine

/-- SUPPLY, EXTRACT, DEFROST or THROUGH. -/
def drives : SeqState → Bool
  | .supply | .extract | .defrost | .through => true
  | _ => false

/-- One act of a command. With `own` set the acts are allowed too by which a command itself recomputes or asks for a
STATUS (a half boundary, the end of STARTING, the end of the status period). -/
inductive Act (own : Bool) : State → State → Prop
  | quiet {s s' : State} (h : Quiet s s') : Act own s s'
  | note (q : SeqRec) (s : State) (hstate : q.state = s.seq.state) (hphase : q.phase = s.seq.phase)
      (htarget : q.target = s.seq.target) (hstart : q.phaseStart = s.seq.phaseStart)
      (hsettling : q.settling ≤ 2 ∨ q.settling ≤ s.seq.settling)
      (hhistory : q.stallHistory.length ≤ s.seq.stallHistory.length) : Act own s { s with seq := q }
  | reverse (g : Target) (s : State) (h : drives s.seq.state = true ∨ s.seq.state = .rest ∨ s.seq.state = .paused) :
      Act own s (beginReversing g s)
  | direct (st : SeqState) (s : State) (h : drives s.seq.state = true) (hst : drives st = true) :
      Act own s (enterDirect st s)
  | retarget (g : Target) (s : State) (h : s.seq.state = .reversing) : Act own s (retarget g s)
  | rest (s : State) (h : drives s.seq.state = true ∨ s.seq.state = .paused) : Act own s (enterRest s)
  | complete (g : Target) (s : State) (hstate : s.seq.state = .reversing) (hphase : s.seq.phase = some .spinup)
      (htarget : s.seq.target = some g) :
      Act own s
        (changeSeq { s.seq with state := g.state, phase := none, target := none, phaseStart := none } (endHold s))
  | stall (w : Option Time) (s : State) (h : s.seq.moving = true) (hw : w = s.fan.stallWatch ∨ w = none) :
      Act own s (takeStall { s with fan := { s.fan with stallWatch := w } })
  | switch (g : Target) (s : State) (hstate : s.seq.state = .reversing) (hphase : s.seq.phase = some .rundown)
      (htarget : s.seq.target = some g) : Act own s (enterSwitch g s)
  | endHold (s : State) : Act own s (endHold s)
  | release (s : State) (h : s.seq.state = .stopped) : Act own s (release s)
  | cycle (s : State) (h : s.seq.state = .listen) : Act own s (startCycling s)
  | starting (c : ConfigRecord) (raw : LineLevels) (s : State) (hown : own = true) (h : s.seq.state = .starting)
      (hc : s.loader.config = some c) : Act own s (endStarting c raw s)
  | capture (s : State) : Act own s (capture s)
  | overflow (s : State) : Act own s (overflow s)
  | unwatch (s : State) (h : s.seq.moving = false) : Act own s { s with fan := { s.fan with stallWatch := none } }
  | advanceClock (len : Nat) (e : Time) (s : State) (h : s.clock.running = true)
      (hlen : len = nextLength s ∨ lengthInRange len) : Act own s (advanceClock len e s)
  | align (k : ClockRec) (s : State) (h : s.clock.running = true) (hrun : k.running = true)
      (href : k.reference = s.clock.reference) (hend : k.endTime.isSome = true ∨ k.endTime = s.clock.endTime)
      (hstart : k.startTime.isSome = true ∨ k.startTime = s.clock.startTime)
      (hlen : lengthInRange k.length ∨ k.length = s.clock.length)
      (hheard : (∀ n ∈ k.heardLength, lengthInRange n) ∨ k.heardLength = s.clock.heardLength) :
      Act own s { s with clock := k }
  | peer (r : PeerRec) (s : State) (hlow : 1 ≤ r.number) (hhigh : r.number ≤ 16) (hown : r.number ≠ ownNumber s)
      (hlen : ∀ x ∈ r.status, lengthInRange x.halfLength ∨ ∃ p ∈ s.peers, p.status = some x) :
      Act own s (reformReference (putPeer r s))
  | stale (n : Nat) (s : State) :
      Act own s (reformReference (updatePeer n (fun x => { x with fresh := false }) s))
  | removed (n : Nat) (s : State) :
      Act own s (reformReference { s with peers := s.peers.filter (fun x => x.number ≠ n) })
  | fallback (n : Nat) (s : State) :
      Act own s (updatePeer n
        (fun x => { x with defrost := x.defrost.map (fun d => { d with standing := .none }) }) s)
  | house (h : HouseMode) (s : State) : Act own s (setHouse h s)
  | lineState (l : LineRec) (s : State) : Act own s (reformReference { s with line := l })
  | config (r : Option (List Byte)) (s : State) (hstate : s.seq.state = .starting) : Act own s (takeConfig r s)
  | closing (s : State) (hown : own = true) : Act own s (closeBoundary s)
  | status (mark : Bool) (s : State) (hown : own = true) : Act own s (requestStatus mark s)

/-- Some acts, one after another. -/
abbrev Acts (own : Bool) : State → State → Prop := Relation.ReflTransGen (Act own)

variable {own : Bool}

theorem Act.once {s s' : State} (h : Act own s s') : Acts own s s' := .single h

theorem acts_of_quiets {s s' : State} (h : Quiets s s') : Acts own s s' := by
  induction h with
  | refl => exact .refl
  | tail _ hlast ih => exact ih.tail (.quiet hlast)

/-- An invariant of every act is one of some acts, one after another. -/
theorem Acts.keep {inv : State → Prop} (hact : ∀ s s', Act own s s' → inv s → inv s') {s s' : State}
    (h : Acts own s s') (hs : inv s) : inv s' := by
  induction h with
  | refl => exact hs
  | tail _ hlast ih => exact hact _ _ hlast ih

/-- The same for the quiet acts. -/
theorem Quiets.keep {inv : State → Prop} (hact : ∀ s s', Quiet s s' → inv s → inv s') {s s' : State}
    (h : Quiets s s') (hs : inv s) : inv s' := by
  induction h with
  | refl => exact hs
  | tail _ hlast ih => exact hact _ _ hlast ih

/-! ## Small facts about the record -/

@[simp] theorem changeSeq_seq (q : SeqRec) (s : State) : (changeSeq q s).seq = q := by
  simp [changeSeq]

@[simp] theorem setStage_stage (st : FrostStage) (s : State) : (setStage st s).frost.stage = st := by
  unfold setStage
  dsimp only
  split <;> simp

theorem drives_moving {q : SeqRec} (h : drives q.state = true) : q.moving = true := by
  unfold SeqRec.moving
  cases hs : q.state <;> simp_all [drives]

theorem drives_target (g : Target) : drives g.state = true := by cases g <;> rfl

theorem drives_dir (d : Dir) : drives d.state = true := by cases d <;> rfl

/-- A note in the sequencer's record that leaves the settling count and the history. -/
theorem acts_note (q : SeqRec) (s : State) (hstate : q.state = s.seq.state) (hphase : q.phase = s.seq.phase)
    (htarget : q.target = s.seq.target) (hstart : q.phaseStart = s.seq.phaseStart)
    (hsettling : q.settling = s.seq.settling) (hhistory : q.stallHistory = s.seq.stallHistory) :
    Acts own s { s with seq := q } :=
  (Act.note q s hstate hphase htarget hstart (.inr hsettling.le) (by rw [hhistory])).once

/-! ## The sequencer -/

theorem acts_restExit (s : State) : Acts own s (restExit s) := by
  unfold restExit
  split
  · exact acts_note _ s (by rfl) (by rfl) (by rfl) (by rfl) (by rfl) (by rfl)
  · exact .refl

theorem acts_wake (s : State) : Acts own s (wake s) := acts_restExit s

theorem acts_offToggle (s : State) : Acts own s (offToggle s) := by
  have hnote (b : Bool) : Acts own s { s with seq := { s.seq with restHeld := b } } :=
    acts_note _ s (by rfl) (by rfl) (by rfl) (by rfl) (by rfl) (by rfl)
  unfold offToggle
  split
  · split
    · exact acts_restExit s
    · exact acts_note _ s (by rfl) (by rfl) (by rfl) (by rfl) (by rfl) (by rfl)
  · exact .refl
  · split
    · exact hnote false
    · split
      case h_1 h => exact (Act.rest s (.inl (by simp [h, drives]))).once
      case h_2 h => exact (Act.rest s (.inl (by simp [h, drives]))).once
      case h_3 h => exact (Act.rest s (.inl (by simp [h, drives]))).once
      case h_4 h => exact (Act.rest s (.inr h)).once
      case h_5 => exact hnote true

theorem acts_completeReversal (g : Target) (s : State) (hstate : s.seq.state = .reversing)
    (hphase : s.seq.phase = some .spinup) (htarget : s.seq.target = some g) :
    Acts own s (completeReversal g s) := by
  have hpassed := (Act.complete (own := own) g s hstate hphase htarget).once
  have htold (x : State) : Acts own x
      (filterOnCompletion g { x with climate := { x.climate with lastCompletion := some s.now } }) :=
    acts_of_quiets (.trans (quiets_climate_same _ x (by rfl) (by rfl) (by rfl) (by rfl) (by rfl))
      (quiets_filterOnCompletion g _))
  unfold completeReversal
  dsimp only
  split
  · exact (hpassed.trans (htold _)).trans (Act.rest _ (.inl (by simp [drives_target]))).once
  · exact hpassed.trans (htold _)

theorem acts_completeAtSpeed (s : State) : Acts own s (completeAtSpeed s) := by
  unfold completeAtSpeed
  split
  case h_1 g hstate hphase htarget =>
    split
    · exact acts_completeReversal g s hstate hphase htarget
    · exact .refl
  case h_2 => exact .refl

theorem acts_endRundown (s : State) : Acts own s (endRundown s) := by
  unfold endRundown
  split
  case h_1 g hstate hphase htarget =>
    split
    · exact (Act.switch g s hstate hphase htarget).once
    · exact .refl
  case h_2 => exact .refl

theorem acts_reversalOnSpeed (s : State) : Acts own s (reversalOnSpeed s) :=
  .trans (acts_endRundown s) (acts_completeAtSpeed _)

theorem acts_takeDefrostOrder (s : State) : Acts own s (takeDefrostOrder s) := by
  unfold takeDefrostOrder
  split
  case h_1 h => exact (Act.direct _ s (by simp [h, drives]) rfl).once
  case h_2 h => exact (Act.reverse _ s (.inl (by simp [h, drives]))).once
  case h_3 h =>
    split
    · exact (Act.direct _ s (by simp [h, drives]) rfl).once
    · exact (Act.reverse _ s (.inl (by simp [h, drives]))).once
  case h_4 h => exact (Act.retarget _ s h).once
  case h_5 => exact acts_note _ s (by rfl) (by rfl) (by rfl) (by rfl) (by rfl) (by rfl)
  case h_6 => exact .refl

theorem acts_takeDefrostEnd (s : State) : Acts own s (takeDefrostEnd s) := by
  unfold takeDefrostEnd
  split
  case h_1 h =>
    have hd : drives s.seq.state = true := by simp [h, drives]
    split
    · exact (Act.rest s (.inl hd)).once
    · split
      · exact (Act.direct _ s hd rfl).once
      · exact (Act.reverse _ s (.inl hd)).once
  case h_2 h =>
    split
    · exact (Act.retarget _ s h).once
    · exact .refl
  case h_3 => exact acts_note _ s (by rfl) (by rfl) (by rfl) (by rfl) (by rfl) (by rfl)
  case h_4 => exact .refl

theorem acts_sequencerOnNotice (d : Dir) (s : State) : Acts own s (sequencerOnNotice d s) := by
  unfold sequencerOnNotice
  split
  case h_1 h => exact (Act.reverse _ s (.inl (by simp [h, drives]))).once
  case h_2 h => exact (Act.reverse _ s (.inl (by simp [h, drives]))).once
  case h_3 h =>
    split
    · exact (Act.retarget _ s h).once
    · exact (Act.retarget _ s h).once
    · exact .refl
  case h_4 => exact .refl

theorem acts_settleAtBoundary (s : State) : Acts own s (settleAtBoundary s) := by
  refine (Act.note _ s (by rfl) (by rfl) (by rfl) (by rfl) ?_ (by exact le_rfl)).once
  dsimp only
  split
  · exact .inl le_rfl
  · exact .inr (Nat.sub_le _ _)

theorem acts_rejoinAtBoundary (s : State) (h : s.seq.state = .rest) : Acts own s (rejoinAtBoundary s) := by
  unfold rejoinAtBoundary
  split
  case h_1 => exact .refl
  case h_2 r _ =>
    have hnote : Acts own s { s with seq := { s.seq with rejoin := none, restStart := none } } :=
      acts_note _ s (by rfl) (by rfl) (by rfl) (by rfl) (by rfl) (by rfl)
    have hreverse (g : Target) : Acts own s
        (beginReversing g { s with seq := { s.seq with rejoin := none, restStart := none } }) :=
      hnote.trans (Act.reverse g _ (.inr (.inl (by exact h)))).once
    dsimp only
    split
    · exact (hreverse _).trans (acts_of_quiets (quiets_humidOnDeepExit _))
    · exact hreverse _

theorem acts_cycleAtBoundary (d : Dir) (s : State) (h : drives s.seq.state = true) :
    Acts own s (cycleAtBoundary d s) := by
  unfold cycleAtBoundary
  split
  · split
    · exact (Act.direct _ s h rfl).once
    · exact (Act.reverse _ s (.inl h)).once
  · split
    · exact .refl
    · exact (Act.reverse _ s (.inl h)).once

theorem acts_sequencerAtBoundary (s : State) : Acts own s (sequencerAtBoundary s) := by
  unfold sequencerAtBoundary
  split
  case h_1 h => exact acts_cycleAtBoundary _ s (by simp [h, drives])
  case h_2 h => exact acts_cycleAtBoundary _ s (by simp [h, drives])
  case h_3 h =>
    split
    · exact (Act.retarget _ s h).once
    · exact (Act.retarget _ s h).once
    · split
      · exact (Act.retarget _ s h).once
      · exact .refl
    · exact .refl
  case h_4 h =>
    have hd : drives s.seq.state = true := by simp [h, drives]
    split
    · split
      · exact (Act.direct _ s hd (drives_dir _)).once
      · exact (Act.reverse _ s (.inl hd)).once
    · exact .refl
  case h_5 h => exact acts_rejoinAtBoundary s h
  case h_6 => exact .refl

theorem acts_endPause (s : State) (h : s.seq.state = .paused) : Acts own s (endPause s) := by
  have hnote : Acts own s { s with seq := { s.seq with pauseEnd := none, defrostResume := false } } :=
    acts_note _ s (by rfl) (by rfl) (by rfl) (by rfl) (by rfl) (by rfl)
  exact hnote.trans (Act.reverse _ _ (.inr (.inr (by exact h)))).once

/-! ## The frost guard -/

theorem acts_withdraw (st : FrostStage) (s : State) (h : s.frost.stage ≠ .defrosting) : Acts own s (withdraw st s) :=
  acts_of_quiets (quiets_withdraw st s h)

/-- A change of stage from another one than DEFROSTING. -/
theorem acts_setStage (st : FrostStage) (s : State) (h : s.frost.stage ≠ .defrosting) : Acts own s (setStage st s) :=
  acts_of_quiets (Quiet.stage st s (fun he => absurd he h)).once

/-- A change of the frost guard's record that keeps account, stage and melt step. -/
theorem acts_frost (f : FrostRec) (s : State) (hstage : f.stage = s.frost.stage)
    (haccount : f.account = s.frost.account) (hmelt : f.meltStepEnd = s.frost.meltStepEnd) :
    Acts own s { s with frost := f } := acts_of_quiets (Quiet.frost f s hstage haccount (.inl hmelt)).once

theorem acts_orderDefrost (s : State) (h : s.frost.stage ≠ .defrosting) : Acts own s (orderDefrost s) := by
  unfold orderDefrost
  split
  · exact acts_withdraw _ s h
  · refine .trans (acts_setStage .defrosting s h) (.trans (acts_of_quiets (quiets_clearContention _)) ?_)
    exact .trans (acts_frost _ _ (by rfl) (by rfl) (by rfl)) (acts_takeDefrostOrder _)

theorem acts_forcedTest (s : State) : Acts own s (forcedTest s) := by
  unfold forcedTest
  split
  case isTrue h =>
    have hstage : s.frost.stage ≠ .defrosting := by
      simp only [forcedHolds, Bool.and_eq_true, decide_eq_true_eq] at h
      exact h.1.1.2
    refine .trans (acts_of_quiets (.trans (Quiet.notice .enter true s).once (quiets_clearContention _))) ?_
    exact .trans (acts_frost _ _ (by rfl) (by rfl) (by rfl)) (acts_orderDefrost _ hstage)
  case isFalse => exact .refl

theorem acts_moveStage (st : FrostStage) (s : State) (h : s.frost.stage ≠ .defrosting) :
    Acts own s (moveStage st s) := by
  unfold moveStage
  split
  · exact .refl
  · exact .trans (acts_setStage st s h) (acts_forcedTest _)

theorem acts_contend (s : State) (h : s.frost.stage ≠ .defrosting) : Acts own s (contend s) := by
  refine .trans (acts_of_quiets (Quiet.notice .enter false s).once) ?_
  exact .trans (acts_frost _ _ (by rfl) (by rfl) (by rfl)) (acts_moveStage _ _ h)

theorem wantHolds_stage {s : State} (h : wantHolds s = true) : s.frost.stage = .limiting ∨ s.frost.stage = .deferred := by
  simp only [wantHolds, Bool.and_eq_true, Bool.or_eq_true, decide_eq_true_eq] at h
  exact h.1.1.2

theorem acts_wantTest (s : State) : Acts own s (wantTest s) := by
  unfold wantTest
  split
  case isTrue h =>
    have hstage : s.frost.stage ≠ .defrosting := by rcases wantHolds_stage h with e | e <;> simp [e]
    split
    · exact acts_orderDefrost s hstage
    · split
      · exact acts_contend s hstage
      · exact acts_moveStage _ s hstage
  case isFalse => exact .refl

theorem acts_reportPlace (freed : Bool) (s : State) : Acts own s (reportPlace freed s) := by
  unfold reportPlace
  split
  · exact acts_wantTest s
  · exact .refl

theorem acts_setAccount (a : Nat) (s : State) (h : a ≤ 4000 ∨ a ≤ s.frost.account) : Acts own s (setAccount a s) :=
  acts_of_quiets (Quiet.account a s h).once

theorem accountByRecord_le (a : Nat) (r : HalfRecord) : accountByRecord a r ≤ 4000 ∨ accountByRecord a r ≤ a := by
  unfold accountByRecord accountAfterRecord accountMax
  split
  · split
    · exact .inl (min_le_left _ _)
    · split
      · exact .inr le_rfl
      · exact .inr (Nat.sub_le _ _)
  · exact .inr le_rfl

theorem acts_frostTakesRecord (r : HalfRecord) (s : State) : Acts own s (frostTakesRecord r s) := by
  unfold frostTakesRecord
  split
  case isTrue h =>
    obtain ⟨-, -, hstage, -⟩ := h
    unfold frostRecord
    dsimp only
    split
    · refine .trans (acts_setAccount _ s (accountByRecord_le _ r)) ?_
      exact .trans (acts_moveStage _ _ hstage) (.trans (acts_forcedTest _) (acts_wantTest _))
    · split
      · exact .trans (acts_forcedTest s) (acts_wantTest _)
      · exact .refl
  case isFalse => exact .refl

theorem acts_frostAtBoundary (s : State) : Acts own s (frostAtBoundary s) := by
  unfold frostAtBoundary
  dsimp only
  split
  · exact .trans (acts_forcedTest s) (acts_wantTest _)
  · exact acts_forcedTest s

theorem acts_decideWindow (s : State) (h : s.frost.stage = .contending) : Acts own s (decideWindow s) := by
  have hstage : s.frost.stage ≠ .defrosting := by simp [h]
  have hfirst : Acts own s { s with frost := { s.frost with windowEnd := none } } :=
    acts_frost _ s (by rfl) (by rfl) (by rfl)
  unfold decideWindow
  dsimp only
  split
  · exact hfirst.trans (acts_withdraw _ _ hstage)
  · split
    · exact hfirst.trans (acts_orderDefrost _ hstage)
    · exact hfirst.trans (.trans (acts_withdraw _ _ hstage) (acts_forcedTest _))

theorem acts_endDefrost (st : FrostStage) (s : State) : Acts own s (endDefrost st s) :=
  .trans (acts_of_quiets (Quiet.endStage st s).once) (.trans (acts_takeDefrostEnd _) (acts_forcedTest _))

theorem accountAfterMeltStep_le (a : Nat) (m : Option Int) : accountAfterMeltStep a m ≤ a := by
  unfold accountAfterMeltStep
  split
  · split
    · exact Nat.sub_le _ _
    · exact le_rfl
  · exact le_rfl

theorem acts_closeStep (s : State) (h : s.frost.stage = .defrosting) : Acts own s (closeStep s) := by
  unfold closeStep
  split
  case h_1 e he =>
    have hstep : Acts own s (meltStep e s) :=
      .trans (acts_setAccount _ s (.inr (accountAfterMeltStep_le _ (stepMean s e))))
        (acts_of_quiets (Quiet.melt (e + seconds 10) _ (by exact h) (.inr (by exact he ▸ rfl))).once)
    unfold closeMeltStep
    dsimp only
    split
    · exact hstep.trans (.trans (acts_setAccount 0 _ (.inl (Nat.zero_le _))) (acts_endDefrost _ _))
    · exact hstep
  case h_2 => exact .refl

theorem acts_timeOutDefrost (s : State) : Acts own s (timeOutDefrost s) :=
  .trans (acts_of_quiets (quiets_startLockout s)) (acts_endDefrost _ _)

theorem acts_endBlindDefrost (s : State) : Acts own s (endBlindDefrost s) := by
  refine .trans (acts_setAccount 0 s (.inl (Nat.zero_le _))) ?_
  exact .trans (acts_of_quiets (.trans (Quiet.notice .leave false _).once (quiets_clearBlindDefrost _)))
    (acts_takeDefrostEnd _)

theorem acts_endLockout (s : State) (h : s.frost.stage = .lockout) : Acts own s (endLockout s) := by
  have hfirst : Acts own s { s with frost := { s.frost with lockoutEnd := none } } :=
    acts_frost _ s (by rfl) (by rfl) (by rfl)
  have hmove := hfirst.trans (acts_moveStage (own := own) (stageByAccount s.frost.account) _ (by simp [h]))
  unfold endLockout
  dsimp only
  split
  · exact hmove.trans (acts_wantTest _)
  · exact hmove

theorem acts_leaveBlind (s : State) : Acts own s (leaveBlind s) := by
  unfold leaveBlind
  split
  case isTrue h =>
    have hstage : s.frost.stage ≠ .defrosting := by simp [h]
    split
    · have hfirst : Acts own s (setStage .defrosting { s with frost := { s.frost with blindDefrost := false } }) :=
        .trans (acts_frost _ s (by rfl) (by rfl) (by rfl)) (acts_setStage _ _ hstage)
      dsimp only
      split
      case isTrue hstate =>
        exact hfirst.trans (acts_of_quiets (Quiet.melt _ _ (by simp) (.inl (by simpa using hstate))).once)
      case isFalse => exact hfirst
    · have hfirst : Acts own s (forcedTest (setStage (stageByAccount s.frost.account) s)) :=
        .trans (acts_setStage _ s hstage) (acts_forcedTest _)
      dsimp only
      split
      · exact hfirst.trans (acts_wantTest _)
      · exact hfirst
  case isFalse => exact .refl

theorem acts_frostOnLineRaised (s : State) : Acts own s (frostOnLineRaised s) := by
  unfold frostOnLineRaised
  split
  case isTrue h => exact acts_orderDefrost s (by simp [h.1])
  case isFalse => exact .refl

theorem acts_onOuter (x : FaultChange) (s : State) : Acts own s (onOuter x s) := by
  unfold onOuter
  split
  · refine .trans (acts_of_quiets (quiets_spoilRing s)) (acts_of_quiets (.trans ?_ (.trans (quiets_enterBlind _)
      (quiets_abandonProbe _))))
    exact quiets_climate_same _ _ (by rfl) (by rfl) (by rfl) (by rfl) (by rfl)
  · exact acts_leaveBlind s
  · exact .refl

/-! ## The half boundary and the alignment -/

theorem acts_sequencerBoundary (s : State) : Acts own s (sequencerBoundary s) :=
  .trans (acts_settleAtBoundary s) (.trans (acts_sequencerAtBoundary _)
    (acts_of_quiets (quiets_startTestAtBoundary _ _)))

theorem acts_handRecord (r : HalfRecord) (s : State) : Acts own s (handRecord r s) := by
  refine .trans (acts_of_quiets (.trans (quiets_closeRecord r s) (.trans (quiets_outdoorTakesRecord r _)
    (quiets_filterTakesRecord r _)))) ?_
  exact .trans (acts_frostTakesRecord _ _) (acts_of_quiets (quiets_humidTakesRecord _ _))

theorem acts_boundaryWith (len : Nat) (e : Time) (s : State) (hrun : s.clock.running = true)
    (hlen : len = nextLength s ∨ lengthInRange len) : Acts true s (boundaryWith len e s) := by
  refine .trans (Act.advanceClock len e s hrun hlen).once (.trans (acts_sequencerBoundary _) ?_)
  exact .trans (acts_handRecord _ _) (.trans (acts_frostAtBoundary _) (Act.closing _ rfl).once)

theorem acts_boundary (s : State) (hrun : s.clock.running = true) : Acts true s (boundary s) :=
  acts_boundaryWith _ _ s hrun (.inl rfl)

theorem acts_boundaryIfDue (s : State) : Acts true s (boundaryIfDue s) := by
  unfold boundaryIfDue
  split
  case isTrue h =>
    simp only [boundaryDue, Bool.and_eq_true] at h
    exact acts_boundary s h.1
  case isFalse => exact .refl

theorem acts_resync (p : StatusPart) (s : State) (hrun : s.clock.running = true) (hlen : lengthInRange p.halfLength) :
    Acts true s (resync p s) := by
  have hclock : Acts true s { s with clock := { s.clock with
      c := p.half, endTime := some p.endEstimate, length := p.halfLength, startTime := some s.now } } :=
    (Act.align _ s hrun (by exact hrun) (by rfl) (.inl (by rfl)) (.inl (by rfl)) (.inl (by exact hlen)) (.inr (by rfl))).once
  unfold resync
  dsimp only
  split
  · exact hclock.trans (acts_boundaryIfDue _)
  · exact hclock.trans (.trans (acts_sequencerOnNotice _ _) (.trans (acts_of_quiets (quiets_abandonProbe _))
      (acts_boundaryIfDue _)))

theorem acts_alignment (n : Nat) (p : StatusPart) (s : State) (hlen : lengthInRange p.halfLength) :
    Acts true s (alignment n p s) := by
  unfold alignment
  split
  case isTrue h =>
    obtain ⟨hrun, -⟩ := h
    have hheard : Acts true s { s with clock := { s.clock with heardLength := some p.halfLength } } :=
      (Act.align _ s hrun (by exact hrun) (by rfl) (.inr (by rfl)) (.inr (by rfl)) (.inr (by rfl))
        (.inl (by simpa using hlen))).once
    unfold alignTo
    dsimp only
    split
    · refine hheard.trans (.trans ?_ (acts_boundaryIfDue _))
      exact (Act.align _ _ (by exact hrun) (by exact hrun) (by rfl) (.inl (by rfl)) (.inr (by rfl)) (.inl (by exact hlen)) (.inr (by rfl))).once
    · split
      · exact hheard.trans (.trans (acts_boundaryWith _ _ _ hrun (.inr hlen)) (acts_boundaryIfDue _))
      · split
        · split
          · exact hheard.trans (acts_resync p _ hrun hlen)
          · exact hheard
        · exact hheard.trans (acts_resync p _ hrun hlen)
  case isFalse => exact .refl

/-! ## The peer table -/

theorem heardPeer_number (ps : List PeerRec) (n : Nat) (a : Time) : (heardPeer ps n a).number = n := by
  unfold heardPeer
  split
  case h_1 p h => simpa [findPeer] using List.find?_some h
  case h_2 => rfl

theorem heardPeer_status (ps : List PeerRec) (n : Nat) (a : Time) (x : StatusPart)
    (hx : x ∈ (heardPeer ps n a).status) : ∃ p ∈ ps, p.status = some x := by
  unfold heardPeer at hx
  split at hx
  case h_1 p h => exact ⟨p, List.mem_of_find?_eq_some h, hx⟩
  case h_2 => cases hx

theorem lengthInRange_heldLength (n : Nat) : lengthInRange (heldLength n) := by
  unfold heldLength clampNat lengthInRange
  split
  · omega
  · split <;> omega

theorem acts_weighOffer (o : Offer) (call : Bool) (s : State) : Acts own s (weighOffer o call s) := by
  unfold weighOffer
  dsimp only
  split
  · exact .trans (Act.house _ s).once (acts_wake _)
  · exact (Act.house _ s).once

theorem acts_heardBoost (bs : List Byte) (n : Nat) (s : State) : Acts own s (heardBoost bs n s) := by
  unfold heardBoost
  split
  · have hpush := acts_of_quiets (own := own) (Quiet.push ⟨.houseBoost, n, clampNat 40 100 (byteAt bs 2),
      some (s.now + minutes (clampNat 5 60 (byteAt bs 3)))⟩ s (by simp)).once
    dsimp only
    split
    · exact hpush.trans (acts_wake _)
    · exact hpush
  · exact acts_of_quiets (Quiet.remove _ _ s).once
  · exact .refl

/-- A frame of a station that is not the own one reaches the peer table. -/
theorem acts_enterFrame (bs : List Byte) (n : Nat) (arrival : Time) (s : State) (hlow : 1 ≤ n) (hhigh : n ≤ 16)
    (hother : n ≠ ownNumber s) : Acts true s (enterFrame bs n arrival s) := by
  have hput (r : PeerRec) (hr : r.number = n)
      (hlen : ∀ x ∈ r.status, lengthInRange x.halfLength ∨ ∃ p ∈ s.peers, p.status = some x) :
      Acts true s (reformReference (putPeer r s)) := (Act.peer r s (hr ▸ hlow) (hr ▸ hhigh) (hr ▸ hother) hlen).once
  have hheard := heardPeer_number s.peers n arrival
  have hsame := hput _ hheard (fun x hx => .inr (heardPeer_status s.peers n arrival x hx))
  unfold enterFrame
  split
  · unfold enterStatus
    dsimp only
    refine .trans (hput _ ?_ ?_) (.trans (acts_weighOffer _ _ _) (.trans (acts_reportPlace _ _)
      (acts_alignment _ _ _ (lengthInRange_heldLength _))))
    · exact hheard
    · rintro x ⟨⟩
      exact .inl (lengthInRange_heldLength _)
  · refine .trans (hput _ ?_ ?_) (acts_reportPlace _ _)
    · exact hheard
    · exact fun x hx => .inr (heardPeer_status s.peers n arrival x hx)
  · exact hsame.trans (acts_weighOffer _ _ _)
  · exact hsame.trans (acts_heardBoost _ _ _)
  · exact .refl

theorem frameIndex_lt (bs : List Byte) : frameIndex bs < 16 := Nat.mod_lt _ (by decide)

theorem acts_closeFrame (chars : List Byte) (stops : StopBits) (arrival : Time) (s : State) :
    Acts true s (closeFrame chars stops arrival s) := by
  have hempty := acts_of_quiets (own := true) (quiets_emptyAssembly (tailAfter (s.line.assembly ++ chars) stops) s)
  unfold closeFrame
  dsimp only
  split
  · unfold passFrame
    split
    case isTrue => exact hempty.trans (acts_of_quiets (quiets_hearOwnIndex _))
    case isFalse h =>
      have hlt := frameIndex_lt (s.line.assembly ++ chars)
      refine hempty.trans (acts_enterFrame _ _ _ _ (by omega) (by omega) ?_)
      simpa [ownNumber, emptyAssembly] using h
  · exact hempty

theorem acts_makeStale (p : PeerRec) (s : State) : Acts own s (makeStale p s) :=
  .trans (Act.stale p.number s).once (acts_reportPlace _ _)

theorem acts_removePeer (p : PeerRec) (s : State) : Acts own s (removePeer p s) :=
  .trans (Act.removed p.number s).once (.trans (acts_of_quiets (Quiet.remove _ _ _).once) (acts_reportPlace _ _))

theorem acts_fallBack (p : PeerRec) (s : State) : Acts own s (fallBack p s) :=
  .trans (Act.fallback p.number s).once (acts_reportPlace _ _)

theorem acts_ageingEvent {due : PeerRec → Time → Bool} {f : PeerRec → State → State}
    (h : ∀ p s, Acts own s (f p s)) (n : Nat) (s : State) : Acts own s (ageingEvent due f n s) := by
  rcases ageingEvent_cases due f n s with ⟨p, _, _, e⟩ | e
  · rw [e]
    exact h p s
  · rw [e]

/-! ## The local controls and the humidity monitor's commands -/

theorem acts_pressOf (length : Time) (s : State) : Acts own s (pressOf length s) := by
  have hgesture {x : State} (h : Acts own s x) : Acts own s (wakeByGesture x) := by
    unfold wakeByGesture
    split
    · exact h.trans (acts_wake x)
    · exact h
  unfold pressOf
  split
  · exact hgesture (acts_of_quiets (quiets_toggleLocalBoost s))
  · split
    · exact hgesture (acts_of_quiets (quiets_toggleHouseBoost s))
    · exact .refl

theorem acts_boostLevel (v : Level) (s : State) : Acts own s (boostLevel v s) := by
  unfold boostLevel
  split
  · exact acts_of_quiets (quiets_setBoostStage _ _ s)
  · exact acts_of_quiets (quiets_setBoostStage _ _ s)
  · exact .trans (acts_of_quiets (quiets_setBoostStage _ _ s)) (acts_pressOf _ _)
  · exact acts_of_quiets (quiets_setBoostStage _ _ s)
  · exact .refl

theorem acts_originateHere (s : State) : Acts own s (originateHere s) :=
  .trans (Act.house _ s).once (acts_of_quiets (quiets_queueMode _))

theorem acts_summerLevel (v : Level) (s : State) : Acts own s (summerLevel v s) :=
  .trans (acts_of_quiets (Quiet.ctl _ s ⟨by rfl, by rfl⟩).once) (acts_originateHere _)

theorem acts_debounceLine (c : ControlLine) (v : Level) (s : State) : Acts own s (debounceLine c v s) := by
  have hlevel := acts_of_quiets (own := own) (quiets_setLevel c v s)
  unfold debounceLine
  dsimp only
  split
  · refine hlevel.trans ?_
    unfold levelChanged
    split
    · exact acts_boostLevel v _
    · exact acts_of_quiets (quiets_filterLevel v _)
    · exact acts_summerLevel v _
    · exact .refl
    · exact .refl
  · exact hlevel

theorem acts_takePair (a b : Level) (s : State) : Acts own s (takePair a b s) := by
  unfold takePair
  split
  case h_1 m _ =>
    have hfirst : Acts own s (originateHere { s with ctl := { s.ctl with modeTaken := some m } }) :=
      .trans (acts_of_quiets (Quiet.ctl _ s ⟨by rfl, by rfl⟩).once) (acts_originateHere _)
    unfold takePosition
    dsimp only
    split
    · exact hfirst.trans (acts_wake _)
    · exact hfirst
  case h_2 => exact .refl

theorem acts_takeHold (s : State) : Acts own s (takeHold s) := by
  unfold takeHold
  dsimp only
  split
  case isTrue h => exact .trans (acts_of_quiets (quiets_setBoostStage _ _ s)) (Act.release _ h).once
  case isFalse => exact .trans (acts_of_quiets (quiets_setBoostStage _ _ s)) (acts_offToggle _)

theorem restingState_ne_disabled (s : State) : restingState s ≠ .disabled := by
  unfold restingState
  split <;> decide

theorem acts_takeRestReading (rh : Int) (s : State) : Acts own s (takeRestReading rh s) := by
  have hboost (h : s.humid.state = .seeding ∨ s.humid.state = .watching) : Acts own s (startBoost (wake s)) :=
    (acts_wake s).trans (acts_of_quiets (Quiet.startBoost _ (by simpa using h)).once)
  unfold takeRestReading
  split
  case h_1 h => split <;> [exact hboost (.inl h); exact .refl]
  case h_2 h => split <;> [exact hboost (.inr h); exact .refl]
  case h_3 h =>
    split
    · exact acts_of_quiets
        (Quiet.humid _ s (by simp [h, restingState_ne_disabled]) (fun hb => by simp [h] at hb)).once
    · exact .refl
  case h_4 => exact .refl

theorem acts_restCheck (s : State) : Acts own s (restCheck s) := by
  unfold restCheck
  split
  case h_1 e _ =>
    have hnext : Acts own s { s with humid := { s.humid with nextRestCheck := some (e + seconds 60) } } :=
      acts_of_quiets (quiets_humid_same_state _ s (by rfl))
    unfold restCheckAt
    dsimp only
    split
    · exact hnext.trans (acts_takeRestReading _ _)
    · exact hnext
  case h_2 => exact .refl

/-! ## The commands -/

/-- Commands that recompute or ask for a STATUS of their own. -/
def ownRequests : Instr → Bool
  | .filterRecordRead _ _ _ | .halfBoundary _ | .frameReceived _ _ _ _ | .statusPeriodEnd _ => true
  | _ => false

/-- An event makes its effect's acts, under its condition, or none. -/
theorem acts_onlyIf {due : Bool} {f : State → State} {m : State} (h : due = true → Acts own m (f m)) :
    Acts own m (onlyIf due f m) := by
  rcases onlyIf_cases due f m with ⟨hd, e⟩ | e
  · rw [e]
    exact h hd
  · rw [e]

theorem inPhase_iff {p : Phase} {s : State} : inPhase p s = true ↔ s.seq.state = .reversing ∧ s.seq.phase = some p := by
  simp [inPhase]

theorem inPhase_spinup_moving {s : State} (h : inPhase .spinup s = true) : s.seq.moving = true := by
  obtain ⟨hstate, hphase⟩ := inPhase_iff.mp h
  simp [SeqRec.moving, hstate, hphase]

theorem acts_endSpinup (s : State) (h : inPhase .spinup s = true) : Acts own s (endSpinup s) := by
  obtain ⟨hstate, hphase⟩ := inPhase_iff.mp h
  unfold endSpinup
  split
  case h_1 g htarget =>
    unfold spinupLimit
    split
    · exact acts_completeReversal g s hstate hphase htarget
    · exact (Act.stall s.fan.stallWatch s (inPhase_spinup_moving h) (.inl rfl)).once
  case h_2 => exact .refl

theorem acts_reportStall (s : State) : Acts own s (reportStall s) := by
  unfold reportStall
  dsimp only
  split
  case isTrue h => exact (Act.stall none s h (.inr rfl)).once
  case isFalse h => exact (Act.unwatch s (by simpa using h)).once

theorem acts_takeFilterRecord (r : Option (List Byte)) (raw : LineLevels) (s : State) (h : s.seq.state = .starting) :
    Acts true s (takeFilterRecord r raw s) := by
  unfold takeFilterRecord
  split
  case h_1 c hc =>
    have hbytes : Acts true s (takeFilterBytes c r s) := by
      unfold takeFilterBytes
      dsimp only
      split
      · split
        · exact acts_of_quiets (Quiet.loader _ s (by rfl)).once
        · exact acts_of_quiets (Quiet.loader _ s (by rfl)).once
      · exact acts_of_quiets (Quiet.loader _ s (by rfl)).once
    refine hbytes.trans (Act.starting c raw _ rfl (by simpa using h) ?_).once
    unfold takeFilterBytes
    dsimp only
    split
    · split <;> exact hc
    · exact hc
  case h_2 => exact .refl

theorem not_started_iff {s : State} : started s = false ↔ s.seq.state = .starting := by simp [started]

theorem acts_speedLost (s : State) : Acts own s (reversalOnSpeed (overflow s)) :=
  .trans (Act.overflow s).once (acts_reversalOnSpeed _)

/-- The effect of every command but SAMPLE and SWITCH_DEAD_TIME_END is made of acts. -/
theorem acts_effectOf (c : Instr) (m : State) (hsample : ∀ i o h t, c ≠ .sample i o h t)
    (hdead : ∀ t, c ≠ .switchDeadTimeEnd t) : Acts (ownRequests c) m (effectOf c m) := by
  cases c
  case reset => exact .refl
  case configurationRecordRead =>
    refine acts_onlyIf fun h => (Act.config _ m ?_).once
    simp only [awaitsConfigRecord, Bool.and_eq_true, Bool.not_eq_true', not_started_iff] at h
    exact h.1.1
  case filterRecordRead =>
    refine acts_onlyIf fun h => acts_takeFilterRecord _ _ m ?_
    simp only [awaitsFilterRecord, Bool.and_eq_true, Bool.not_eq_true', not_started_iff] at h
    exact h.1
  case listenEnd =>
    refine acts_onlyIf fun h => (Act.cycle m ?_).once
    simp only [listenOver, Bool.and_eq_true, decide_eq_true_eq] at h
    exact h.1
  case halfBoundary =>
    refine acts_onlyIf fun h => acts_boundary m ?_
    simp only [boundaryDue, Bool.and_eq_true] at h
    exact h.1
  case rundownEnd => exact acts_onlyIf fun _ => acts_endRundown m
  case switchDeadTimeEnd t => exact absurd rfl (hdead t)
  case spinupHoldEnd => exact acts_onlyIf fun _ => (Act.endHold m).once
  case spinupLimit =>
    refine acts_onlyIf fun h => acts_endSpinup m ?_
    simp only [spinupOver, Bool.and_eq_true] at h
    exact h.1
  case tachCapture => exact .trans (Act.capture m).once (acts_reversalOnSpeed _)
  case captureOverflow => exact acts_onlyIf (f := fun x => reversalOnSpeed (overflow x)) fun _ => acts_speedLost m
  case stallReport => exact acts_onlyIf fun _ => acts_reportStall m
  case stallHistoryAgeing =>
    exact (Act.note _ m (by rfl) (by rfl) (by rfl) (by rfl) (.inr (by exact le_rfl)) (List.length_filter_le _ _)).once
  case pauseEnd =>
    refine acts_onlyIf fun h => acts_endPause m ?_
    simp only [pauseOver, Bool.and_eq_true, decide_eq_true_eq] at h
    exact h.1
  case sample i o h t => exact absurd rfl (hsample i o h t)
  case runSecond => exact acts_of_quiets (quiets_countRunSecond m)
  case contentionWindowEnd =>
    refine acts_onlyIf fun h => acts_decideWindow m ?_
    simp only [windowOver, Bool.and_eq_true, decide_eq_true_eq] at h
    exact h.1
  case meltStepEnd =>
    refine acts_onlyIf fun h => acts_closeStep m ?_
    simp only [meltStepOver, Bool.and_eq_true, decide_eq_true_eq] at h
    exact h.1
  case defrostTimeLimit => exact acts_onlyIf fun _ => acts_timeOutDefrost m
  case blindDefrostLimit => exact acts_onlyIf fun _ => acts_endBlindDefrost m
  case lockoutEnd =>
    refine acts_onlyIf fun h => acts_endLockout m ?_
    simp only [lockoutOver, Bool.and_eq_true, decide_eq_true_eq] at h
    exact h.1
  case boostCap =>
    refine acts_onlyIf fun h => acts_of_quiets (Quiet.endBoost .rearming m (by decide) ?_).once
    simp only [capReached, Bool.and_eq_true, decide_eq_true_eq] at h
    exact h.1
  case restCheck => exact acts_onlyIf fun _ => acts_restCheck m
  case overrideExpiry => exact acts_onlyIf fun _ => acts_of_quiets (Quiet.remove _ _ m).once
  case frameStart => exact acts_onlyIf fun _ => acts_of_quiets (quiets_startFrame m)
  case lostContention => exact acts_onlyIf fun _ => acts_of_quiets (quiets_loseContention _ m)
  case collision => exact acts_onlyIf fun _ => acts_of_quiets (quiets_takeCollision _ m)
  case frameSent => exact acts_onlyIf fun _ => acts_of_quiets (quiets_completeFrame m)
  case frameReceived => exact acts_onlyIf fun _ => acts_closeFrame _ _ _ m
  case peerStale => exact acts_ageingEvent acts_makeStale _ m
  case peerRemoved => exact acts_ageingEvent acts_removePeer _ m
  case contendingFallback => exact acts_ageingEvent acts_fallBack _ m
  case statusPeriodEnd =>
    exact acts_onlyIf fun _ => .trans (acts_of_quiets (Quiet.line _ m (by rfl)).once) (Act.status false _ rfl).once
  case lineFaultRaised => exact acts_onlyIf fun _ => .trans (Act.lineState _ m).once (acts_frostOnLineRaised _)
  case lineFaultCleared => exact acts_onlyIf fun _ => (Act.lineState _ m).once
  case debounce => exact acts_onlyIf fun _ => acts_debounceLine _ _ m
  case hold => exact acts_onlyIf fun _ => acts_takeHold m
  case filterReset => exact acts_onlyIf fun _ => acts_of_quiets (quiets_takeFilterReset m)
  case modePositionTaken => exact acts_takePair _ _ m
  case writeComplete => exact acts_onlyIf fun _ => acts_of_quiets (quiets_endWrite m)
  case writeFailed =>
    exact acts_onlyIf fun _ => .trans (acts_of_quiets (Quiet.ctl _ m ⟨by rfl, by rfl⟩).once)
      (acts_of_quiets (quiets_endWrite _))

/-- The part of SAMPLE between the channels' step and what the humidity monitor and the outdoor temperature take from
it is made of acts. -/
theorem acts_sampleFaults (x y : FaultChange) (z : SampleSet) (s : State) :
    Acts own s (onOuter y (onInner x (recordSample z s))) :=
  .trans (acts_of_quiets (.trans (quiets_recordSample z s) (quiets_onInner x _))) (acts_onOuter y _)

/-- The part of SAMPLE after the humidity monitor. -/
theorem acts_sampleEnd (s : State) : Acts own s (takeSpeedReading (evaluateOutdoor s)) :=
  acts_of_quiets (.trans (quiets_evaluateOutdoor s) (quiets_takeSpeedReading _))

end Sys2Proof.Proofs

/-! Invariants that do not read the sequencer's phase, the drive or the clock: kept by every motion once the quiet acts
keep them. The override stack, the humidity monitor, the peer table, the rings and the frost account. -/

namespace Sys2Proof.Proofs

open Sys2Proof.Machine

/-! ## From the acts to the commands -/

/-- An invariant of the held part that RESET leads to and every effect keeps is kept by every step. -/
theorem keptByStep_of_held {inv : State → Prop} (hheld : ∀ s t, held s = held t → inv s → inv t)
    (hqueue : ∀ s q, inv s → inv { s with pending := q })
    (hreset : ∀ i l cl s, inv (readStraps i l cl (resetBlocks s)))
    (heffect : ∀ c m, inv m → inv (effectOf c m)) : KeptByStep inv :=
  keptByStep_of hqueue hreset fun c t s _ hs =>
    hheld _ _ (held_after c t s).symm (heffect c _ (hheld _ _ (held_advance t s).symm hs))

/-- What a sample makes of the channels, with the stream and the window after it. -/
theorem takeSample_eq (i o h : BitVec 12) (s : State) :
    ∃ x y z w, takeSample i o h s = takeSpeedReading (evaluateOutdoor
      (onHumidity z (onOuter y (onInner x (recordSample w { s with climate := stepChannels i o h s.climate }))))) :=
  ⟨_, _, _, _, rfl⟩

/-- An invariant of the acts is kept by a sample when it survives the step of the channels and what the humidity monitor
makes of it. -/
theorem takeSample_keeps_of_acts {inv : State → Prop} (hact : ∀ own s s', Act own s s' → inv s → inv s')
    (hchannels : ∀ i o h s, inv s → inv { s with climate := stepChannels i o h s.climate })
    (hhumidity : ∀ x s, inv s → inv (onHumidity x s)) (i o h : BitVec 12) (s : State) (hs : inv s) :
    inv (takeSample i o h s) := by
  obtain ⟨x, y, z, w, e⟩ := takeSample_eq i o h s
  have hfaults := (acts_sampleFaults (own := false) x y w _).keep (hact _) (hchannels i o h s hs)
  exact e ▸ (acts_sampleEnd (own := false) _).keep (hact _) (hhumidity z _ hfaults)

/-- A property of the acts holds after an effect other than the dead time's end when it holds before and after a
sample. -/
theorem effect_of_acts_of_ne {inv : State → Prop} (hact : ∀ own s s', Act own s s' → inv s → inv s') {m : State}
    (hm : inv m) (hsample : ∀ i o h, inv (takeSample i o h m)) (c : Instr) (hdead : ∀ t, c ≠ .switchDeadTimeEnd t) :
    inv (effectOf c m) := by
  by_cases hnot : ∃ i o h t, c = .sample i o h t
  · obtain ⟨i, o, h, t, rfl⟩ := hnot
    exact hsample i o h
  · push Not at hnot
    exact (acts_effectOf c m hnot hdead).keep (hact _) hm

/-- The start of SPINUP, at 350 and held for 1.0 s. -/
def spunUp (m : State) : State := { m with
  seq := { m.seq with phase := some .spinup, phaseStart := some m.now }
  fan := { m.fan with driveOutput := 350, holdEnd := some (m.now + seconds 1) } }

/-- The dead time's end starts SPINUP from SWITCH and completes it at speed, or does nothing. -/
theorem effectOf_switchDeadTimeEnd (t : Time) (m : State) :
    (inPhase .switch m = true ∧ effectOf (.switchDeadTimeEnd t) m = completeAtSpeed (spunUp m))
      ∨ effectOf (.switchDeadTimeEnd t) m = m := by
  rcases onlyIf_cases (deadTimeOver m) enterSpinup m with ⟨hdue, e⟩ | e
  · simp only [deadTimeOver, Bool.and_eq_true] at hdue
    exact .inl ⟨hdue.1, e⟩
  · exact .inr e

/-- A property of the acts holds after an effect when it holds before, after a sample, and after the start of SPINUP. -/
theorem effect_of_acts {inv : State → Prop} (hact : ∀ own s s', Act own s s' → inv s → inv s') {m : State} (hm : inv m)
    (hsample : ∀ i o h, inv (takeSample i o h m)) (hspinup : inPhase .switch m = true → inv (spunUp m)) (c : Instr) :
    inv (effectOf c m) := by
  by_cases hdead : ∃ t, c = .switchDeadTimeEnd t
  · obtain ⟨t, rfl⟩ := hdead
    rcases effectOf_switchDeadTimeEnd t m with ⟨hdue, e⟩ | e
    · rw [e]
      exact (acts_completeAtSpeed (own := false) _).keep (hact _) (hspinup hdue)
    · rw [e]
      exact hm
  · push Not at hdead
    exact effect_of_acts_of_ne hact hm hsample c hdead

/-- An invariant of the acts is one of every effect when it survives a sample and the start of SPINUP. -/
theorem effect_keeps_of_acts {inv : State → Prop} (hact : ∀ own s s', Act own s s' → inv s → inv s')
    (hsample : ∀ i o h s, inv s → inv (takeSample i o h s))
    (hspinup : ∀ s, s.seq.state = .reversing → inv s → inv (spunUp s))
    (c : Instr) (m : State) (hm : inv m) : inv (effectOf c m) :=
  effect_of_acts hact hm (fun i o h => hsample i o h m hm) (fun hp => hspinup m (inPhase_iff.mp hp).1 hm) c

/-! ## Invariants that every motion keeps -/

/-- The invariant survives the quiet acts, the changes of the sequencer's state, and any change of the sequencer's other
fields, of the clock and of the drive without the tach. -/
structure FreeOfMotion (inv : State → Prop) : Prop where
  shown : ∀ m s, inv s → inv (showChange m s)
  quiet : ∀ s t, Quiet s t → inv s → inv t
  change : ∀ q s, inv s → inv (changeSeq q s)
  seq : ∀ q s, q.state = s.seq.state → inv s → inv { s with seq := q }
  drive : ∀ f s, f.periods = s.fan.periods → f.speed = s.fan.speed → f.demandTarget = s.fan.demandTarget →
    inv s → inv { s with fan := f }
  clock : ∀ k s, inv s → inv { s with clock := k }

/-- For an invariant that does not read the sequencer at all. -/
theorem FreeOfMotion.of_seq_free {inv : State → Prop} (hshown : ∀ m s, inv s → inv (showChange m s))
    (hquiet : ∀ s t, Quiet s t → inv s → inv t) (hseq : ∀ q s, inv s → inv { s with seq := q })
    (hdrive : ∀ f s, f.periods = s.fan.periods → f.speed = s.fan.speed → f.demandTarget = s.fan.demandTarget →
      inv s → inv { s with fan := f })
    (hclock : ∀ k s, inv s → inv { s with clock := k }) : FreeOfMotion inv where
  shown := hshown
  quiet := hquiet
  change q s hs := (quiets_notify _ _).keep hquiet (hshown s _ (hseq q s hs))
  seq q s _ hs := hseq q s hs
  drive := hdrive
  clock := hclock

/-- A change that is announced and shown keeps an invariant of the held part. -/
theorem shown_of_held {inv : State → Prop} (hheld : ∀ s t, held s = held t → inv s → inv t) (m s : State) (hs : inv s) :
    inv (showChange m s) := hheld _ _ (held_showChange m s).symm hs

section

variable {inv : State → Prop} (free : FreeOfMotion inv)
include free

theorem FreeOfMotion.zeroDrive {s : State} (hs : inv s) : inv (zeroDrive s) := free.drive _ s rfl rfl rfl hs

theorem FreeOfMotion.endHold {s : State} (hs : inv s) : inv (endHold s) := by
  unfold Machine.endHold
  split
  · exact free.drive _ s rfl rfl rfl hs
  · exact hs

theorem FreeOfMotion.enterSwitch {g : Target} {s : State} (hs : inv s) : inv (enterSwitch g s) :=
  free.drive _ _ rfl rfl rfl (free.seq _ s rfl hs)

theorem FreeOfMotion.enterRundown {g : Target} {s : State} (hs : inv s) : inv (enterRundown g s) := by
  unfold Machine.enterRundown
  dsimp only
  split
  · exact free.enterSwitch (free.zeroDrive (free.seq _ s rfl hs))
  · exact free.zeroDrive (free.seq _ s rfl hs)

theorem FreeOfMotion.beginReversing {g : Target} {s : State} (hs : inv s) : inv (beginReversing g s) :=
  free.enterRundown (free.change _ s hs)

theorem FreeOfMotion.enterRest {s : State} (hs : inv s) : inv (enterRest s) := free.change _ _ (free.zeroDrive hs)

theorem FreeOfMotion.retarget {g : Target} {s : State} (hs : inv s) : inv (retarget g s) := by
  have hnew : inv (replaceTarget g s) := free.change _ s hs
  unfold Machine.retarget
  split
  · exact hs
  · split
    · exact hs
    · dsimp only
      split
      · exact hnew
      · split
        · exact free.enterSwitch hnew
        · exact free.enterRundown hnew
        · exact hnew

theorem FreeOfMotion.reformReference {s : State} (hs : inv s) : inv (reformReference s) := by
  unfold Machine.reformReference
  split
  · exact hs
  · exact free.clock _ s hs

theorem FreeOfMotion.quiets {s t : State} (h : Quiets s t) (hs : inv s) : inv t := h.keep free.quiet hs

theorem FreeOfMotion.enterStopped {s : State} (hs : inv s) : inv (enterStopped s) := by
  refine free.quiets (quiets_closeCollection _) (free.reformReference (free.clock _ _ ?_))
  exact free.quiet _ _ (Quiet.ctl _ _ ⟨by rfl, by rfl⟩) (free.change _ _ (free.zeroDrive hs))

theorem FreeOfMotion.enterPaused {resume : Bool} {s : State} (hs : inv s) : inv (enterPaused resume s) := by
  unfold Machine.enterPaused
  dsimp only
  split
  · exact free.enterRest (free.change _ _ (free.zeroDrive hs))
  · exact free.change _ _ (free.zeroDrive hs)

theorem FreeOfMotion.takeStall {s : State} (hs : inv s) : inv (takeStall s) := by
  unfold Machine.takeStall
  dsimp only
  split
  · exact free.enterStopped (free.seq _ s rfl hs)
  · exact free.enterPaused (free.seq _ s rfl hs)

theorem FreeOfMotion.enterListen {s : State} (hs : inv s) : inv (enterListen s) :=
  free.clock _ _ (free.change _ _ hs)

theorem FreeOfMotion.release {s : State} (hs : inv s) : inv (release s) := by
  unfold Machine.release
  split
  · refine free.enterListen (free.quiet { s with seq := { s.seq with stallHistory := [] } } _ ?_ (free.seq _ s rfl hs))
    exact Quiet.ctl _ { s with seq := { s.seq with stallHistory := [] } } ⟨by rfl, by rfl⟩
  · exact hs

theorem FreeOfMotion.beginCycling {s : State} (hs : inv s) : inv (beginCycling s) := by
  unfold Machine.beginCycling
  dsimp only
  split
  · exact free.enterRest (free.seq _ s rfl hs)
  · exact free.beginReversing (free.seq _ s rfl hs)

theorem FreeOfMotion.startCycling {s : State} (hs : inv s) : inv (startCycling s) := by
  unfold Machine.startCycling
  refine free.beginCycling (free.quiets (.trans (quiets_humidOnListenEnd _) (quiets_openCollection _)) ?_)
  refine free.reformReference (free.clock _ _ ?_)
  split
  · exact free.clock _ s hs
  · exact free.clock _ s hs

/-- The end of STARTING keeps the invariant when its first part, up to the starting levels, leads to it. -/
theorem FreeOfMotion.endStarting_of_levels (hheld : ∀ s t, held s = held t → inv s → inv t) {c : ConfigRecord} {raw : LineLevels} {s : State}
    (hs : inv (startLevels (takeLines raw (takeFilterValues (s.loader.filterValues.getD (filterDefaults c))
      { s with cfg := c })))) : inv (endStarting c raw s) :=
  free.reformReference (free.enterListen (hheld _ _ (held_recompute _).symm hs))

/-- The acts that move nothing but what the invariant is free of. -/
theorem FreeOfMotion.act {own : Bool} {s s' : State} (h : Act own s s')
    (hstarting : own = true → ∀ c raw s, s.seq.state = .starting → s.loader.config = some c → inv s →
      inv (endStarting c raw s))
    (hcapture : ∀ s, inv s → inv (capture s)) (hoverflow : ∀ s, inv s → inv (overflow s))
    (hpeer : ∀ r s, 1 ≤ r.number → r.number ≤ 16 → r.number ≠ ownNumber s → inv s → inv (putPeer r s))
    (hupdate : ∀ n f s, (∀ p : PeerRec, (f p).number = p.number) → inv s → inv (updatePeer n f s))
    (hremoved : ∀ n s, inv s → inv { s with peers := s.peers.filter (fun x => x.number ≠ n) })
    (hhouse : ∀ h s, inv s → inv (setHouse h s)) (hline : ∀ l s, inv s → inv { s with line := l })
    (hconfig : ∀ l s, inv s → inv { s with loader := l })
    (hclosing : own = true → ∀ s, inv s → inv (closeBoundary s))
    (hstatus : own = true → ∀ b s, inv s → inv (requestStatus b s)) (hs : inv s) : inv s' := by
  cases h
  case quiet h => exact free.quiet _ _ h hs
  case note q hstate _ _ _ _ _ => exact free.seq q s hstate hs
  case reverse => exact free.beginReversing hs
  case direct => exact free.change _ s hs
  case retarget => exact free.retarget hs
  case rest => exact free.enterRest hs
  case complete => exact free.change _ _ (free.endHold hs)
  case stall => exact free.takeStall (free.drive _ s rfl rfl rfl hs)
  case switch => exact free.enterSwitch hs
  case endHold => exact free.endHold hs
  case release => exact free.release hs
  case cycle => exact free.startCycling hs
  case starting hown hstate hc => exact hstarting hown _ _ s hstate hc hs
  case capture => exact hcapture s hs
  case overflow => exact hoverflow s hs
  case unwatch => exact free.drive _ s rfl rfl rfl hs
  case advanceClock => exact free.clock _ s hs
  case align k _ _ _ _ _ _ _ => exact free.clock k s hs
  case peer r hlow hhigh hown _ => exact free.reformReference (hpeer r s hlow hhigh hown hs)
  case stale => exact free.reformReference (hupdate _ _ s (fun _ => rfl) hs)
  case removed n => exact free.reformReference (hremoved n s hs)
  case fallback => exact hupdate _ _ s (fun _ => rfl) hs
  case house h => exact hhouse h s hs
  case lineState l => exact free.reformReference (hline l s hs)
  case config r _ =>
    unfold takeConfig
    split
    · exact hconfig _ s hs
    · dsimp only
      split
      · exact hconfig _ s hs
      · have hctl := free.quiet _ _ (Quiet.ctl { s.ctl with config := true } s ⟨rfl, rfl⟩) hs
        exact hconfig _ { s with ctl := { s.ctl with config := true } } hctl
  case closing hown => exact hclosing hown s hs
  case status mark hown => exact hstatus hown mark s hs

/-- The same for an invariant of the held part, in which a half boundary ends with the rise of the active level. -/
theorem FreeOfMotion.act_of_held (hheld : ∀ s t, held s = held t → inv s → inv t) {own : Bool} {s s' : State}
    (h : Act own s s')
    (hstarting : ∀ c raw s, s.seq.state = .starting → s.loader.config = some c → inv s → inv (endStarting c raw s))
    (hcapture : ∀ s, inv s → inv (capture s)) (hoverflow : ∀ s, inv s → inv (overflow s))
    (hpeer : ∀ r s, 1 ≤ r.number → r.number ≤ 16 → r.number ≠ ownNumber s → inv s → inv (putPeer r s))
    (hupdate : ∀ n f s, (∀ p : PeerRec, (f p).number = p.number) → inv s → inv (updatePeer n f s))
    (hremoved : ∀ n s, inv s → inv { s with peers := s.peers.filter (fun x => x.number ≠ n) })
    (hhouse : ∀ h s, inv s → inv (setHouse h s)) (hline : ∀ l s, inv s → inv { s with line := l })
    (hconfig : ∀ l s, inv s → inv { s with loader := l })
    (hclosing : ∀ s, inv s → inv (takeRise s)) (hs : inv s) : inv s' :=
  free.act h (fun _ => hstarting) hcapture hoverflow hpeer hupdate hremoved hhouse hline hconfig
    (fun _ s hs => hheld _ _ (held_recompute (takeRise s)).symm (hclosing s hs)) (fun _ _ _ hs => hheld _ _ (by rfl) hs) hs

end

end Sys2Proof.Proofs

/-! The invariants that no motion breaks: peer table, rings, levels, humidity entry, frost account. -/

namespace Sys2Proof.Proofs

open Sys2Proof.Machine

/-! ## What the quiet acts keep, and what the held part holds -/

/-- The drive without the probe hold, which the filter monitor alone places and lifts. -/
def withoutHold (f : FanRec) : FanRec := { f with probeHold := false }

theorem abandonProbe_withoutHold (s : State) : withoutHold (abandonProbe s).fan = withoutHold s.fan := by
  unfold abandonProbe
  split <;> rfl

theorem fan_of_showChange (m s : State) : (showChange m s).fan = s.fan := by simp

theorem setStage_withoutHold (st : FrostStage) (s : State) :
    withoutHold (setStage st s).fan = withoutHold s.fan := by
  unfold setStage
  dsimp only
  split
  · rw [abandonProbe_withoutHold, fan_of_showChange]
  · rw [fan_of_showChange]

theorem push_withoutHold (e : Override) (s : State) :
    withoutHold (push e s).fan = withoutHold s.fan := abandonProbe_withoutHold _

/-- What every quiet act keeps. -/
theorem Quiet.keeps {s s' : State} (h : Quiet s s') :
    s'.now = s.now ∧ s'.stationIndex = s.stationIndex ∧ s'.lane = s.lane ∧ s'.roomClass = s.roomClass
    ∧ s'.cfg = s.cfg ∧ s'.clock = s.clock ∧ s'.seq = s.seq ∧ s'.peers = s.peers ∧ s'.house = s.house
    ∧ s'.line.active = s.line.active ∧ withoutHold s'.fan = withoutHold s.fan
    ∧ s'.loader.config = s.loader.config := by
  cases h
  case stage => simp [setStage_withoutHold]
  case endStage => simp [leaveDefrost, clearDefrost, queueNotice, setStage_withoutHold, LineRec.request, LineRec.setSlot]
  case push => simp [push_withoutHold]
  case startBoost => simp [show withoutHold (Machine.startBoost s).fan = _ from push_withoutHold _ _]
  case endBoost => exact ⟨rfl, rfl, rfl, rfl, rfl, rfl, rfl, rfl, rfl, rfl, rfl, rfl⟩
  case loader l hl => exact ⟨rfl, rfl, rfl, rfl, rfl, rfl, rfl, rfl, rfl, rfl, rfl, hl⟩
  case line l hl => exact ⟨rfl, rfl, rfl, rfl, rfl, rfl, rfl, rfl, rfl, hl, rfl, rfl⟩
  all_goals exact ⟨rfl, rfl, rfl, rfl, rfl, rfl, rfl, rfl, rfl, rfl, rfl, rfl⟩

/-- The fields of two states with the same held part. -/
theorem fields_of_held {s t : State} (h : held s = held t) :
    s.stationIndex = t.stationIndex ∧ s.roomClass = t.roomClass ∧ s.cfg = t.cfg ∧ s.clock = t.clock ∧ s.seq = t.seq
    ∧ s.climate = t.climate ∧ s.frost = t.frost ∧ s.humid = t.humid ∧ s.demand.stack = t.demand.stack
    ∧ s.demand.requested = t.demand.requested ∧ s.demand.active = t.demand.active ∧ s.filter = t.filter
    ∧ s.peers = t.peers ∧ s.house = t.house ∧ s.loader = t.loader ∧ s.line.active = t.line.active
    ∧ s.fan.periods = t.fan.periods ∧ s.fan.speed = t.fan.speed ∧ s.fan.direction = t.fan.direction
    ∧ s.lane = t.lane :=
  ⟨congrArg Held.stationIndex h, congrArg Held.roomClass h, congrArg Held.cfg h, congrArg Held.clock h,
    congrArg Held.seq h, congrArg Held.climate h, congrArg Held.frost h, congrArg Held.humid h, congrArg Held.stack h,
    congrArg Held.requested h, congrArg Held.active h, congrArg Held.filter h, congrArg Held.peers h,
    congrArg Held.house h, congrArg Held.loader h, congrArg (fun x => x.line.active) h,
    congrArg (fun x => x.fan.periods) h, congrArg (fun x => x.fan.speed) h, congrArg (fun x => x.fan.direction) h,
    congrArg Held.lane h⟩

/-! ## The peer table -/

theorem peersInv_of_eq {s t : State} (hp : t.peers = s.peers) (hi : t.stationIndex = s.stationIndex) (hs : PeersInv s) :
    PeersInv t := by
  unfold PeersInv ownNumber at *
  rw [hp, hi]
  exact hs

theorem insertPeer_numbers_mem (r p : PeerRec) (ps : List PeerRec) (h : p ∈ insertPeer r ps) : p = r ∨ p ∈ ps := by
  induction ps with
  | nil => simpa [insertPeer] using h
  | cons x xs ih =>
    unfold insertPeer at h
    split at h
    · simpa using h
    · split at h
      · simp only [List.mem_cons] at h ⊢
        tauto
      · simp only [List.mem_cons] at h ⊢
        rcases h with h | h
        · tauto
        · rcases ih h with h | h <;> tauto

theorem insertPeer_ascending (r : PeerRec) (ps : List PeerRec) (h : (ps.map (·.number)).Pairwise (· < ·)) :
    ((insertPeer r ps).map (·.number)).Pairwise (· < ·) := by
  induction ps with
  | nil => simp [insertPeer]
  | cons x xs ih =>
    simp only [List.map_cons, List.pairwise_cons, List.forall_mem_map] at h
    obtain ⟨hx, hxs⟩ := h
    unfold insertPeer
    split
    case isTrue hlt =>
      simp only [List.map_cons, List.pairwise_cons, List.forall_mem_cons, List.forall_mem_map]
      exact ⟨⟨hlt, fun y hy => hlt.trans (hx y hy)⟩, hx, hxs⟩
    case isFalse hlt =>
      split
      case isTrue heq =>
        simp only [List.map_cons, List.pairwise_cons, List.forall_mem_map]
        exact ⟨fun y hy => heq ▸ hx y hy, hxs⟩
      case isFalse hne =>
        simp only [List.map_cons, List.pairwise_cons, List.forall_mem_map]
        refine ⟨fun y hy => ?_, ih hxs⟩
        rcases insertPeer_numbers_mem r y xs hy with rfl | hy
        · omega
        · exact hx y hy

theorem peersInv_putPeer (r : PeerRec) (s : State) (hlow : 1 ≤ r.number) (hhigh : r.number ≤ 16)
    (hown : r.number ≠ ownNumber s) (hs : PeersInv s) : PeersInv (putPeer r s) := by
  obtain ⟨hasc, hrange⟩ := hs
  refine ⟨insertPeer_ascending r _ hasc, fun p hp => ?_⟩
  rcases insertPeer_numbers_mem r p s.peers hp with rfl | hp
  · exact ⟨hlow, hhigh, hown⟩
  · exact hrange p hp

theorem updatePeer_numbers (n : Nat) (f : PeerRec → PeerRec) (s : State) (hf : ∀ p : PeerRec, (f p).number = p.number) :
    (updatePeer n f s).peers.map (·.number) = s.peers.map (·.number) := by
  simp only [updatePeer, List.map_map]
  refine List.map_congr_left fun p _ => ?_
  simp only [Function.comp]
  split
  · exact hf p
  · rfl

theorem peersInv_updatePeer (n : Nat) (f : PeerRec → PeerRec) (s : State)
    (hf : ∀ p : PeerRec, (f p).number = p.number) (hs : PeersInv s) : PeersInv (updatePeer n f s) := by
  obtain ⟨hasc, hrange⟩ := hs
  refine ⟨updatePeer_numbers n f s hf ▸ hasc, fun p hp => ?_⟩
  have hmem : p.number ∈ s.peers.map (·.number) := updatePeer_numbers n f s hf ▸ List.mem_map_of_mem hp
  obtain ⟨x, hx, heq⟩ := List.mem_map.mp hmem
  exact heq ▸ hrange x hx

theorem peersInv_removed (n : Nat) (s : State) (hs : PeersInv s) :
    PeersInv { s with peers := s.peers.filter (fun x => x.number ≠ n) } := by
  obtain ⟨hasc, hrange⟩ := hs
  refine ⟨hasc.sublist ((List.filter_sublist).map _), fun p hp => hrange p (List.mem_of_mem_filter hp)⟩

theorem peersInv_held (s t : State) (h : held s = held t) (hs : PeersInv s) : PeersInv t := by
  obtain ⟨hi, -, -, -, -, -, -, -, -, -, -, -, hp, -⟩ := fields_of_held h
  exact peersInv_of_eq hp.symm hi.symm hs

theorem peersInv_free : FreeOfMotion PeersInv := by
  refine .of_seq_free (shown_of_held peersInv_held) (fun s t h hs => ?_) (fun _ _ hs => hs) (fun _ _ _ _ _ hs => hs)
    (fun _ _ hs => hs)
  obtain ⟨-, hi, -, -, -, -, -, hp, -⟩ := h.keeps
  exact peersInv_of_eq hp hi hs

theorem peersInv_act {own : Bool} {s s' : State} (h : Act own s s') (hs : PeersInv s) : PeersInv s' := by
  refine peersInv_free.act_of_held peersInv_held h ?_ ?_ ?_ peersInv_putPeer
    (fun n f s hf => peersInv_updatePeer n f s hf) peersInv_removed ?_ (fun _ _ hs => hs) (fun _ _ hs => hs)
    (fun _ hs => hs) hs
  · exact fun c raw s _ _ hs => peersInv_of_eq (by simp) (by simp) hs
  · exact fun s hs => peersInv_of_eq (by simp) (by simp) hs
  · exact fun s hs => peersInv_of_eq (by simp) (by simp) hs
  · exact fun h s hs => peersInv_of_eq (by simp) (by simp) hs

/-- Settles O17: only a frame heard enters a record, at its place and for another station. -/
theorem peerTableStaysOrdered : Obligations.PeerTableStaysOrdered := by
  have hact := fun own s s' => @peersInv_act own s s'
  refine keptByStep_of_held peersInv_held (fun _ _ hs => hs) (fun _ _ _ _ => ⟨.nil, fun p hp => absurd (show p ∈ [] from hp) (by simp)⟩)
    (effect_keeps_of_acts hact (takeSample_keeps_of_acts hact (fun _ _ _ _ hs => hs) fun x s hs => ?_) (fun _ _ hs => hs))
  exact peersInv_of_eq (by simp) (by simp) hs

end Sys2Proof.Proofs

/-! The rings and windows, the levels, the HUMIDITY entry and the frost account. -/

namespace Sys2Proof.Proofs

open Sys2Proof.Machine

/-! ## The rings -/

theorem ringsInv_of_eq {s t : State} (hp : t.fan.periods = s.fan.periods) (hv : t.fan.speed = s.fan.speed)
    (hw : t.climate.window.length ≤ 8 ∨ t.climate.window = s.climate.window)
    (hr : t.climate.ring.length ≤ 4 ∨ t.climate.ring.length ≤ s.climate.ring.length)
    (hf : t.filter.speeds = s.filter.speeds ∨ t.filter.speeds.length ≤ 10) (hs : RingsInv s) : RingsInv t := by
  obtain ⟨hlen, hrange, hspeed, hwindow, hring, hspeeds⟩ := hs
  refine ⟨hp ▸ hlen, hp ▸ hrange, hp ▸ hv ▸ hspeed, ?_, ?_, ?_⟩
  · rcases hw with h | h
    · exact h
    · exact h ▸ hwindow
  · omega
  · rcases hf with h | h
    · exact h ▸ hspeeds
    · exact h

theorem abandonProbe_speeds (s : State) :
    (abandonProbe s).filter.speeds = s.filter.speeds ∨ (abandonProbe s).filter.speeds.length ≤ 10 := by
  unfold abandonProbe
  split
  · exact .inr (Nat.zero_le _)
  · exact .inl rfl

theorem filter_of_showChange (m s : State) : (showChange m s).filter = s.filter := by simp

theorem setStage_speeds (st : FrostStage) (s : State) :
    (setStage st s).filter.speeds = s.filter.speeds ∨ (setStage st s).filter.speeds.length ≤ 10 := by
  unfold setStage
  dsimp only
  split
  · have h := abandonProbe_speeds (showChange s { s with frost := { s.frost with stage := st } })
    rwa [filter_of_showChange] at h
  · exact .inl (by rw [filter_of_showChange])

theorem ringsInv_quiet {s t : State} (h : Quiet s t) (hs : RingsInv s) : RingsInv t := by
  obtain ⟨-, -, -, -, -, -, -, -, -, -, hfan, -⟩ := h.keeps
  have hp : t.fan.periods = s.fan.periods := by simpa [withoutHold] using congrArg FanRec.periods hfan
  have hv : t.fan.speed = s.fan.speed := by simpa [withoutHold] using congrArg FanRec.speed hfan
  cases h
  case stage st _ => exact ringsInv_of_eq hp hv (.inr (by simp)) (.inr (by simp)) (setStage_speeds st s) hs
  case endStage st =>
    refine ringsInv_of_eq hp hv (.inr (by simp)) (.inr (by simp)) ?_ hs
    simpa using setStage_speeds st s
  case filter f hspeeds => exact ringsInv_of_eq hp hv (.inr rfl) (.inr le_rfl) hspeeds hs
  case climate c _ hring hwindow => exact ringsInv_of_eq hp hv hwindow hring (.inl rfl) hs
  case drop => exact ringsInv_of_eq hp hv (.inr rfl) (.inr le_rfl) (.inr (Nat.zero_le _)) hs
  case push e _ =>
    exact ringsInv_of_eq hp hv (.inr (by simp)) (.inr (by simp))
      (abandonProbe_speeds { s with demand := { s.demand with stack := pushed e s.demand.stack } }) hs
  case startBoost =>
    refine ringsInv_of_eq hp hv (.inr (by simp)) (.inr (by simp)) ?_ hs
    exact abandonProbe_speeds _
  all_goals exact ringsInv_of_eq hp hv (.inr rfl) (.inr le_rfl) (.inl rfl) hs

theorem ringsInv_held (s t : State) (h : held s = held t) (hs : RingsInv s) : RingsInv t := by
  obtain ⟨-, -, -, -, -, hc, -, -, -, -, -, hf, -, -, -, -, hp, hv, -⟩ := fields_of_held h
  exact ringsInv_of_eq hp.symm hv.symm (.inr (by rw [hc])) (.inr (by rw [hc])) (.inl (by rw [hf])) hs

theorem ringsInv_free : FreeOfMotion RingsInv :=
  .of_seq_free (shown_of_held ringsInv_held) (fun _ _ => ringsInv_quiet) (fun _ _ hs => hs)
    (fun _ _ hp hv _ hs => ringsInv_of_eq hp hv (.inr rfl) (.inr le_rfl) (.inl rfl) hs) (fun _ _ hs => hs)

theorem ringsInv_overflow (s : State) (hs : RingsInv s) : RingsInv (overflow s) := by
  obtain ⟨-, -, -, hwindow, hring, hspeeds⟩ := hs
  exact ⟨Nat.zero_le _, by simp, rfl, hwindow, hring, hspeeds⟩

theorem ringAdd_length (p : Nat) (ring : List Nat) : (ringAdd p ring).length ≤ 4 := by
  simp only [ringAdd, List.length_drop, List.length_append, List.length_singleton]
  omega

theorem mem_ringAdd {p x : Nat} {ring : List Nat} (h : x ∈ ringAdd p ring) : x ∈ ring ∨ x = p := by
  simpa using List.mem_of_mem_drop h

/-- The difference of two different counter values is a period. -/
theorem period_range {a b : BitVec 16} (h : a ≠ b) : 1 ≤ (a - b).toNat ∧ (a - b).toNat ≤ 65535 := by
  have hne : a - b ≠ 0 := fun he => h (by simpa [BitVec.sub_eq_iff_eq_add] using he)
  have hpos : (a - b).toNat ≠ 0 := fun he => hne (BitVec.eq_of_toNat_eq he)
  exact ⟨Nat.pos_of_ne_zero hpos, Nat.le_of_lt_succ (a - b).isLt⟩

theorem ringsInv_capture (s : State) (hs : RingsInv s) : RingsInv (capture s) := by
  unfold capture
  split
  · exact ringsInv_of_eq rfl rfl (.inr rfl) (.inr le_rfl) (.inl rfl) hs
  · split
    case isTrue => exact ringsInv_of_eq rfl rfl (.inr rfl) (.inr le_rfl) (.inl rfl) (ringsInv_overflow s hs)
    case isFalse h =>
      push Not at h
      obtain ⟨-, hrange, -, hwindow, hring, hspeeds⟩ := hs
      refine ⟨ringAdd_length _ _, fun x hx => ?_, rfl, hwindow, hring, hspeeds⟩
      rcases mem_ringAdd hx with hx | rfl
      · exact hrange x hx
      · exact period_range h.1

theorem ringsInv_setHouse (h : HouseMode) (s : State) (hs : RingsInv s) : RingsInv (setHouse h s) :=
  ringsInv_of_eq (by simp) (by simp) (.inr (by simp)) (.inr (by simp)) (.inl (by simp)) hs

theorem ringsInv_endStarting (c : ConfigRecord) (raw : LineLevels) (s : State) (hs : RingsInv s) :
    RingsInv (endStarting c raw s) := by
  refine ringsInv_free.endStarting_of_levels ringsInv_held ?_
  exact ringsInv_of_eq (by simp) (by simp) (.inr (by simp)) (.inr (by simp)) (.inl (by simp [takeFilterValues])) hs

theorem ringsInv_act {own : Bool} {s s' : State} (h : Act own s s') (hs : RingsInv s) : RingsInv s' := by
  exact ringsInv_free.act_of_held ringsInv_held h (fun c raw s _ _ => ringsInv_endStarting c raw s) ringsInv_capture ringsInv_overflow
    (fun _ _ _ _ _ hs => hs) (fun _ _ _ _ hs => hs) (fun _ _ hs => hs) ringsInv_setHouse (fun _ _ hs => hs)
    (fun _ _ hs => hs) (fun _ hs => hs) hs

/-- Settles O18. -/
theorem ringsStayInRange : Obligations.RingsStayInRange := by
  have hact := fun own s s' => @ringsInv_act own s s'
  refine keptByStep_of_held ringsInv_held (fun _ _ hs => hs) (fun _ _ _ s => ?_)
    (effect_keeps_of_acts hact (takeSample_keeps_of_acts hact (fun _ _ _ _ hs => hs) fun x s hs => ?_) (fun _ _ hs => ?_))
  · exact ringsInv_of_eq (s := State.reset) rfl rfl (.inr rfl) (.inr le_rfl) (.inl rfl) (by decide)
  · exact ringsInv_of_eq (by simp) (by simp) (.inr (by simp)) (.inr (by simp)) (.inl (by simp)) hs
  · exact ringsInv_of_eq rfl rfl (.inr rfl) (.inr le_rfl) (.inl rfl) hs

end Sys2Proof.Proofs

/-! The override stack with its levels, the HUMIDITY entry, and the frost account. -/

namespace Sys2Proof.Proofs

open Sys2Proof.Machine

/-! ## The override stack and the levels -/

/-- R106 of a stack alone: at most four entries, no two with the same source and origin. -/
def StackOk (st : List Override) : Prop := st.length ≤ 4 ∧ (st.map (fun e => (e.source, e.origin))).Nodup

theorem stackOk_sublist {a b : List Override} (h : a.Sublist b) (hb : StackOk b) : StackOk a :=
  ⟨h.length_le.trans hb.1, hb.2.sublist (h.map _)⟩

theorem pushed_eq (e : Override) (st : List Override) :
    pushed e st = e :: (st.filter (fun x => !x.is e.source e.origin)).take 3 := by
  unfold pushed
  dsimp only
  split
  · rfl
  · rw [List.take_of_length_le (by omega)]

theorem stackOk_pushed (e : Override) {st : List Override} (h : StackOk st) : StackOk (pushed e st) := by
  rw [pushed_eq]
  constructor
  · simp only [List.length_cons, List.length_take]
    omega
  · simp only [List.map_cons, List.nodup_cons]
    refine ⟨fun hmem => ?_, h.2.sublist (((List.take_sublist _ _).trans List.filter_sublist).map _)⟩
    obtain ⟨x, hx, heq⟩ := List.mem_map.mp hmem
    have hx := List.of_mem_filter (List.mem_of_mem_take hx)
    simp_all [Override.is]

theorem levelsInv_reformLevels {s : State} (h : StackOk s.demand.stack) : LevelsInv (reformLevels s) :=
  ⟨h.1, h.2, rfl, min_le_right _ _⟩

theorem levelsInv_of_eq {s t : State} (hd : t.demand.stack = s.demand.stack)
    (hr : t.demand.requested = s.demand.requested) (ha : t.demand.active = s.demand.active) (hc : t.cfg = s.cfg)
    (hh : t.house.mode = s.house.mode) (hs : LevelsInv s) : LevelsInv t := by
  unfold LevelsInv wantedLevel houseModeLevel at *
  rw [hd, hr, ha, hc, hh]
  exact hs

theorem demand_of_abandonProbe (s : State) : (abandonProbe s).demand = s.demand := by simp

theorem levelsInv_push (e : Override) (s : State) (hs : LevelsInv s) : LevelsInv (push e s) := by
  obtain ⟨hlen, hnodup, -⟩ := hs
  refine levelsInv_reformLevels ?_
  rw [demand_of_abandonProbe]
  exact stackOk_pushed e ⟨hlen, hnodup⟩

theorem levelsInv_removeEntry (src : Source) (origin : Nat) (s : State) (hs : LevelsInv s) :
    LevelsInv (removeEntry src origin s) := by
  obtain ⟨hlen, hnodup, -⟩ := hs
  exact levelsInv_reformLevels (stackOk_sublist List.filter_sublist ⟨hlen, hnodup⟩)

theorem levelsInv_quiet {s t : State} (h : Quiet s t) (hs : LevelsInv s) : LevelsInv t := by
  cases h
  case push e _ => exact levelsInv_push e s hs
  case remove src origin => exact levelsInv_removeEntry src origin s hs
  case startBoost => exact levelsInv_push _ _ hs
  case endBoost next _ _ => exact levelsInv_removeEntry _ _ { s with humid := _ } hs
  case stage => exact levelsInv_of_eq (by simp) (by simp) (by simp) (by simp) (by simp) hs
  case endStage => exact levelsInv_of_eq (by simp) (by simp) (by simp) (by simp) (by simp) hs
  all_goals exact levelsInv_of_eq rfl rfl rfl rfl rfl hs

theorem levelsInv_held (s t : State) (h : held s = held t) (hs : LevelsInv s) : LevelsInv t := by
  obtain ⟨-, -, hc, -, -, -, -, -, hd, hr, ha, -, -, hh, -⟩ := fields_of_held h
  exact levelsInv_of_eq hd.symm hr.symm ha.symm hc.symm (by rw [hh]) hs

theorem levelsInv_free : FreeOfMotion LevelsInv :=
  .of_seq_free (shown_of_held levelsInv_held) (fun _ _ => levelsInv_quiet) (fun _ _ hs => hs)
    (fun _ _ _ _ _ hs => hs) (fun _ _ hs => hs)

theorem levelsInv_setHouse (h : HouseMode) (s : State) (hs : LevelsInv s) : LevelsInv (setHouse h s) := by
  unfold setHouse
  dsimp only
  split
  case isTrue he => exact levelsInv_of_eq (s := s) rfl rfl rfl rfl he.symm hs
  case isFalse => exact levelsInv_reformLevels ⟨hs.1, hs.2.1⟩

theorem takeLines_stack (raw : LineLevels) (s : State) : (takeLines raw s).demand.stack = s.demand.stack := by
  unfold takeLines seedMode setHouse
  dsimp only
  split
  · split <;> rfl
  · rfl

theorem levelsInv_endStarting (c : ConfigRecord) (raw : LineLevels) (s : State) (hs : LevelsInv s) :
    LevelsInv (endStarting c raw s) := by
  refine levelsInv_free.endStarting_of_levels levelsInv_held ⟨?_, ?_, rfl, le_rfl⟩
  · simpa [startLevels, takeLines_stack] using hs.1
  · simpa [startLevels, takeLines_stack] using hs.2.1

theorem levelsInv_act {own : Bool} {s s' : State} (h : Act own s s') (hs : LevelsInv s) : LevelsInv s' :=
  levelsInv_free.act_of_held levelsInv_held h (fun c raw s _ _ => levelsInv_endStarting c raw s)
    (fun _ hs => levelsInv_of_eq (by simp) (by simp) (by simp) (by simp) (by simp) hs) (fun _ hs => hs)
    (fun _ _ _ _ _ hs => hs) (fun _ _ _ _ hs => hs) (fun _ _ hs => hs) levelsInv_setHouse (fun _ _ hs => hs)
    (fun _ _ hs => hs) (fun _ hs => ⟨hs.1, hs.2.1, hs.2.2.1, le_rfl⟩) hs

theorem levelsInv_onHumidity (x : FaultChange) (s : State) (hs : LevelsInv s) : LevelsInv (onHumidity x s) := by
  unfold onHumidity humidFaultRaised humidFaultCleared
  split
  · split
    · unfold leaveBoost
      dsimp only
      split
      · exact levelsInv_removeEntry _ _ { s with humid := _ } hs
      · exact hs
    · exact hs
  · split <;> exact hs
  · exact hs

/-- Settles O15. -/
theorem overrideStackAndLevels : Obligations.OverrideStackAndLevels := by
  have hact := fun own s s' => @levelsInv_act own s s'
  refine keptByStep_of_held levelsInv_held (fun _ _ hs => hs) (fun _ _ _ s => ?_)
    (effect_keeps_of_acts hact (takeSample_keeps_of_acts hact (fun _ _ _ _ hs => hs) levelsInv_onHumidity) (fun _ _ hs => hs))
  exact levelsInv_of_eq (s := State.reset) rfl rfl rfl rfl rfl (by decide)

/-! ## The HUMIDITY entry -/

/-- The part of R93 that speaks of the stack. -/
def HumidityEntryOwn (s : State) : Prop :=
  ∀ e ∈ s.demand.stack, e.source = .humidity → e.origin = ownNumber s ∧ s.humid.state = .boosting

theorem humidityEntryOwn_of_eq {s t : State} (hi : t.stationIndex = s.stationIndex)
    (hd : ∀ e ∈ t.demand.stack, e ∈ s.demand.stack) (hb : s.humid.state = .boosting → t.humid.state = .boosting)
    (hs : HumidityEntryOwn s) : HumidityEntryOwn t := by
  intro e he hsrc
  obtain ⟨horigin, hstate⟩ := hs e (hd e he) hsrc
  exact ⟨by rw [horigin, ownNumber, ownNumber, hi], hb hstate⟩

theorem mem_pushed {e x : Override} {st : List Override} (h : x ∈ pushed e st) : x = e ∨ x ∈ st := by
  rw [pushed_eq, List.mem_cons] at h
  exact h.imp_right fun h => List.mem_of_mem_filter (List.mem_of_mem_take h)

theorem push_stack (e : Override) (s : State) : (push e s).demand.stack = pushed e s.demand.stack := by
  simp [push]

/-- Without the own HUMIDITY entry none stands, whatever becomes of the monitor. -/
theorem humidityEntryOwn_removed (h : HumidRec) (s : State) (hs : HumidityEntryOwn s) :
    HumidityEntryOwn (removeEntry .humidity (ownNumber s) { s with humid := h }) := by
  intro e he hsrc
  rw [removeEntry_stack] at he
  obtain ⟨hmem, hnot⟩ := List.mem_filter.mp he
  have horigin := (hs e hmem hsrc).1
  simp [Override.is, hsrc, horigin] at hnot

/-- The HUMIDITY entry's two conditions with a monitor that is DISABLED or not, as it was. -/
theorem humid_quiet {s t : State} (h : Quiet s t) (hs : HumidityEntryOwn s) :
    HumidityEntryOwn t ∧ (t.humid.state = .disabled ↔ s.humid.state = .disabled) := by
  cases h
  case humid r hdisabled hboosting => exact ⟨humidityEntryOwn_of_eq (s := s) rfl (fun _ h => h) hboosting hs, hdisabled⟩
  case endBoost next hnext hstate => exact ⟨humidityEntryOwn_removed _ s hs, by simp [endBoost, hnext, hstate]⟩
  case startBoost hstate =>
    refine ⟨fun e he hsrc => ?_, ?_⟩
    · rcases mem_pushed ((push_stack _ _) ▸ he) with rfl | hmem
      · exact ⟨by simp [startBoost, ownNumber], by simp [startBoost]⟩
      · exact ⟨by simpa [startBoost, ownNumber] using (hs e hmem hsrc).1, by simp [startBoost]⟩
    · rcases hstate with h | h <;> simp [startBoost, h]
  case push e hsource =>
    refine ⟨fun x hx hsrc => ?_, by simp⟩
    rcases mem_pushed ((push_stack _ _) ▸ hx) with rfl | hmem
    · exact absurd hsrc hsource
    · simpa [ownNumber] using hs x hmem hsrc
  case remove src origin =>
    exact ⟨humidityEntryOwn_of_eq (s := s) rfl (fun e he => List.mem_of_mem_filter he) id hs, Iff.rfl⟩
  case stage => exact ⟨humidityEntryOwn_of_eq (by simp) (by simp) (by simp) hs, by simp⟩
  case endStage => exact ⟨humidityEntryOwn_of_eq (by simp) (by simp) (by simp) hs, by simp⟩
  all_goals exact ⟨humidityEntryOwn_of_eq rfl (fun _ h => h) id hs, Iff.rfl⟩

/-- R93 with the humidity fault `b` that the monitor knows and the channel's fault `c`. -/
def HumidAt (b c : Bool) (s : State) : Prop :=
  HumidityEntryOwn s ∧ (s.humid.state ≠ .disabled → s.roomClass ≠ .dry ∧ b = false) ∧ s.climate.humidity.fault = c

theorem humidInv_iff (s : State) : HumidInv s ↔ HumidAt s.climate.humidity.fault s.climate.humidity.fault s := by
  unfold HumidInv HumidAt HumidityEntryOwn
  tauto

theorem humidAt_of_eq {b c : Bool} {s t : State} (hi : t.stationIndex = s.stationIndex) (hc : t.roomClass = s.roomClass)
    (hd : t.demand.stack = s.demand.stack) (hh : t.humid = s.humid)
    (hf : t.climate.humidity.fault = s.climate.humidity.fault) (hs : HumidAt b c s) : HumidAt b c t := by
  unfold HumidAt HumidityEntryOwn ownNumber at *
  rw [hi, hc, hd, hh, hf]
  exact hs

theorem humidityFault_quiet {s t : State} (h : Quiet s t) :
    t.climate.humidity.fault = s.climate.humidity.fault := by
  cases h
  case climate c hfaults _ _ => exact hfaults.2.2
  case stage => simp
  case endStage => simp
  case push => simp
  case startBoost => simp
  all_goals rfl

theorem humidAt_held (b c : Bool) (s t : State) (h : held s = held t) (hs : HumidAt b c s) : HumidAt b c t := by
  obtain ⟨hi, hr, -, -, -, hcl, -, hh, hd, -⟩ := fields_of_held h
  exact humidAt_of_eq hi.symm hr.symm hd.symm hh.symm (by rw [hcl]) hs

theorem humidAt_free (b c : Bool) : FreeOfMotion (HumidAt b c) := by
  refine .of_seq_free (shown_of_held (humidAt_held b c)) (fun s t h hs => ?_) (fun _ _ hs => hs)
    (fun _ _ _ _ _ hs => hs) (fun _ _ hs => hs)
  obtain ⟨hentry, hout, hfault⟩ := hs
  obtain ⟨hentry', hdisabled⟩ := humid_quiet h hentry
  obtain ⟨-, -, -, hclass, -⟩ := h.keeps
  refine ⟨hentry', fun hne => ?_, (humidityFault_quiet h).trans hfault⟩
  rw [hclass]
  exact hout fun he => hne (hdisabled.mpr he)

theorem humidAt_setHouse {b c : Bool} (h : HouseMode) (s : State) (hs : HumidAt b c s) : HumidAt b c (setHouse h s) :=
  humidAt_of_eq (by simp) (by simp) (by unfold setHouse; dsimp only; split <;> rfl) (by simp) (by simp) hs

theorem humidAt_act {b c : Bool} {own : Bool} {s s' : State} (h : Act own s s') (hs : HumidAt b c s) :
    HumidAt b c s' := by
  refine (humidAt_free b c).act_of_held (humidAt_held b c) h (fun cfg raw s _ _ hs => (humidAt_free b c).endStarting_of_levels (humidAt_held b c) ?_)
    (fun _ hs => humidAt_of_eq (by simp) (by simp) (by simp) (by simp) (by simp) hs) (fun _ hs => hs)
    (fun _ _ _ _ _ hs => hs) (fun _ _ _ _ hs => hs) (fun _ _ hs => hs) humidAt_setHouse (fun _ _ hs => hs)
    (fun _ _ hs => hs) (fun _ hs => hs) hs
  exact humidAt_of_eq (by simp) (by simp) (by simp [startLevels]) (by simp) (by simp) hs

/-- What the monitor makes of a fault raised, cleared or kept follows the channel. -/
theorem humidAt_onHumidity (before after : Channel) (s : State) (hs : HumidAt before.fault after.fault s) :
    HumidAt after.fault after.fault (onHumidity (faultChange before after) s) := by
  obtain ⟨hentry, hout, hfault⟩ := hs
  cases hb : before.fault <;> cases ha : after.fault
  case false.true =>
    have hdry : watchesHumidity s = false → s.humid.state = .disabled := by
      intro hw
      by_contra hne
      simp [watchesHumidity, (hout hne).1] at hw
    simp only [faultChange, hb, ha, onHumidity, humidFaultRaised]
    split
    case isTrue =>
      refine ⟨?_, by simp, by simpa [ha] using hfault⟩
      unfold leaveBoost
      split
      case isTrue =>
        exact humidityEntryOwn_of_eq (s := endBoost .disabled s) rfl (fun _ h => h) (by simp [endBoost])
          (humidityEntryOwn_removed _ s hentry)
      case isFalse hnb => exact humidityEntryOwn_of_eq (s := s) rfl (fun _ h => h) (fun h => absurd h hnb) hentry
    case isFalse hw => exact ⟨hentry, fun hne => absurd (hdry (by simpa using hw)) hne, by simpa [ha] using hfault⟩
  case true.false =>
    have hdisabled : s.humid.state = .disabled := by
      by_contra hne
      simp [hb] at hout
      exact hne hout
    simp only [faultChange, hb, ha, onHumidity, humidFaultCleared]
    split
    case isTrue h =>
      refine ⟨humidityEntryOwn_of_eq (s := s) rfl (fun _ h => h) (by simp [hdisabled]) hentry, fun _ => ⟨?_, rfl⟩,
        by simpa [ha] using hfault⟩
      simpa [watchesHumidity] using h.1
    case isFalse => exact ⟨hentry, fun hne => absurd hdisabled hne, by simpa [ha] using hfault⟩
  all_goals
    simp only [faultChange, hb, ha, onHumidity]
    rw [hb] at hout
    rw [ha] at hfault
    exact ⟨hentry, hout, hfault⟩

theorem humidInv_takeSample (i o h : BitVec 12) (s : State) (hs : HumidInv s) : HumidInv (takeSample i o h s) := by
  have hfault := (humidInv_iff s).mp hs
  have hstep : HumidAt s.climate.humidity.fault (stepChannels i o h s.climate).humidity.fault
      { s with climate := stepChannels i o h s.climate } := ⟨hfault.1, hfault.2.1, rfl⟩
  have hfaults := (acts_sampleFaults (own := false) (faultChange s.climate.inner (stepChannels i o h s.climate).inner)
    (faultChange s.climate.outer (stepChannels i o h s.climate).outer)
    (sampleSet { s with climate := stepChannels i o h s.climate } s.seq.state) _).keep (fun _ _ => humidAt_act) hstep
  have hend := (acts_sampleEnd (own := false) _).keep (fun _ _ => humidAt_act) (humidAt_onHumidity _ _ _ hfaults)
  exact (humidInv_iff _).mpr (hend.2.2 ▸ hend)

/-- Settles O16. -/
theorem humidityEntryOnlyInBoosting : Obligations.HumidityEntryOnlyInBoosting := by
  have hact {own : Bool} {s s' : State} (h : Act own s s') (hs : HumidInv s) : HumidInv s' := by
    have h' := humidAt_act h ((humidInv_iff s).mp hs)
    exact (humidInv_iff s').mpr (h'.2.2.symm ▸ h')
  refine keptByStep_of_held (fun s t h hs => ?_) (fun _ _ hs => hs) (fun i l cl s => ?_) (fun c m hm => ?_)
  · obtain ⟨-, -, -, -, -, hc, -⟩ := fields_of_held h
    exact (humidInv_iff t).mpr (hc ▸ humidAt_held _ _ s t h ((humidInv_iff s).mp hs))
  · refine ⟨fun hne => ?_, fun e he => absurd (show e ∈ [] from he) (by simp)⟩
    have hstate : (readStraps i l cl (resetBlocks s)).humid.state
      = if classOfStraps cl = .dry ∨ false = true then .disabled else .seeding := rfl
    refine ⟨fun hdry => hne ?_, rfl⟩
    rw [hstate, if_pos (.inl hdry)]
  · exact effect_keeps_of_acts (fun _ _ _ => hact) humidInv_takeSample (fun _ _ hs => hs) c m hm

/-! ## The frost account -/

theorem frostInv_of_eq {s t : State} (hf : t.frost = s.frost) (hq : t.seq.state = s.seq.state) (hs : FrostInv s) :
    FrostInv t := by
  unfold FrostInv at *
  rw [hf, hq]
  exact hs

theorem frost_of_abandonProbe (s : State) : (abandonProbe s).frost = s.frost := by simp

theorem frost_of_showChange (m s : State) : (showChange m s).frost = s.frost := by simp

theorem setStage_frost (st : FrostStage) (s : State) : (setStage st s).frost = { s.frost with stage := st } := by
  unfold setStage
  dsimp only
  split
  · rw [frost_of_abandonProbe, frost_of_showChange]
  · rw [frost_of_showChange]

theorem frostInv_quiet {s t : State} (h : Quiet s t) (hs : FrostInv s) : FrostInv t := by
  obtain ⟨-, -, -, -, -, -, hq, -⟩ := h.keeps
  obtain ⟨haccount, hmelt⟩ := hs
  cases h
  case stage st hnone =>
    rw [FrostInv, setStage_frost]
    refine ⟨haccount, fun hsome => ?_⟩
    have hstage := (hmelt hsome).1
    simp [hnone hstage] at hsome
  case endStage st =>
    refine ⟨?_, ?_⟩
    · simpa [leaveDefrost, clearDefrost, queueNotice, setStage_frost] using haccount
    · simp [leaveDefrost, clearDefrost]
  case frost f hstage hacc hmelts =>
    refine ⟨hacc ▸ haccount, fun hsome => ?_⟩
    rcases hmelts with h | h
    · exact hstage ▸ hmelt (h ▸ hsome)
    · simp [h] at hsome
  case account a ha => exact ⟨by rw [setAccount_account]; omega, hmelt⟩
  case melt e hstage hstate =>
    refine ⟨haccount, fun _ => ⟨hstage, ?_⟩⟩
    rcases hstate with h | h
    · exact h
    · exact (hmelt h).2
  case push => exact frostInv_of_eq (s := s) (by simp) (by simp) ⟨haccount, hmelt⟩
  case startBoost => exact frostInv_of_eq (s := s) (by simp) (by simp) ⟨haccount, hmelt⟩
  all_goals exact ⟨haccount, hmelt⟩

theorem withdraw_frost (st : FrostStage) (s : State) : (withdraw st s).frost = { s.frost with
    stage := st, notice := some ⟨.withdraw, false⟩, windowEnd := none, contentionStart := none, entryAccount := none } := by
  rw [withdraw, setStage_frost]
  rfl

/-- A melt step that stands after the guard has followed the sequencer stands in DEFROSTING, with the sequencer in
DEFROST. -/
theorem meltStep_frostOnSequencer (old : SeqState) (s : State)
    (hmelt : s.frost.meltStepEnd.isSome = true → s.frost.stage = .defrosting ∧ old = .defrost)
    (hsome : (frostOnSequencer old s).frost.meltStepEnd.isSome = true) :
    (frostOnSequencer old s).frost.stage = .defrosting ∧ s.seq.state = .defrost := by
  have hother (h : s.frost.stage ≠ .defrosting) : s.frost.meltStepEnd.isSome = true → False := fun hs => h (hmelt hs).1
  unfold frostOnSequencer at *
  split at hsome
  case isTrue =>
    unfold frostOnStopped at hsome
    split at hsome
    case h_1 h => exact absurd (by simpa [withdraw_frost] using hsome) (hother (by simp [h]))
    case h_2 h => simp [setStage_frost, startLockout, leaveDefrost] at hsome
    case h_3 h =>
      have hnone := hother (by simp [h])
      split at hsome
      · exact absurd hsome hnone
      · exact absurd hsome hnone
    case h_4 hc hd hb => exact absurd hsome (hother hd)
  case isFalse hstopped =>
    rw [if_neg hstopped]
    split at hsome
    case isTrue hstage =>
      rw [if_pos hstage]
      unfold defrostOnSequencer at *
      split at hsome
      case isTrue h => exact ⟨by simpa [h] using hstage, h.1⟩
      case isFalse hnew =>
        rw [if_neg hnew]
        split at hsome
        case isTrue => simp [setStage_frost, leaveDefrost] at hsome
        case isFalse hrest =>
          rw [if_neg hrest]
          split at hsome
          case isTrue => simp at hsome
          case isFalse hleft =>
            rw [if_neg hleft]
            have hold := (hmelt hsome).2
            exact ⟨hstage, by_contra fun h => hleft ⟨h, hold⟩⟩
    case isFalse hstage => exact absurd hsome (hother hstage)

/-- The frost record after a change of the sequencer's record is that of the guard's own answer. -/
theorem changeSeq_frost (q : SeqRec) (s : State) :
    (changeSeq q s).frost = (frostOnSequencer s.seq.state (showChange s { s with seq := q })).frost := by
  simp [changeSeq, notify]

/-- A change of the sequencer's state drops a melt step that it does not allow. -/
theorem frostInv_changeSeq (q : SeqRec) (s : State) (hs : FrostInv s) : FrostInv (changeSeq q s) := by
  obtain ⟨haccount, hmelt⟩ := hs
  refine ⟨by simpa using haccount, fun hsome => ?_⟩
  rw [changeSeq_seq, changeSeq_frost] at *
  have h := meltStep_frostOnSequencer s.seq.state (showChange s { s with seq := q }) (by simpa using hmelt) hsome
  exact ⟨h.1, by simpa using h.2⟩

theorem frostInv_held (s t : State) (h : held s = held t) (hs : FrostInv s) : FrostInv t := by
  obtain ⟨-, -, -, -, hq, -, hf, -⟩ := fields_of_held h
  exact frostInv_of_eq hf.symm (by rw [hq]) hs

theorem frostInv_free : FreeOfMotion FrostInv where
  shown := shown_of_held frostInv_held
  quiet _ _ := frostInv_quiet
  change := frostInv_changeSeq
  seq _ s hq hs := frostInv_of_eq (s := s) rfl hq hs
  drive _ _ _ _ _ hs := hs
  clock _ _ hs := hs

theorem frostInv_act {own : Bool} {s s' : State} (h : Act own s s') (hs : FrostInv s) : FrostInv s' := by
  refine frostInv_free.act_of_held frostInv_held h
    (fun cfg raw s _ _ hs => frostInv_free.endStarting_of_levels frostInv_held ?_)
    (fun _ hs => frostInv_of_eq (by simp) (by simp) hs) (fun _ hs => hs)
    (fun _ _ _ _ _ hs => hs) (fun _ _ _ _ hs => hs) (fun _ _ hs => hs)
    (fun _ _ hs => frostInv_of_eq (by simp) (by simp) hs) (fun _ _ hs => hs) (fun _ _ hs => hs) (fun _ hs => hs) hs
  exact frostInv_of_eq (by simp) (by simp) hs

/-- Settles O14. -/
theorem frostAccountStaysInRange : Obligations.FrostAccountStaysInRange := by
  have hact := fun own s s' => @frostInv_act own s s'
  refine keptByStep_of_held frostInv_held (fun _ _ hs => hs) (fun _ _ _ s => ⟨Nat.zero_le _, ?_⟩)
    (effect_keeps_of_acts hact (takeSample_keeps_of_acts hact (fun _ _ _ _ hs => hs) fun x s hs => ?_) fun s hq hs => ?_)
  · exact fun h => absurd (show none.isSome = true from h) (by simp)
  · exact frostInv_of_eq (by simp) (by simp) hs
  · exact frostInv_of_eq (s := s) rfl rfl hs

end Sys2Proof.Proofs

/-! What each motion makes of the sequencer's record, the drive and the clock. -/

namespace Sys2Proof.Proofs

open Sys2Proof.Machine

/-- What some quiet acts keep. -/
theorem Quiets.keeps {s s' : State} (h : Quiets s s') :
    s'.now = s.now ∧ s'.stationIndex = s.stationIndex ∧ s'.lane = s.lane ∧ s'.roomClass = s.roomClass
    ∧ s'.cfg = s.cfg ∧ s'.clock = s.clock ∧ s'.seq = s.seq ∧ s'.peers = s.peers ∧ s'.house = s.house
    ∧ s'.line.active = s.line.active ∧ withoutHold s'.fan = withoutHold s.fan
    ∧ s'.loader.config = s.loader.config := by
  refine h.keep (inv := fun x => x.now = s.now ∧ x.stationIndex = s.stationIndex ∧ x.lane = s.lane
    ∧ x.roomClass = s.roomClass ∧ x.cfg = s.cfg ∧ x.clock = s.clock ∧ x.seq = s.seq ∧ x.peers = s.peers
    ∧ x.house = s.house ∧ x.line.active = s.line.active ∧ withoutHold x.fan = withoutHold s.fan
    ∧ x.loader.config = s.loader.config) (fun x y hxy hx => ?_) (by simp)
  obtain ⟨e1, e2, e3, e4, e5, e6, e7, e8, e9, e10, e11, e12⟩ := hxy.keeps
  rw [e1, e2, e3, e4, e5, e6, e7, e8, e9, e10, e11, e12]
  exact hx

/-! ## The sequencer's record -/

@[simp] theorem enterSwitch_seq (g : Target) (s : State) :
    (enterSwitch g s).seq = { s.seq with phase := some .switch, phaseStart := some s.now } := rfl

theorem enterRundown_seq (g : Target) (s : State) :
    (enterRundown g s).seq = { s.seq with phase := some (firstPhase s.fan.speed), phaseStart := some s.now } := by
  unfold enterRundown firstPhase
  dsimp only
  split <;> rfl

theorem beginReversing_seq (g : Target) (s : State) :
    (beginReversing g s).seq = { s.seq with
      state := .reversing, phase := some (firstPhase s.fan.speed), target := some g, phaseStart := some s.now } := by
  unfold beginReversing
  rw [enterRundown_seq]
  simp

theorem enterRest_seq (s : State) :
    (enterRest s).seq = { s.seq with
      state := .rest, phase := none, target := none, phaseStart := none, restHeld := false, restStart := some s.now
      defrostResume := false, pauseEnd := none } := by
  simp [enterRest]

theorem enterDirect_seq (st : SeqState) (s : State) : (enterDirect st s).seq = { s.seq with state := st } := by
  simp [enterDirect]

/-- The phase in which a reversal goes on after its target has been replaced by one of the other direction. -/
def phaseTurned (p : Option Phase) (speed : Nat) : Option Phase :=
  match p with
  | some .switch => some .switch
  | some .spinup => some (firstPhase speed)
  | p => p

theorem phaseTurned_isSome (p : Option Phase) (speed : Nat) : (phaseTurned p speed).isSome = p.isSome := by
  unfold phaseTurned
  split <;> rfl

/-- What a new target makes of the record: the target, and where the direction turns the phase from now. -/
theorem retarget_seq {g h : Target} {s : State} (ht : s.seq.target = some h) :
    (retarget g s).seq =
      if g.direction s.lane = h.direction s.lane ∨ s.seq.phase = none ∨ s.seq.phase = some .rundown then
        { s.seq with target := some g }
      else { s.seq with target := some g, phase := phaseTurned s.seq.phase s.fan.speed, phaseStart := some s.now } := by
  unfold retarget
  rw [ht]
  dsimp only
  by_cases he : g = h
  · rw [if_pos he, he, if_pos (.inl rfl), ← ht]
  · rw [if_neg he]
    by_cases hd : g.direction s.lane = h.direction s.lane
    · rw [if_pos hd, if_pos (.inl hd)]
      simp [replaceTarget]
    · rw [if_neg hd]
      split
      case h_1 hp => simp [replaceTarget, hp, hd, phaseTurned]
      case h_2 hp => simp [replaceTarget, hp, hd, phaseTurned, enterRundown_seq]
      case h_3 hs hr =>
        rw [if_pos]
        · simp [replaceTarget]
        · cases hp : s.seq.phase with
          | none => simp
          | some p => cases p <;> simp_all

theorem enterStopped_seq (s : State) :
    (enterStopped s).seq = { s.seq with
      state := .stopped, phase := none, target := none, phaseStart := none, restHeld := false, rejoin := none
      defrostResume := false, pauseEnd := none, restStart := none, settling := 0 } := by
  simp [enterStopped]

theorem enterPaused_seq (resume : Bool) (s : State) :
    (enterPaused resume s).seq =
      if s.seq.restHeld then
        { s.seq with
          state := .rest, phase := none, target := none, phaseStart := none, restHeld := false
          restStart := some s.now, defrostResume := false, pauseEnd := none, settling := 2 }
      else
        { s.seq with
          state := .paused, phase := none, target := none, phaseStart := none
          pauseEnd := some (s.now + seconds 30), defrostResume := resume, settling := 2 } := by
  simp only [enterPaused, changeSeq_seq]
  split
  · simp [enterRest_seq]
  · simp

theorem release_seq {s : State} (h : s.seq.state = .stopped) :
    (release s).seq = { s.seq with state := .listen, stallHistory := [] } := by
  simp [release, h, enterListen]

theorem beginCycling_seq (s : State) :
    (beginCycling s).seq =
      if s.seq.restHeld then
        { s.seq with
          state := .rest, phase := none, target := none, phaseStart := none, restHeld := false
          restStart := some s.now, defrostResume := false, pauseEnd := none, settling := 2 }
      else
        { s.seq with
          state := .reversing, phase := some (firstPhase s.fan.speed), target := some (laneDirectionNow s).target
          phaseStart := some s.now, settling := 2 } := by
  unfold beginCycling
  dsimp only
  split
  · rw [enterRest_seq]
  · rw [beginReversing_seq]
    rfl

/-- The clock at the end of LISTEN, before the collection opens. -/
def clockStarted (s : State) : State :=
  reformReference { (match listenPeer s with | some p => adoptCount p s | none => startCount s) with
    clock := { (match listenPeer s with | some p => adoptCount p s | none => startCount s).clock with
      listenEnd := none, running := true } }

theorem startCycling_eq (s : State) :
    startCycling s = beginCycling (openCollection (humidOnListenEnd (clockStarted s))) := rfl

@[simp] theorem clockStarted_keeps (s : State) :
    (clockStarted s).seq = s.seq ∧ (clockStarted s).fan = s.fan ∧ (clockStarted s).now = s.now
    ∧ (clockStarted s).lane = s.lane := by
  unfold clockStarted
  split <;> simp

theorem startCycling_seq (s : State) :
    (startCycling s).seq =
      if s.seq.restHeld then
        { s.seq with
          state := .rest, phase := none, target := none, phaseStart := none, restHeld := false
          restStart := some s.now, defrostResume := false, pauseEnd := none, settling := 2 }
      else
        { s.seq with
          state := .reversing, phase := some (firstPhase s.fan.speed)
          target := some (laneDirectionNow (clockStarted s)).target, phaseStart := some s.now, settling := 2 } := by
  rw [startCycling_eq, beginCycling_seq]
  simp [laneDirectionNow]

theorem endStarting_seq (c : ConfigRecord) (raw : LineLevels) (s : State) :
    (endStarting c raw s).seq = { s.seq with state := .listen } := by
  simp [endStarting, enterListen]

end Sys2Proof.Proofs

/-! The sequencer's record stays whole, and the direction changes in SWITCH alone. -/

namespace Sys2Proof.Proofs

open Sys2Proof.Machine

/-! ## The sequencer's record -/

/-- R19, R35, R38 of the record itself. -/
def SeqWhole (q : SeqRec) : Prop :=
  (q.phase.isSome = true ↔ q.state = .reversing)
    ∧ (q.target.isSome = true ↔ q.state = .reversing)
    ∧ (q.phaseStart.isSome = true ↔ q.state = .reversing)
    ∧ q.settling ≤ 2
    ∧ q.stallHistory.length ≤ 3
    ∧ (q.state ≠ .stopped → q.stallHistory.length ≤ 2)

theorem historyWith_length (n : Time) (h : List Time) : (historyWith n h).length ≤ h.length + 1 := by
  simp only [historyWith, List.length_append, List.length_singleton]
  exact Nat.succ_le_succ (List.length_filter_le _ _)

/-- A record out of REVERSING and STOPPED without phase and target is whole when its history and settling count are. -/
theorem seqWhole_standing {q : SeqRec} (hstate : q.state ≠ .reversing) (hp : q.phase = none) (ht : q.target = none)
    (hb : q.phaseStart = none) (hsettling : q.settling ≤ 2) (hhistory : q.stallHistory.length ≤ 2) : SeqWhole q := by
  refine ⟨?_, ?_, ?_, hsettling, by omega, fun _ => hhistory⟩ <;> simp [*]

/-- A record in REVERSING with phase and target is whole when its history and settling count are. -/
theorem seqWhole_reversing {q : SeqRec} (hstate : q.state = .reversing) (hp : q.phase.isSome = true)
    (ht : q.target.isSome = true) (hb : q.phaseStart.isSome = true) (hsettling : q.settling ≤ 2)
    (hhistory : q.stallHistory.length ≤ 2) : SeqWhole q := by
  refine ⟨?_, ?_, ?_, hsettling, by omega, fun _ => hhistory⟩ <;> simp [*]

/-- Out of REVERSING phase, target and phase start are absent. -/
theorem seqWhole_none {q : SeqRec} (h : SeqWhole q) (hstate : q.state ≠ .reversing) :
    q.phase = none ∧ q.target = none ∧ q.phaseStart = none := by
  obtain ⟨hp, ht, hb, -⟩ := h
  simpa [hstate] using And.intro hp (And.intro ht hb)

theorem drives_state {q : SeqState} (h : drives q = true) : q ≠ .reversing ∧ q ≠ .stopped := by
  cases q <;> simp_all [drives]

theorem moving_ne_stopped {q : SeqRec} (h : q.moving = true) : q.state ≠ .stopped := by
  intro hs
  simp [SeqRec.moving, hs] at h

theorem seqWhole_beginReversing (g : Target) {s : State} (h : SeqWhole s.seq) (hstate : s.seq.state ≠ .stopped) :
    SeqWhole (beginReversing g s).seq := by
  obtain ⟨-, -, -, hsettling, -, hhistory⟩ := h
  rw [beginReversing_seq]
  exact seqWhole_reversing rfl rfl rfl rfl hsettling (hhistory hstate)

theorem seqWhole_enterRest {s : State} (hsettling : s.seq.settling ≤ 2) (hhistory : s.seq.stallHistory.length ≤ 2) :
    SeqWhole (enterRest s).seq := by
  rw [enterRest_seq]
  exact seqWhole_standing (by simp) rfl rfl rfl hsettling hhistory

theorem seqWhole_retarget (g : Target) {s : State} (h : SeqWhole s.seq) (hstate : s.seq.state = .reversing) :
    SeqWhole (retarget g s).seq := by
  obtain ⟨hp, ht, hb, hsettling, -, hhistory⟩ := h
  obtain ⟨t, htarget⟩ := Option.isSome_iff_exists.mp (ht.mpr hstate)
  have hlen := hhistory (by simp [hstate])
  rw [retarget_seq htarget]
  split
  · exact seqWhole_reversing hstate (hp.mpr hstate) rfl (hb.mpr hstate) hsettling hlen
  · exact seqWhole_reversing hstate (by simpa [phaseTurned_isSome] using hp.mpr hstate) rfl rfl hsettling hlen

theorem seqWhole_takeStall {s : State} (h : SeqWhole s.seq) (hmoving : s.seq.moving = true) :
    SeqWhole (takeStall s).seq := by
  obtain ⟨-, -, -, -, -, hhistory⟩ := h
  have hlen := historyWith_length s.now s.seq.stallHistory
  have hold := hhistory (moving_ne_stopped hmoving)
  unfold takeStall
  dsimp only
  split
  · rw [enterStopped_seq]
    exact ⟨by simp, by simp, by simp, Nat.zero_le _, by dsimp only; omega, by simp⟩
  · rw [enterPaused_seq]
    split
    · exact seqWhole_standing (by simp) rfl rfl rfl le_rfl (by dsimp only; omega)
    · exact seqWhole_standing (by simp) rfl rfl rfl le_rfl (by dsimp only; omega)

theorem seqWhole_startCycling {s : State} (h : SeqWhole s.seq) (hstate : s.seq.state = .listen) :
    SeqWhole (startCycling s).seq := by
  have hlen := h.2.2.2.2.2 (by simp [hstate])
  rw [startCycling_seq]
  split
  · exact seqWhole_standing (by simp) rfl rfl rfl le_rfl hlen
  · exact seqWhole_reversing rfl rfl rfl rfl le_rfl hlen

theorem seqWhole_act {own : Bool} {s s' : State} (h : Act own s s') (hs : SeqWhole s.seq) : SeqWhole s'.seq := by
  have hkeep {t : State} (he : t.seq = s.seq) : SeqWhole t.seq := he ▸ hs
  obtain ⟨hp, ht, hb, hsettling, hlen, hhistory⟩ := id hs
  cases h
  case quiet h => exact hkeep h.keeps.2.2.2.2.2.2.1
  case note q hstate hphase htarget hstart hset hhist =>
    refine ⟨?_, ?_, ?_, by dsimp only; omega, by dsimp only; omega, fun hne => ?_⟩
    · rw [hphase, hstate, hp]
    · rw [htarget, hstate, ht]
    · rw [hstart, hstate, hb]
    · exact hhist.trans (hhistory (hstate ▸ hne))
  case reverse g hfrom =>
    refine seqWhole_beginReversing g hs ?_
    rcases hfrom with h | h | h
    · exact (drives_state h).2
    · simp [h]
    · simp [h]
  case direct st hst hfrom =>
    obtain ⟨e1, e2, e3⟩ := seqWhole_none hs (drives_state hfrom).1
    rw [enterDirect_seq]
    exact seqWhole_standing (drives_state hst).1 e1 e2 e3 hsettling (hhistory (drives_state hfrom).2)
  case retarget g hstate => exact seqWhole_retarget g hs hstate
  case rest hfrom =>
    refine seqWhole_enterRest hsettling (hhistory ?_)
    rcases hfrom with h | h
    · exact (drives_state h).2
    · simp [h]
  case complete g hstate _ _ =>
    rw [changeSeq_seq]
    exact seqWhole_standing (drives_state (drives_target g)).1 rfl rfl rfl hsettling (hhistory (by simp [hstate]))
  case stall w hmoving _ => exact seqWhole_takeStall (s := { s with fan := { s.fan with stallWatch := w } }) hs hmoving
  case switch hstate _ htarget =>
    exact seqWhole_reversing hstate rfl (by simp [htarget]) rfl hsettling (hhistory (by simp [hstate]))
  case release hstate =>
    obtain ⟨e1, e2, e3⟩ := seqWhole_none hs (by simp [hstate])
    rw [release_seq hstate]
    exact seqWhole_standing (by simp) e1 e2 e3 hsettling (Nat.zero_le _)
  case cycle hstate => exact seqWhole_startCycling hs hstate
  case starting hstate _ =>
    obtain ⟨e1, e2, e3⟩ := seqWhole_none hs (by simp [hstate])
    rw [endStarting_seq]
    exact seqWhole_standing (by simp) e1 e2 e3 hsettling (hhistory (by simp [hstate]))
  all_goals exact hkeep (by simp)

/-- Settles O12. -/
theorem sequencerRecordStaysWhole : Obligations.SequencerRecordStaysWhole := by
  have hact := fun own s s' => @seqWhole_act own s s'
  refine keptByStep_of_held (inv := fun s => SeqWhole s.seq) (fun s t h hs => ?_) (fun _ _ hs => hs) (fun _ _ _ _ => ?_)
    (effect_keeps_of_acts hact (takeSample_keeps_of_acts hact (fun _ _ _ _ hs => hs) fun x s hs => ?_) fun s hq hs => ?_)
  · obtain ⟨-, -, -, -, hq, -⟩ := fields_of_held h
    exact hq ▸ hs
  · exact seqWhole_standing (q := SeqRec.reset) (by decide) rfl rfl rfl (by decide) (by decide)
  · simpa using hs
  · obtain ⟨-, ht, -, hsettling, -, hhistory⟩ := hs
    exact seqWhole_reversing hq rfl (ht.mpr hq) rfl hsettling (hhistory (by simp [hq]))

/-! ## The direction -/

theorem enterRundown_direction (g : Target) (s : State) :
    (enterRundown g s).fan.direction = if s.fan.speed < 300 then g.direction s.lane else s.fan.direction := by
  unfold enterRundown
  dsimp only
  split <;> rfl

/-- The direction is `d`, or the reversal is in SWITCH. -/
def SteadyOrSwitch (d : Dir) (s : State) : Prop := s.fan.direction = d ∨ inPhase .switch s = true

theorem steadyOrSwitch_of_eq {d : Dir} {s t : State} (hd : t.fan.direction = s.fan.direction)
    (hq : t.seq.state = s.seq.state) (hp : t.seq.phase = s.seq.phase) (hs : SteadyOrSwitch d s) :
    SteadyOrSwitch d t := by
  unfold SteadyOrSwitch inPhase at *
  rw [hd, hq, hp]
  exact hs

theorem SteadyOrSwitch.direction {d : Dir} {s : State} (h : SteadyOrSwitch d s) (hnot : s.seq.state ≠ .reversing
    ∨ s.seq.phase ≠ some .switch) : s.fan.direction = d := by
  rcases h with h | h
  · exact h
  · have hp := inPhase_iff.mp h
    rcases hnot with hn | hn
    · exact absurd hp.1 hn
    · exact absurd hp.2 hn

theorem steadyOrSwitch_enterSwitch (d : Dir) (g : Target) {s : State} (h : s.seq.state = .reversing) :
    SteadyOrSwitch d (enterSwitch g s) := .inr (inPhase_iff.mpr ⟨h, rfl⟩)

theorem steadyOrSwitch_enterRundown {d : Dir} (g : Target) {s : State} (h : s.seq.state = .reversing)
    (hd : s.fan.direction = d) : SteadyOrSwitch d (enterRundown g s) := by
  by_cases hspeed : s.fan.speed < 300
  · refine .inr (inPhase_iff.mpr ?_)
    rw [enterRundown_seq, firstPhase, if_pos hspeed]
    exact ⟨h, rfl⟩
  · refine .inl ?_
    rw [enterRundown_direction, if_neg hspeed, hd]

theorem steadyOrSwitch_retarget {d : Dir} (g : Target) {s : State} (h : s.seq.state = .reversing)
    (hs : SteadyOrSwitch d s) : SteadyOrSwitch d (retarget g s) := by
  have hsame : SteadyOrSwitch d (replaceTarget g s) :=
    steadyOrSwitch_of_eq (by simp) (by simp [replaceTarget]) (by simp [replaceTarget]) hs
  have hstate : (replaceTarget g s).seq.state = .reversing := by simpa [replaceTarget] using h
  unfold retarget
  split
  · exact hs
  · split
    · exact hs
    · dsimp only
      split
      · exact hsame
      · split
        · exact steadyOrSwitch_enterSwitch d g hstate
        case h_2 hp => exact steadyOrSwitch_enterRundown g hstate (by simpa using hs.direction (.inr (by simp [hp])))
        · exact hsame

theorem steadyOrSwitch_act {d : Dir} {own : Bool} {s s' : State} (h : Act own s s') (hs : SteadyOrSwitch d s) :
    SteadyOrSwitch d s' := by
  cases h
  case quiet h =>
    obtain ⟨-, -, -, -, -, -, hq, -, -, -, hfan, -⟩ := h.keeps
    exact steadyOrSwitch_of_eq (by simpa [withoutHold] using congrArg FanRec.direction hfan) (by rw [hq]) (by rw [hq]) hs
  case note q hstate hphase _ _ _ _ => exact steadyOrSwitch_of_eq (s := s) rfl hstate hphase hs
  case reverse g hfrom =>
    have hnot : s.seq.state ≠ .reversing := by
      rcases hfrom with h | h | h
      · exact (drives_state h).1
      · simp [h]
      · simp [h]
    have hd := hs.direction (.inl hnot)
    exact steadyOrSwitch_enterRundown g (by simp) (by simpa using hd)
  case direct st hst hfrom => exact .inl (by simpa using hs.direction (.inl (drives_state hfrom).1))
  case retarget g hstate => exact steadyOrSwitch_retarget g hstate hs
  case rest hfrom =>
    have hnot : s.seq.state ≠ .reversing := by
      rcases hfrom with h | h
      · exact (drives_state h).1
      · simp [h]
    exact .inl (by simpa using hs.direction (.inl hnot))
  case complete g _ hphase _ => exact .inl (by simpa using hs.direction (.inr (by simp [hphase])))
  case stall w hmoving _ =>
    have hnot : s.seq.state ≠ .reversing ∨ s.seq.phase ≠ some .switch := by
      by_contra h
      push Not at h
      simp [SeqRec.moving, h] at hmoving
    exact .inl (by simpa using hs.direction hnot)
  case switch g hstate _ _ => exact steadyOrSwitch_enterSwitch d g hstate
  case release hstate => exact .inl (by simpa using hs.direction (.inl (by simp [hstate])))
  case cycle hstate =>
    have hd := hs.direction (.inl (by simp [hstate]))
    rw [startCycling_eq]
    unfold beginCycling
    dsimp only
    split
    · exact .inl (by simpa using hd)
    · exact steadyOrSwitch_enterRundown _ (by simp) (by simpa using hd)
  case starting hstate _ => exact .inl (by simpa using hs.direction (.inl (by simp [hstate])))
  all_goals exact steadyOrSwitch_of_eq (by simp) (by simp) (by simp) hs

/-- Settles O21: the direction moves where SWITCH begins, and no act leaves SWITCH within the command. -/
theorem directionChangesOnlyInSwitch : Obligations.DirectionChangesOnlyInSwitch := by
  intro c s s' hc hexec hne
  rcases exec_next_cases hc hexec with ⟨_, rfl⟩ | ⟨t, _, _, rfl⟩
  · exact absurd rfl hne
  · have hact := fun own x y => @steadyOrSwitch_act s.fan.direction own x y
    have heffect : SteadyOrSwitch s.fan.direction (effectOf c (advance t s)) :=
      effect_of_acts (m := advance t s) hact (.inl (by simp))
        (fun i o h => takeSample_keeps_of_acts hact (fun _ _ _ _ hs => hs)
          (fun _ _ hs => steadyOrSwitch_of_eq (by simp) (by simp) (by simp) hs) i o h _ (.inl (by simp)))
        (fun _ => .inl rfl) c
    obtain ⟨-, -, -, -, hq, -, -, -, -, -, -, -, -, -, -, -, -, -, hd, -⟩ := fields_of_held (held_after c t s)
    have hafter := steadyOrSwitch_of_eq hd (by rw [hq]) (by rw [hq]) heffect
    exact hafter.resolve_left hne

end Sys2Proof.Proofs

/-! The clock runs with the sequencer, its lengths stay in range, and its reference is the timing reference. -/

namespace Sys2Proof.Proofs

open Sys2Proof.Machine

/-- The states in which the clock runs (R1). -/
def runsIn (q : SeqState) : Prop := q ≠ .starting ∧ q ≠ .listen ∧ q ≠ .stopped

/-- R1, R2 without the reference, for a clock that belongs to the state `q`. -/
def ClockBase (q : SeqState) (s : State) : Prop :=
  (s.clock.running = true ↔ runsIn q)
    ∧ (s.clock.endTime.isSome = true ↔ s.clock.running = true)
    ∧ (s.clock.startTime.isSome = true ↔ s.clock.running = true)
    ∧ (s.clock.heardLength.isSome = true → s.clock.running = true)
    ∧ lengthInRange s.clock.length
    ∧ (∀ n ∈ s.clock.heardLength, lengthInRange n)
    ∧ lengthInRange s.cfg.fixedLength
    ∧ (∀ c ∈ s.loader.config, lengthInRange c.fixedLength)
    ∧ (∀ p ∈ s.peers, ∀ x ∈ p.status, lengthInRange x.halfLength)

/-- The reference that belongs to the state `q` (R139). -/
def RefFor (q : SeqState) (s : State) : Prop :=
  s.clock.reference = if q = .starting then none else timingReference s

theorem clockInv_iff (s : State) : ClockInv s ↔ ClockBase s.seq.state s ∧ RefFor s.seq.state s := by
  unfold ClockInv ClockBase RefFor runsIn
  tauto

theorem timingReference_of_eq {s t : State} (hr : t.clock.running = s.clock.running)
    (hi : t.stationIndex = s.stationIndex) (ha : t.line.active = s.line.active) (hp : t.peers = s.peers) :
    timingReference t = timingReference s := by
  simp only [timingReference, ownNumber, hr, hi, ha, hp]

theorem clockBase_of_eq {q : SeqState} {s t : State} (hk : t.clock = s.clock) (hc : t.cfg = s.cfg)
    (hl : t.loader.config = s.loader.config) (hp : t.peers = s.peers) (hs : ClockBase q s) : ClockBase q t := by
  unfold ClockBase at *
  rw [hk, hc, hl, hp]
  exact hs

theorem refFor_of_clock {q : SeqState} {s t : State} (href : t.clock.reference = s.clock.reference)
    (hr : t.clock.running = s.clock.running) (hp : t.peers = s.peers) (hi : t.stationIndex = s.stationIndex)
    (ha : t.line.active = s.line.active) (hs : RefFor q s) : RefFor q t := by
  unfold RefFor at *
  rw [timingReference_of_eq hr hi ha hp, href]
  exact hs

theorem refFor_of_eq {q : SeqState} {s t : State} (hk : t.clock = s.clock) (hp : t.peers = s.peers)
    (hi : t.stationIndex = s.stationIndex) (ha : t.line.active = s.line.active) (hs : RefFor q s) : RefFor q t :=
  refFor_of_clock (by rw [hk]) (by rw [hk]) hp hi ha hs

/-- Two states in which the clock is alike. -/
def clockAlike (q r : SeqState) : Prop := (runsIn q ↔ runsIn r) ∧ (q = .starting ↔ r = .starting)

theorem ClockBase.alike {q r : SeqState} {s : State} (h : clockAlike q r) (hs : ClockBase q s) : ClockBase r s := by
  unfold ClockBase at *
  rwa [← h.1]

theorem RefFor.alike {q r : SeqState} {s : State} (h : clockAlike q r) (hs : RefFor q s) : RefFor r s := by
  unfold RefFor at *
  simpa only [h.2] using hs

/-- What an act that leaves clock, configuration, peers and line keeps, when the new state is like the old one. -/
theorem clockInv_of_eq {s t : State} (hk : t.clock = s.clock) (hc : t.cfg = s.cfg)
    (hl : t.loader.config = s.loader.config) (hp : t.peers = s.peers) (hi : t.stationIndex = s.stationIndex)
    (ha : t.line.active = s.line.active) (hq : clockAlike s.seq.state t.seq.state) (hs : ClockInv s) : ClockInv t := by
  obtain ⟨hbase, href⟩ := (clockInv_iff s).mp hs
  exact (clockInv_iff t).mpr ⟨clockBase_of_eq hk hc hl hp (hbase.alike hq), refFor_of_eq hk hp hi ha (href.alike hq)⟩

theorem clockAlike_refl (q : SeqState) : clockAlike q q := ⟨Iff.rfl, Iff.rfl⟩

theorem clockAlike_of_runs {q r : SeqState} (hq : runsIn q) (hr : runsIn r) : clockAlike q r :=
  ⟨iff_of_true hq hr, iff_of_false hq.1 hr.1⟩

theorem runsIn_of_drives {q : SeqState} (h : drives q = true) : runsIn q := by
  cases q <;> simp_all [drives, runsIn]

/-! ## The reference is formed again -/

theorem reformReference_clock_cases (s : State) :
    (reformReference s).clock = s.clock
      ∨ (s.seq.state ≠ .starting
        ∧ (reformReference s).clock = { s.clock with reference := timingReference s, heardLength := none }) := by
  unfold reformReference
  split
  case isTrue => exact .inl rfl
  case isFalse h => exact .inr ⟨fun hs => h (.inl hs), rfl⟩

theorem timingReference_reformReference (s : State) : timingReference (reformReference s) = timingReference s := by
  refine timingReference_of_eq ?_ (by simp) (by simp) (by simp)
  rcases reformReference_clock_cases s with h | ⟨-, h⟩ <;> rw [h]

theorem reformReference_reference {s : State} (h : s.seq.state ≠ .starting) :
    (reformReference s).clock.reference = timingReference s := by
  unfold reformReference
  split
  case isTrue hs => exact hs.resolve_left h
  case isFalse => rfl

theorem clockBase_reformReference {q : SeqState} {s : State} (hs : ClockBase q s) :
    ClockBase q (reformReference s) := by
  rcases reformReference_clock_cases s with h | ⟨-, h⟩
  · exact clockBase_of_eq h (by simp) (by simp) (by simp) hs
  · obtain ⟨hrun, hend, hstart, -, hlen, -, hfixed, hconfig, hpeers⟩ := hs
    rw [ClockBase, h]
    exact ⟨hrun, hend, hstart, by simp, hlen, by simp, by simpa using hfixed, by simpa using hconfig,
      by simpa using hpeers⟩

theorem clockInv_reformReference {s : State} (hs : ClockBase s.seq.state s)
    (hstarting : s.seq.state = .starting → s.clock.reference = none) : ClockInv (reformReference s) := by
  refine (clockInv_iff _).mpr ⟨by simpa using clockBase_reformReference hs, ?_⟩
  unfold RefFor
  rw [timingReference_reformReference]
  split
  case isTrue h =>
    have h : s.seq.state = .starting := by simpa using h
    rcases reformReference_clock_cases s with hk | ⟨hn, -⟩
    · rw [hk]
      exact hstarting h
    · exact absurd h hn
  case isFalse h => exact reformReference_reference (by simpa using h)

/-- In STARTING no reference stands. -/
theorem reference_of_starting {s : State} (hs : ClockInv s) (h : s.seq.state = .starting) : s.clock.reference = none := by
  obtain ⟨-, href⟩ := (clockInv_iff s).mp hs
  simpa [RefFor, h] using href

/-! ## Lengths -/

theorem bandTable_range (row : Nat) (m : Mode) : lengthInRange (bandTable row m) := by
  unfold bandTable lengthInRange
  split <;> decide

theorem ownLength_range {s : State} (h : lengthInRange s.cfg.fixedLength) : lengthInRange (ownLength s) := by
  unfold ownLength
  split
  · exact bandTable_range _ _
  · exact h

theorem nextLength_range {q : SeqState} {s : State} (hs : ClockBase q s) : lengthInRange (nextLength s) := by
  obtain ⟨-, -, -, -, -, hheard, hfixed, -⟩ := hs
  unfold nextLength
  split
  case h_1 r n _ hn =>
    split
    · exact ownLength_range hfixed
    · exact hheard n (by simp [hn])
  case h_2 => exact ownLength_range hfixed

theorem configOf_fixedLength (bs : List Byte) : lengthInRange (configOf bs).fixedLength :=
  lengthInRange_heldLength (byteAt bs 11)

theorem defaults_fixedLength : lengthInRange ConfigRecord.defaults.fixedLength := by decide

/-! ## The start of the count -/

theorem listenPeer_range {s : State} {p : StatusPart} (h : listenPeer s = some p)
    (hpeers : ∀ r ∈ s.peers, ∀ x ∈ r.status, lengthInRange x.halfLength) : lengthInRange p.halfLength := by
  unfold listenPeer at h
  split at h
  case isTrue => cases h
  case isFalse =>
    obtain ⟨r, hr, hstatus⟩ := Option.bind_eq_some_iff.mp h
    exact hpeers r (List.mem_of_mem_filter (List.mem_of_mem_head? hr)) p hstatus

/-- At the end of LISTEN the clock is one that belongs to a cycling state. -/
theorem clockStarted_inv {s : State} (hs : ClockInv s) (hstate : s.seq.state = .listen) (q : SeqState)
    (hq : runsIn q) : ClockBase q (clockStarted s) ∧ RefFor q (clockStarted s) := by
  obtain ⟨-, -, -, -, -, hheard, hfixed, hconfig, hpeers⟩ := ((clockInv_iff s).mp hs).1
  constructor
  · refine clockBase_reformReference ?_
    split
    case h_1 p hp =>
      have hp := listenPeer_range hp hpeers
      refine ⟨by simp [hq], by simp [adoptCount], by simp [adoptCount], by simp, hp, ?_, hfixed, hconfig, hpeers⟩
      rintro n ⟨⟩
      exact hp
    case h_2 =>
      exact ⟨by simp [hq], by simp [startCount], by simp [startCount], by simp, ownLength_range hfixed, hheard, hfixed,
        hconfig, hpeers⟩
  · unfold RefFor clockStarted
    rw [if_neg hq.1, timingReference_reformReference]
    refine reformReference_reference ?_
    split <;> simp [adoptCount, startCount, hstate]

theorem clockInv_startCycling {s : State} (hs : ClockInv s) (hstate : s.seq.state = .listen) :
    ClockInv (startCycling s) := by
  have hrest : runsIn .rest := ⟨by decide, by decide, by decide⟩
  have hrev : runsIn .reversing := ⟨by decide, by decide, by decide⟩
  have hq : runsIn (startCycling s).seq.state := by
    rw [startCycling_seq]
    split
    · exact hrest
    · exact hrev
  obtain ⟨hbase, href⟩ := clockStarted_inv hs hstate _ hq
  rw [startCycling_eq] at *
  exact (clockInv_iff _).mpr ⟨clockBase_of_eq (by simp) (by simp) (by simp) (by simp) hbase,
    refFor_of_eq (by simp) (by simp) (by simp) (by simp) href⟩

/-! ## The acts -/

theorem clockInv_closeCollection {s : State} (hs : ClockInv s) : ClockInv (closeCollection s) := hs

theorem clockInv_takeStall {s : State} (hs : ClockInv s) (hmoving : s.seq.moving = true) : ClockInv (takeStall s) := by
  have hruns : runsIn s.seq.state := by
    refine ⟨fun h => ?_, fun h => ?_, fun h => ?_⟩ <;> simp [SeqRec.moving, h] at hmoving
  unfold takeStall
  dsimp only
  split
  · obtain ⟨-, -, -, -, hlen, -, hfixed, hconfig, hpeers⟩ := ((clockInv_iff s).mp hs).1
    have hstopped (x : State) (hclock : x.clock.length = s.clock.length) (hc : x.cfg = s.cfg)
        (hl : x.loader.config = s.loader.config) (hp : x.peers = s.peers) (hq : x.seq.state = .stopped) :
        ClockInv (stopClock x) := by
      refine clockInv_reformReference ?_ (by simp [hq])
      rw [ClockBase, hc, hl, hp, hq, hclock]
      exact ⟨by simp [runsIn], by simp, by simp, by simp, hlen, by simp, hfixed, hconfig, hpeers⟩
    refine clockInv_closeCollection (hstopped _ ?_ ?_ ?_ ?_ ?_) <;> simp
  · refine clockInv_of_eq (s := s) (by simp) (by simp) (by simp) (by simp) (by simp) (by simp)
      (clockAlike_of_runs hruns ?_) hs
    rw [enterPaused_seq]
    split <;> exact ⟨by simp, by simp, by simp⟩

theorem clockInv_peers {s : State} (ps : List PeerRec) (hs : ClockInv s)
    (hps : ∀ p ∈ ps, ∀ x ∈ p.status, lengthInRange x.halfLength) :
    ClockInv (reformReference { s with peers := ps }) := by
  obtain ⟨hrun, hend, hstart, hheard, hlen, hrange, hfixed, hconfig, -⟩ := ((clockInv_iff s).mp hs).1
  exact clockInv_reformReference ⟨hrun, hend, hstart, hheard, hlen, hrange, hfixed, hconfig, hps⟩
    (fun h => reference_of_starting (s := s) hs h)

theorem timingReference_updatePeer (n : Nat) (f : PeerRec → PeerRec) (s : State)
    (hf : ∀ p, (f p).number = p.number ∧ (f p).fresh = p.fresh ∧ (f p).status = p.status) :
    timingReference (updatePeer n f s) = timingReference s := by
  have hsame (p : PeerRec) : (if p.number = n then f p else p).counts = p.counts
      ∧ (if p.number = n then f p else p).number = p.number := by
    obtain ⟨hn, hr, hs⟩ := hf p
    split
    · exact ⟨by simp [PeerRec.counts, hr, hs], hn⟩
    · exact ⟨rfl, rfl⟩
  have hlist : ((updatePeer n f s).peers.filter (·.counts)).map (·.number)
      = (s.peers.filter (·.counts)).map (·.number) := by
    simp only [updatePeer, List.filter_map, List.map_map]
    have hcounts : ((fun p : PeerRec => p.counts) ∘ fun p => if p.number = n then f p else p)
        = fun p : PeerRec => p.counts := funext fun p => (hsame p).1
    rw [hcounts]
    exact List.map_congr_left fun p _ => (hsame p).2
  unfold timingReference
  rw [hlist]
  rfl

theorem clockInv_fallback (n : Nat) {s : State} (hs : ClockInv s) :
    ClockInv (updatePeer n (fun x => { x with defrost := x.defrost.map (fun d => { d with standing := .none }) }) s) := by
  obtain ⟨⟨hrun, hend, hstart, hheard, hlen, hrange, hfixed, hconfig, hpeers⟩, href⟩ := (clockInv_iff s).mp hs
  refine (clockInv_iff _).mpr ⟨⟨hrun, hend, hstart, hheard, hlen, hrange, hfixed, hconfig, fun p hp => ?_⟩, ?_⟩
  · obtain ⟨x, hx, rfl⟩ := List.mem_map.mp hp
    dsimp only
    split <;> exact hpeers x hx
  · unfold RefFor at *
    have hsame := timingReference_updatePeer n
      (fun x => { x with defrost := x.defrost.map (fun d => { d with standing := .none }) }) s fun p => ⟨rfl, rfl, rfl⟩
    rw [hsame]
    exact href

/-- The listen end is no part of what the clock keeps. -/
theorem clockInv_listenEnd (e : Option Time) {s : State} (hs : ClockInv s) :
    ClockInv { s with clock := { s.clock with listenEnd := e } } := by
  obtain ⟨hbase, href⟩ := (clockInv_iff s).mp hs
  exact (clockInv_iff _).mpr ⟨hbase, refFor_of_clock (s := s) rfl rfl rfl rfl rfl href⟩

theorem clockInv_enterListen {s : State} (hs : ClockInv s) (h : ¬ runsIn s.seq.state) (hn : s.seq.state ≠ .starting) :
    ClockInv (enterListen s) := by
  have hchange : ClockInv (changeSeq { s.seq with state := .listen } s) :=
    clockInv_of_eq (s := s) (by simp) (by simp) (by simp) (by simp) (by simp) (by simp)
      (by simpa using ⟨iff_of_false h (by simp [runsIn]), iff_of_false hn (by simp)⟩) hs
  exact clockInv_listenEnd _ hchange

theorem clockInv_release {s : State} (hs : ClockInv s) (h : s.seq.state = .stopped) : ClockInv (release s) := by
  unfold release
  rw [if_pos h]
  exact clockInv_enterListen (s := { s with seq := _, ctl := _ }) hs (by simp [h, runsIn]) (by simp [h])

theorem clockInv_endStarting (c : ConfigRecord) (raw : LineLevels) {s : State} (hs : ClockInv s)
    (h : s.seq.state = .starting) (hc : s.loader.config = some c) : ClockInv (endStarting c raw s) := by
  obtain ⟨hrun, hend, hstart, hheard, hlen, hrange, -, hconfig, hpeers⟩ := ((clockInv_iff s).mp hs).1
  refine clockInv_reformReference ?_ (by simp [enterListen])
  have hstopped : ¬ s.clock.running = true := by rw [hrun, h]; simp [runsIn]
  have hfixed : lengthInRange c.fixedLength := hconfig c hc
  have hbase : ClockBase .listen { s with cfg := c } :=
    ⟨iff_of_false hstopped (by simp [runsIn]), hend, hstart, hheard, hlen, hrange, hfixed, hconfig, hpeers⟩
  have hlisten (e : Option Time) : ClockBase .listen { s with cfg := c, clock := { s.clock with listenEnd := e } } := hbase
  rw [show (enterListen _).seq.state = .listen by simp [enterListen]]
  exact clockBase_of_eq (by simp [enterListen]; rfl) (by simp [enterListen]) (by simp [enterListen]) (by simp [enterListen])
    (hlisten _)

theorem clockInv_takeConfig (r : Option (List Byte)) {s : State} (hs : ClockInv s) : ClockInv (takeConfig r s) := by
  have hloader (c : ConfigRecord) (hc : lengthInRange c.fixedLength) (l : LoaderRec) (hl : l.config = some c)
      (ctl : ControlRec) : ClockInv { s with loader := l, ctl := ctl } := by
    obtain ⟨⟨hrun, hend, hstart, hheard, hlen, hrange, hfixed, -, hpeers⟩, href⟩ := (clockInv_iff s).mp hs
    refine (clockInv_iff _).mpr ⟨⟨hrun, hend, hstart, hheard, hlen, hrange, hfixed, fun x hx => ?_, hpeers⟩, href⟩
    rw [hl] at hx
    cases hx
    exact hc
  unfold takeConfig
  split
  · exact hloader _ defaults_fixedLength _ rfl s.ctl
  · dsimp only
    split
    · exact hloader _ (configOf_fixedLength _) _ rfl s.ctl
    · exact hloader _ defaults_fixedLength _ rfl _

theorem clockInv_advanceClock (len : Nat) (e : Time) {s : State} (hs : ClockInv s) (hrun : s.clock.running = true)
    (hlen : len = nextLength s ∨ lengthInRange len) : ClockInv (advanceClock len e s) := by
  obtain ⟨hbase, href⟩ := (clockInv_iff s).mp hs
  have hlen' : lengthInRange len := by
    rcases hlen with h | h
    · exact h ▸ nextLength_range hbase
    · exact h
  obtain ⟨hr, -, -, hheard, -, hrange, hfixed, hconfig, hpeers⟩ := hbase
  exact (clockInv_iff _).mpr ⟨⟨hr, by simp [advanceClock, hrun], by simp [advanceClock, hrun], hheard, hlen', hrange, hfixed, hconfig, hpeers⟩,
    href⟩

theorem clockInv_align (k : ClockRec) {s : State} (hs : ClockInv s) (hr : s.clock.running = true) (hrun : k.running = true)
    (href : k.reference = s.clock.reference) (hend : k.endTime.isSome = true ∨ k.endTime = s.clock.endTime)
    (hstart : k.startTime.isSome = true ∨ k.startTime = s.clock.startTime)
    (hlen : lengthInRange k.length ∨ k.length = s.clock.length)
    (hheard : (∀ n ∈ k.heardLength, lengthInRange n) ∨ k.heardLength = s.clock.heardLength) :
    ClockInv { s with clock := k } := by
  obtain ⟨⟨hruns, he, hb, -, hl, hh, hfixed, hconfig, hpeers⟩, hreference⟩ := (clockInv_iff s).mp hs
  have hend' : k.endTime.isSome = true := hend.elim id fun h => h ▸ he.mpr hr
  have hstart' : k.startTime.isSome = true := hstart.elim id fun h => h ▸ hb.mpr hr
  refine (clockInv_iff _).mpr ⟨⟨?_, iff_of_true hend' hrun, iff_of_true hstart' hrun, fun _ => hrun,
    hlen.elim id fun h => h ▸ hl, hheard.elim id fun h => h ▸ hh, hfixed, hconfig, hpeers⟩, ?_⟩
  · exact iff_of_true hrun (hruns.mp hr)
  · exact refFor_of_clock (s := s) href (hrun.trans hr.symm) rfl rfl rfl hreference

theorem clockInv_act {own : Bool} {s s' : State} (h : Act own s s') (hs : ClockInv s) : ClockInv s' := by
  have hpeers := ((clockInv_iff s).mp hs).1.2.2.2.2.2.2.2.2
  have hsame {t : State} (hk : t.clock = s.clock) (hc : t.cfg = s.cfg) (hl : t.loader.config = s.loader.config)
      (hp : t.peers = s.peers) (hi : t.stationIndex = s.stationIndex) (ha : t.line.active = s.line.active)
      (hq : clockAlike s.seq.state t.seq.state) : ClockInv t := clockInv_of_eq hk hc hl hp hi ha hq hs
  cases h
  case quiet h =>
    obtain ⟨-, hi, -, -, hc, hk, hq, hp, -, ha, -, hl⟩ := h.keeps
    exact hsame hk hc hl hp hi ha (hq ▸ clockAlike_refl _)
  case note q hstate _ _ _ _ _ => exact hsame rfl rfl rfl rfl rfl rfl (hstate ▸ clockAlike_refl _)
  case reverse g hfrom =>
    refine hsame (by simp) (by simp) (by simp) (by simp) (by simp) (by simp) (clockAlike_of_runs ?_ ?_)
    · rcases hfrom with h | h | h
      · exact runsIn_of_drives h
      · simp [h, runsIn]
      · simp [h, runsIn]
    · simp [beginReversing_seq, runsIn]
  case direct st hst hfrom =>
    refine hsame (by simp) (by simp) (by simp) (by simp) (by simp) (by simp)
      (clockAlike_of_runs (runsIn_of_drives hfrom) ?_)
    simpa [enterDirect_seq] using runsIn_of_drives hst
  case retarget g hstate =>
    have hstate : (retarget g s).seq.state = s.seq.state := by
      rcases ht : s.seq.target with _ | h
      · simp [retarget, ht]
      · rw [retarget_seq ht]
        split <;> rfl
    exact hsame (by simp) (by simp) (by simp) (by simp) (by simp) (by simp) (hstate ▸ clockAlike_refl _)
  case rest hfrom =>
    refine hsame (by simp) (by simp) (by simp) (by simp) (by simp) (by simp) (clockAlike_of_runs ?_ ?_)
    · rcases hfrom with h | h
      · exact runsIn_of_drives h
      · simp [h, runsIn]
    · simp [enterRest_seq, runsIn]
  case complete g hstate _ _ =>
    refine hsame (by simp) (by simp) (by simp) (by simp) (by simp) (by simp) (clockAlike_of_runs ?_ ?_)
    · simp [hstate, runsIn]
    · simpa using runsIn_of_drives (drives_target g)
  case stall w hmoving _ => exact clockInv_takeStall (s := { s with fan := { s.fan with stallWatch := w } }) hs hmoving
  case release hstate => exact clockInv_release hs hstate
  case cycle hstate => exact clockInv_startCycling hs hstate
  case starting hstate hc => exact clockInv_endStarting _ _ hs hstate hc
  case advanceClock hrun hlen => exact clockInv_advanceClock _ _ hs hrun hlen
  case align k hnew hold href hend hstart hlen hheard => exact clockInv_align k hs hold hnew href hend hstart hlen hheard
  case peer r _ _ _ hlen =>
    refine clockInv_peers _ hs fun p hp x hx => ?_
    rcases insertPeer_numbers_mem r p s.peers hp with rfl | hp
    · rcases hlen x hx with h | ⟨y, hy, hstatus⟩
      · exact h
      · exact hpeers y hy x hstatus
    · exact hpeers p hp x hx
  case stale n =>
    refine clockInv_peers _ hs fun p hp x hx => ?_
    obtain ⟨y, hy, rfl⟩ := List.mem_map.mp hp
    dsimp only at hx
    split at hx <;> exact hpeers y hy x hx
  case removed n => exact clockInv_peers _ hs fun p hp => hpeers p (List.mem_of_mem_filter hp)
  case fallback n => exact clockInv_fallback n hs
  case lineState l => exact clockInv_reformReference ((clockInv_iff s).mp hs).1 fun h => reference_of_starting (s := s) hs h
  case config r _ => exact clockInv_takeConfig r hs
  all_goals exact hsame (by simp) (by simp) (by simp) (by simp) (by simp) (by simp) (by simp [clockAlike_refl])

/-- Settles O13. -/
theorem clockRunsWithTheSequencer : Obligations.ClockRunsWithTheSequencer := by
  have hact := fun own s s' => @clockInv_act own s s'
  refine keptByStep_of_held (fun s t h hs => ?_) (fun _ _ hs => hs) (fun i l cl s => ?_)
    (effect_keeps_of_acts hact (takeSample_keeps_of_acts hact (fun _ _ _ _ hs => hs) fun x s hs => ?_) fun s hq hs => hs)
  · obtain ⟨hi, -, hc, hk, hq, -, -, -, -, -, -, -, hp, -, hl, ha, -⟩ := fields_of_held h
    exact clockInv_of_eq hk.symm hc.symm (by rw [hl]) hp.symm hi.symm ha.symm (hq ▸ clockAlike_refl _) hs
  · refine (clockInv_iff _).mpr ⟨?_, rfl⟩
    change ClockBase .starting _
    exact clockBase_of_eq (s := State.reset) rfl rfl rfl rfl
      ⟨by simp [State.reset, ClockRec.reset, runsIn], by decide, by decide, by decide, by decide, by decide, by decide, by decide, by decide⟩
  · exact clockInv_of_eq (by simp) (by simp) (by simp) (by simp) (by simp) (by simp) (by simp [clockAlike_refl]) hs

end Sys2Proof.Proofs

/-! What an act makes of the drive: nothing, a stop, or the end of the spin-up hold. From it the drive's invariant, the
stall watch and the ramp. -/

namespace Sys2Proof.Proofs

open Sys2Proof.Machine

/-! ## The moves of the drive -/

/-- The part of the drive that a move can change: output, ramp and spin-up hold. -/
def driveCore (f : FanRec) : Nat × Nat × Time × Option Time := (f.driveOutput, f.rampFrom, f.rampStart, f.holdEnd)

/-- What an act makes of the drive. -/
structure DriveStep (s s' : State) : Prop where
  now : s'.now = s.now
  target : s'.fan.demandTarget = s.fan.demandTarget ∨ s'.fan.demandTarget ≤ 1000
  watch : s'.seq.moving = true → s'.fan.stallWatch = s.fan.stallWatch
  lost : s'.fan.stallWatch = s.fan.stallWatch ∨ s'.fan.stallWatch = none
  move :
    (driveCore s'.fan = driveCore s.fan ∧ s'.seq.moving = s.seq.moving
      ∧ (s.fan.holdEnd.isSome = true → inPhase .spinup s = true → inPhase .spinup s' = true))
    ∨ (driveCore s'.fan = (0, s.fan.rampFrom, s.fan.rampStart, none) ∧ s'.seq.moving = false)
    ∨ (s.fan.holdEnd.isSome = true ∧ driveCore s'.fan = (s.fan.driveOutput, s.fan.driveOutput, s.now, none)
      ∧ s'.seq.moving = s.seq.moving)

theorem driveCore_of_withoutHold {f g : FanRec} (h : withoutHold f = withoutHold g) :
    driveCore f = driveCore g ∧ f.demandTarget = g.demandTarget ∧ f.stallWatch = g.stallWatch :=
  ⟨by have hcore := congrArg driveCore h; exact hcore, by simpa [withoutHold] using congrArg FanRec.demandTarget h,
    by simpa [withoutHold] using congrArg FanRec.stallWatch h⟩

theorem changeSeq_withoutHold (q : SeqRec) (s : State) : withoutHold (changeSeq q s).fan = withoutHold s.fan := by
  have h := (quiets_notify s.seq.state (showChange s { s with seq := q })).keeps
  obtain ⟨-, -, -, -, -, -, -, -, -, -, hfan, -⟩ := h
  rw [fan_of_showChange] at hfan
  exact hfan

@[simp] theorem zeroDrive_fan (s : State) : (zeroDrive s).fan = { s.fan with driveOutput := 0, holdEnd := none } := rfl

/-- A recomputation leaves the ramp, the stall watch and the tach. -/
@[simp] theorem recompute_ramp (s : State) :
    (recompute s).fan.rampFrom = s.fan.rampFrom ∧ (recompute s).fan.rampStart = s.fan.rampStart
    ∧ (recompute s).fan.holdEnd = s.fan.holdEnd ∧ (recompute s).fan.stallWatch = s.fan.stallWatch := by
  unfold recompute
  split <;> exact ⟨rfl, rfl, rfl, rfl⟩

/-- A change of the sequencer's record leaves the ramp, the demand target and the stall watch. -/
@[simp] theorem changeSeq_ramp (q : SeqRec) (s : State) :
    (changeSeq q s).fan.rampFrom = s.fan.rampFrom ∧ (changeSeq q s).fan.rampStart = s.fan.rampStart
    ∧ (changeSeq q s).fan.demandTarget = s.fan.demandTarget ∧ (changeSeq q s).fan.stallWatch = s.fan.stallWatch
    ∧ (changeSeq q s).fan.lastCapture = s.fan.lastCapture ∧ (changeSeq q s).fan.ticksSince = s.fan.ticksSince := by
  have h := changeSeq_withoutHold q s
  have keep {α : Type} (get : FanRec → α) (hget : ∀ f, get (withoutHold f) = get f) :
      get (changeSeq q s).fan = get s.fan := by rw [← hget, h, hget]
  exact ⟨keep _ fun _ => rfl, keep _ fun _ => rfl, keep _ fun _ => rfl, keep _ fun _ => rfl, keep _ fun _ => rfl,
    keep _ fun _ => rfl⟩

theorem moving_of_eq {q r : SeqRec} (hs : q.state = r.state) (hp : q.phase = r.phase) : q.moving = r.moving := by
  simp [SeqRec.moving, hs, hp]

theorem moving_false_of_state {q : SeqRec} (h : drives q.state = false) (hr : q.state ≠ .reversing) :
    q.moving = false := by
  unfold SeqRec.moving
  cases hs : q.state <;> simp_all [drives]

theorem moving_false_of_phase {q : SeqRec} (h : q.state = .reversing) (hp : q.phase ≠ some .spinup) :
    q.moving = false := by
  simp [SeqRec.moving, h, hp]

theorem firstPhase_ne_spinup (v : Nat) : some (firstPhase v) ≠ some Phase.spinup := by
  unfold firstPhase
  split <;> simp

/-- An act that leaves the drive and the sequencer's state and phase. -/
theorem driveStep_of_withoutHold {s s' : State} (hnow : s'.now = s.now) (hfan : withoutHold s'.fan = withoutHold s.fan)
    (hq : s'.seq.state = s.seq.state) (hp : s'.seq.phase = s.seq.phase) : DriveStep s s' := by
  obtain ⟨hcore, htarget, hwatch⟩ := driveCore_of_withoutHold hfan
  exact ⟨hnow, .inl htarget, fun _ => hwatch, .inl hwatch,
    .inl ⟨hcore, moving_of_eq hq hp, fun _ h => by simpa [inPhase, hq, hp] using h⟩⟩

/-- An act that moves the tach alone. -/
theorem driveStep_of_tach {s s' : State} (hnow : s'.now = s.now) (hcore : driveCore s'.fan = driveCore s.fan)
    (htarget : s'.fan.demandTarget = s.fan.demandTarget) (hwatch : s'.fan.stallWatch = s.fan.stallWatch)
    (hq : s'.seq.state = s.seq.state) (hp : s'.seq.phase = s.seq.phase) : DriveStep s s' :=
  ⟨hnow, .inl htarget, fun _ => hwatch, .inl hwatch,
    .inl ⟨hcore, moving_of_eq hq hp, fun _ h => by simpa [inPhase, hq, hp] using h⟩⟩

/-- An act that stops the drive in a state that does not move. -/
theorem driveStep_of_stop {s s' : State} (hnow : s'.now = s.now)
    (hfan : driveCore s'.fan = (0, s.fan.rampFrom, s.fan.rampStart, none))
    (htarget : s'.fan.demandTarget = s.fan.demandTarget)
    (hlost : s'.fan.stallWatch = s.fan.stallWatch ∨ s'.fan.stallWatch = none) (hmoving : s'.seq.moving = false) :
    DriveStep s s' :=
  ⟨hnow, .inl htarget, fun h => absurd h (by simp [hmoving]), hlost, .inr (.inl ⟨hfan, hmoving⟩)⟩

theorem enterRundown_drive (g : Target) (s : State) :
    driveCore (enterRundown g s).fan = (0, s.fan.rampFrom, s.fan.rampStart, none)
      ∧ (enterRundown g s).fan.demandTarget = s.fan.demandTarget
      ∧ (enterRundown g s).fan.stallWatch = s.fan.stallWatch := by
  unfold enterRundown
  dsimp only
  split <;> exact ⟨rfl, rfl, rfl⟩

theorem beginReversing_drive (g : Target) (s : State) :
    driveCore (beginReversing g s).fan = (0, s.fan.rampFrom, s.fan.rampStart, none)
      ∧ (beginReversing g s).fan.demandTarget = s.fan.demandTarget
      ∧ (beginReversing g s).fan.stallWatch = s.fan.stallWatch := by
  unfold beginReversing
  obtain ⟨hcore, htarget, hwatch⟩ := enterRundown_drive g
    (changeSeq { s.seq with state := .reversing, phase := none, target := some g, phaseStart := none } s)
  rw [hcore, htarget, hwatch]
  simp

theorem driveStep_beginReversing (g : Target) (s : State) : DriveStep s (beginReversing g s) := by
  obtain ⟨hcore, htarget, hwatch⟩ := beginReversing_drive g s
  refine driveStep_of_stop (by simp) hcore htarget (.inl hwatch) (moving_false_of_phase ?_ ?_)
  · simp [beginReversing_seq]
  · rw [beginReversing_seq]
    exact firstPhase_ne_spinup _

theorem driveStep_enterRest (s : State) : DriveStep s (enterRest s) := by
  refine driveStep_of_stop (by simp) ?_ ?_ (.inl ?_) (moving_false_of_state ?_ ?_)
  · simp [enterRest, driveCore]
  · simp [enterRest]
  · simp [enterRest]
  · simp [enterRest_seq, drives]
  · simp [enterRest_seq]

theorem driveStep_retarget (g : Target) {s : State} (h : s.seq.state = .reversing) : DriveStep s (retarget g s) := by
  have hnew := changeSeq_withoutHold { s.seq with target := some g } s
  have hstep : DriveStep s (replaceTarget g s) :=
    driveStep_of_withoutHold (by simp) hnew (by simp [replaceTarget]) (by simp [replaceTarget])
  obtain ⟨hcore, htarget, -⟩ := driveCore_of_withoutHold hnew
  unfold retarget
  split
  · exact driveStep_of_withoutHold rfl rfl rfl rfl
  · split
    · exact driveStep_of_withoutHold rfl rfl rfl rfl
    · dsimp only
      split
      · exact hstep
      · split
        case h_1 hp =>
          refine ⟨by simp [replaceTarget], .inl htarget, fun hm => ?_,
            .inl (by simp [replaceTarget, enterSwitch, orderDirection]), .inl ⟨hcore, ?_, fun _ hs => ?_⟩⟩
          · exact absurd hm (by simp [SeqRec.moving, replaceTarget, h])
          · simp [SeqRec.moving, replaceTarget, h, hp]
          · simp [inPhase, hp] at hs
        case h_2 hp =>
          obtain ⟨hrun, hrunTarget, hrunWatch⟩ := enterRundown_drive g (replaceTarget g s)
          refine driveStep_of_stop (by simp) (hrun.trans ?_) (hrunTarget.trans htarget)
            (.inl (hrunWatch.trans (by simp [replaceTarget]))) (moving_false_of_phase ?_ ?_)
          · simp [replaceTarget]
          · simpa [enterRundown_seq, replaceTarget] using h
          · rw [enterRundown_seq]
            exact firstPhase_ne_spinup _
        case h_3 => exact hstep

theorem endHold_drive (s : State) :
    (s.fan.holdEnd = none ∧ endHold s = s)
    ∨ (s.fan.holdEnd.isSome = true ∧ driveCore (endHold s).fan = (s.fan.driveOutput, s.fan.driveOutput, s.now, none)
      ∧ (endHold s).fan.demandTarget = s.fan.demandTarget ∧ (endHold s).fan.stallWatch = s.fan.stallWatch) := by
  unfold endHold
  split
  case isTrue h => exact .inr ⟨h, rfl, rfl, rfl⟩
  case isFalse h => exact .inl ⟨by simpa using h, rfl⟩

theorem driveStep_endHold (s : State) : DriveStep s (endHold s) := by
  rcases endHold_drive s with ⟨_, h⟩ | ⟨hsome, hcore, htarget, hwatch⟩
  · rw [h]
    exact driveStep_of_withoutHold rfl rfl rfl rfl
  · exact ⟨by simp, .inl htarget, fun _ => hwatch, .inl hwatch, .inr (.inr ⟨hsome, hcore, by simp⟩)⟩

theorem driveStep_complete (g : Target) {s : State} (hstate : s.seq.state = .reversing)
    (hphase : s.seq.phase = some .spinup) :
    DriveStep s (changeSeq { s.seq with state := g.state, phase := none, target := none, phaseStart := none }
      (endHold s)) := by
  obtain ⟨hcore, htarget, hwatch⟩ := driveCore_of_withoutHold (changeSeq_withoutHold
    { s.seq with state := g.state, phase := none, target := none, phaseStart := none } (endHold s))
  have hmoving : s.seq.moving = true := by simp [SeqRec.moving, hstate, hphase]
  have hnew : ({ s.seq with state := g.state, phase := none, target := none, phaseStart := none } : SeqRec).moving
      = true := drives_moving (drives_target g)
  rcases endHold_drive s with ⟨hnone, h⟩ | ⟨hsome, hfree, hfreeTarget, hfreeWatch⟩
  · rw [h] at hcore htarget hwatch ⊢
    exact ⟨by simp, .inl htarget, fun _ => hwatch, .inl hwatch, .inl ⟨hcore, by rw [changeSeq_seq, hnew, hmoving],
      fun hs => by simp [hnone] at hs⟩⟩
  · refine ⟨by simp, .inl (htarget.trans hfreeTarget), fun _ => hwatch.trans hfreeWatch,
      .inl (hwatch.trans hfreeWatch), .inr (.inr ⟨hsome, ?_, ?_⟩)⟩
    · exact hcore.trans hfree
    · rw [changeSeq_seq, hnew, hmoving]

theorem takeStall_drive (s : State) :
    driveCore (takeStall s).fan = (0, s.fan.rampFrom, s.fan.rampStart, none)
      ∧ (takeStall s).fan.demandTarget = s.fan.demandTarget ∧ (takeStall s).fan.stallWatch = s.fan.stallWatch
      ∧ (takeStall s).seq.moving = false := by
  unfold takeStall
  dsimp only
  split
  · refine ⟨?_, ?_, ?_, ?_⟩
    · simp [enterStopped, driveCore]
    · simp [enterStopped]
    · simp [enterStopped]
    · rw [enterStopped_seq]
      rfl
  · unfold enterPaused
    dsimp only
    split
    · refine ⟨?_, ?_, ?_, ?_⟩ <;> simp [driveCore, enterRest, SeqRec.moving]
    · refine ⟨?_, ?_, ?_, ?_⟩ <;> simp [driveCore, SeqRec.moving]

theorem driveStep_takeStall {w : Option Time} {s : State} (hw : w = s.fan.stallWatch ∨ w = none) :
    DriveStep s (takeStall { s with fan := { s.fan with stallWatch := w } }) := by
  obtain ⟨hcore, htarget, hwatch, hmoving⟩ := takeStall_drive { s with fan := { s.fan with stallWatch := w } }
  exact driveStep_of_stop (by simp) hcore htarget (hw.imp hwatch.trans hwatch.trans) hmoving

theorem recompute_target_le (s : State) : (recompute s).fan.demandTarget ≤ 1000 := by
  have hle (p : Nat) (h : p ≤ 100) : demandTargetOf p ≤ 1000 := by
    unfold demandTargetOf
    split <;> omega
  unfold recompute
  dsimp only
  split
  · exact hle _ (min_le_left _ _)
  · exact Nat.zero_le _

theorem beginCycling_drive (s : State) :
    driveCore (beginCycling s).fan = (0, s.fan.rampFrom, s.fan.rampStart, none)
      ∧ (beginCycling s).fan.demandTarget = s.fan.demandTarget ∧ (beginCycling s).fan.stallWatch = s.fan.stallWatch
      ∧ (beginCycling s).seq.moving = false := by
  unfold beginCycling
  dsimp only
  split
  · refine ⟨?_, ?_, ?_, ?_⟩ <;> simp [driveCore, enterRest, SeqRec.moving]
  · obtain ⟨hcore, htarget, hwatch⟩ := beginReversing_drive (laneDirectionNow s).target
      { s with seq := { s.seq with settling := 2 } }
    refine ⟨hcore, htarget, hwatch, moving_false_of_phase ?_ ?_⟩
    · simp [beginReversing_seq]
    · rw [beginReversing_seq]
      exact firstPhase_ne_spinup _

theorem driveStep_startCycling (s : State) : DriveStep s (startCycling s) := by
  obtain ⟨hcore, htarget, hwatch, hmoving⟩ := beginCycling_drive (openCollection (humidOnListenEnd (clockStarted s)))
  rw [startCycling_eq]
  exact driveStep_of_stop (by simp) (hcore.trans (by simp)) (htarget.trans (by simp)) (.inl (hwatch.trans (by simp)))
    hmoving

/-- Every act is a step of the drive. -/
theorem driveStep_act {own : Bool} {s s' : State} (h : Act own s s') : DriveStep s s' := by
  cases h
  case quiet h =>
    obtain ⟨hnow, -, -, -, -, -, hq, -, -, -, hfan, -⟩ := h.keeps
    exact driveStep_of_withoutHold hnow hfan (by rw [hq]) (by rw [hq])
  case note q hstate hphase _ _ _ _ => exact driveStep_of_withoutHold rfl rfl hstate hphase
  case reverse g _ => exact driveStep_beginReversing g s
  case direct st hst hfrom =>
    refine ⟨by simp, .inl (by simp [enterDirect]), fun _ => by simp [enterDirect], .inl (by simp [enterDirect]), .inl ⟨?_, ?_, fun _ hs => ?_⟩⟩
    · simp [enterDirect, driveCore]
    · rw [enterDirect_seq, drives_moving hfrom, drives_moving hst]
    · exact absurd (inPhase_iff.mp hs).1 (drives_state hfrom).1
  case retarget g hstate => exact driveStep_retarget g hstate
  case rest => exact driveStep_enterRest s
  case complete g hstate hphase _ => exact driveStep_complete g hstate hphase
  case stall w _ hw => exact driveStep_takeStall hw
  case switch g hstate hphase _ =>
    refine ⟨rfl, .inl rfl, fun _ => rfl, .inl rfl, .inl ⟨rfl, ?_, fun _ hs => ?_⟩⟩
    · simp [SeqRec.moving, hstate, hphase]
    · simp [inPhase, hphase] at hs
  case endHold => exact driveStep_endHold s
  case release hstate =>
    have hseq := release_seq hstate
    refine ⟨by simp, .inl ?_, fun _ => ?_, .inl ?_, .inl ⟨?_, ?_, fun _ hs => ?_⟩⟩
    · simp [release, hstate, enterListen]
    · simp [release, hstate, enterListen]
    · simp [release, hstate, enterListen]
    · simp [release, hstate, enterListen, driveCore]
    · simp [SeqRec.moving, hseq, hstate]
    · simp [inPhase, hstate] at hs
  case cycle => exact driveStep_startCycling s
  case starting c raw hown hstate hc =>
    have hseq := endStarting_seq c raw s
    refine ⟨by simp, .inr ?_, fun _ => ?_, .inl ?_, .inl ⟨?_, ?_, fun _ hs => ?_⟩⟩
    · simpa [endStarting, enterListen] using recompute_target_le _
    · simp [endStarting, enterListen]
    · simp [endStarting, enterListen]
    · simp [endStarting, enterListen, driveCore]
    · simp [SeqRec.moving, hseq, hstate]
    · simp [inPhase, hstate] at hs
  case unwatch hmoving =>
    exact ⟨rfl, .inl rfl, fun h => absurd h (by simp [hmoving]), .inr rfl, .inl ⟨rfl, rfl, fun _ h => h⟩⟩
  case closing =>
    have hwatch : (closeBoundary s).fan.stallWatch = s.fan.stallWatch := (recompute_ramp (takeRise s)).2.2.2
    refine ⟨by simp, .inr (recompute_target_le _), fun _ => hwatch, .inl hwatch,
      .inl ⟨?_, by simp, fun _ hs => by simpa [inPhase] using hs⟩⟩
    simp [closeBoundary, driveCore]
  case capture =>
    unfold capture
    split
    · exact driveStep_of_tach (by rfl) (by rfl) (by rfl) (by rfl) (by rfl) (by rfl)
    · split <;> exact driveStep_of_tach (by rfl) (by rfl) (by rfl) (by rfl) (by rfl) (by rfl)
  case overflow => exact driveStep_of_tach (by rfl) (by rfl) (by rfl) (by rfl) (by rfl) (by rfl)
  all_goals exact driveStep_of_withoutHold (by simp) (by simp) (by simp) (by simp)

end Sys2Proof.Proofs

/-! The drive's invariant, the stall watch and the ramp. -/

namespace Sys2Proof.Proofs

open Sys2Proof.Machine

/-! ## The ramp's arithmetic -/

theorem rampOutput_le {v target bound : Nat} (start now : Time) (hv : v ≤ bound) (ht : target ≤ bound) :
    rampOutput v target start now ≤ bound := by
  unfold rampOutput
  dsimp only
  split <;> omega

theorem rampOutput_self (v target : Nat) (n : Time) : rampOutput v target n n = v := by
  unfold rampOutput
  dsimp only
  split <;> omega

/-- A ramp from below 300 to 300 or more passes 300 at the first time at which its line is there. -/
theorem rampOutput_passes {v target : Nat} {start now n : Time} (hstart : start ≤ now) (hnow : now ≤ n)
    (hbelow : rampOutput v target start now < 300) (habove : 300 ≤ rampOutput v target start n) :
    now ≤ max now (start + 3125 * (300 - v)) ∧ max now (start + 3125 * (300 - v)) ≤ n
      ∧ 300 ≤ rampOutput v target start (max now (start + 3125 * (300 - v)))
      ∧ ∀ u, now ≤ u → u < max now (start + 3125 * (300 - v)) → rampOutput v target start u < 300 := by
  unfold Time at *
  unfold rampOutput at *
  dsimp only at *
  split at hbelow
  case isTrue hle =>
    rw [if_pos hle] at habove
    have htarget : 300 ≤ target := habove.trans (min_le_left _ _)
    have hline : 300 ≤ v + (n - start) / 3125 := habove.trans (min_le_right _ _)
    have hbelow : v + (now - start) / 3125 < 300 := by omega
    have hmax : max now (start + 3125 * (300 - v)) = start + 3125 * (300 - v) := by omega
    rw [hmax, if_pos hle]
    refine ⟨by omega, by omega, le_min htarget (by omega), fun u _ hu => ?_⟩
    rw [if_pos hle]
    exact (min_le_right _ _).trans_lt (by omega)
  case isFalse hlt =>
    rw [if_neg hlt] at habove
    omega

/-! ## Time -/

theorem advance_output (t : Time) (s : State) : (advance t s).fan.driveOutput = outputAt s (timeAfter t s) := rfl

theorem advance_watch (t : Time) (s : State) :
    (advance t s).fan.stallWatch = watchAfter s (moveTime t s) (rampPasses300 s) := rfl

theorem stallCondition_moveTime (t : Time) (s : State) :
    stallCondition (moveTime t s) = stallCondition (advance t s) := rfl

theorem outputAt_advance (t : Time) (s : State) {n : Time} (h : following s = true) :
    outputAt (advance t s) n = outputAt s n := by
  have h' : following (advance t s) = true := h
  unfold outputAt
  rw [if_pos h, if_pos h']
  rfl

theorem outputAt_of_not_following {s : State} (h : following s = false) (n : Time) :
    outputAt s n = s.fan.driveOutput := by
  simp [outputAt, h]

theorem driveTarget_le {f : FanRec} (h : f.demandTarget ≤ 1000) : f.driveTarget ≤ 1000 := by
  unfold FanRec.driveTarget
  split <;> omega

/-- What the drive keeps within a command: still out of the moving states, held in SPINUP alone, within full drive. -/
def DriveCore (s : State) : Prop :=
  (s.seq.moving = false → s.fan.driveOutput = 0 ∧ s.fan.holdEnd = none)
    ∧ (s.fan.holdEnd.isSome = true → inPhase .spinup s = true ∧ s.fan.driveOutput = 350)
    ∧ s.fan.driveOutput ≤ 1000 ∧ s.fan.demandTarget ≤ 1000 ∧ s.fan.rampFrom ≤ 1000

/-- R42: an output that follows lies on its ramp. -/
def OnRamp (s : State) : Prop :=
  following s = true → s.fan.rampStart ≤ s.now ∧ s.fan.driveOutput = outputAt s s.now

/-- R51: the stall watch. -/
def WatchInv (s : State) : Prop :=
  (s.fan.stallWatch.isSome = true ↔ stallCondition s = true) ∧ ∀ w ∈ s.fan.stallWatch, w ≤ s.now

theorem driveInv_iff (s : State) : DriveInv s ↔ DriveCore s ∧ OnRamp s ∧ WatchInv s := by
  unfold DriveInv DriveCore OnRamp WatchInv
  tauto

theorem not_following_of_hold {s : State} (h : s.fan.holdEnd.isSome = true) : following s = false := by
  simp [following, Option.isNone_eq_false_iff.mpr h]

theorem following_iff {s : State} : following s = true ↔ s.seq.moving = true ∧ s.fan.holdEnd = none := by
  simp [following]

theorem stallCondition_iff {s : State} : stallCondition s = true ↔
    following s = true ∧ 300 ≤ s.fan.driveOutput ∧ s.fan.speed = 0 := by
  simp [stallCondition, and_assoc]

theorem driveCore_advance (t : Time) {s : State} (h : DriveCore s) : DriveCore (advance t s) := by
  obtain ⟨hstill, hhold, hout, htarget, hfrom⟩ := h
  refine ⟨fun hm => ?_, fun hs => ?_, ?_, htarget, hfrom⟩
  · have hnot : following s = false := by simp [following, show s.seq.moving = false from hm]
    rw [advance_output, outputAt_of_not_following hnot]
    exact hstill hm
  · rw [advance_output, outputAt_of_not_following (not_following_of_hold (s := s) hs)]
    exact hhold hs
  · rw [advance_output]
    unfold outputAt
    split
    · exact rampOutput_le _ _ hfrom (driveTarget_le htarget)
    · exact hout

theorem onRamp_advance (t : Time) {s : State} (h : OnRamp s) : OnRamp (advance t s) := fun hf => by
  obtain ⟨hstart, -⟩ := h hf
  exact ⟨hstart.trans (le_max_left _ _), (outputAt_advance t s hf).symm⟩

/-- Where time brings the stall condition, the watch starts as the ramp passes 300. -/
theorem watch_of_time {t : Time} {s : State} (hramp : OnRamp s) (hbefore : stallCondition s = false)
    (hafter : stallCondition (advance t s) = true) :
    s.now ≤ rampPasses300 s ∧ rampPasses300 s ≤ (advance t s).now ∧ 300 ≤ outputAt s (rampPasses300 s)
      ∧ ∀ u, s.now ≤ u → u < rampPasses300 s → outputAt s u < 300 := by
  obtain ⟨hf, habove, hspeed⟩ := stallCondition_iff.mp hafter
  have hf : following s = true := hf
  have hspeed : s.fan.speed = 0 := hspeed
  obtain ⟨hstart, hout⟩ := hramp hf
  have hbelow : s.fan.driveOutput < 300 := by
    by_contra hge
    have := stallCondition_iff.mpr ⟨hf, Nat.le_of_not_lt hge, hspeed⟩
    simp [hbefore] at this
  rw [advance_output] at habove
  rw [hout] at hbelow
  simp only [outputAt, hf, if_true] at hbelow habove ⊢
  exact rampOutput_passes hstart (le_max_left _ _) hbelow habove

theorem watchInv_advance (t : Time) {s : State} (hramp : OnRamp s) (h : WatchInv s) : WatchInv (advance t s) := by
  obtain ⟨hiff, hle⟩ := h
  have hnow : s.now ≤ (advance t s).now := le_max_left _ _
  have hold : ∀ w ∈ s.fan.stallWatch, w ≤ (advance t s).now := fun w hw => (hle w hw).trans hnow
  unfold WatchInv
  rw [advance_watch, watchAfter, stallCondition_moveTime]
  cases hb : stallCondition s <;> cases ha : stallCondition (advance t s)
  case false.true => exact ⟨by simp, by simpa using (watch_of_time hramp hb ha).2.1⟩
  case true.false => exact ⟨by simp, by simp⟩
  all_goals
    rw [hb] at hiff
    exact ⟨hiff, hold⟩

theorem driveInv_advance (t : Time) {s : State} (h : DriveInv s) : DriveInv (advance t s) := by
  obtain ⟨hcore, hramp, hwatch⟩ := (driveInv_iff s).mp h
  exact (driveInv_iff _).mpr ⟨driveCore_advance t hcore, onRamp_advance t hramp, watchInv_advance t hramp hwatch⟩

/-! ## Steps of the drive, one after another -/

theorem DriveStep.core {s s' : State} (h : DriveStep s s') (hs : DriveCore s) : DriveCore s' := by
  obtain ⟨hstill, hhold, hout, htarget, hfrom⟩ := hs
  have ht : s'.fan.demandTarget ≤ 1000 := by rcases h.target with h | h <;> omega
  rcases h.move with ⟨hcore, hmoving, hphase⟩ | ⟨hcore, hmoving⟩ | ⟨hsome, hcore, hmoving⟩ <;>
    simp only [driveCore, Prod.mk.injEq] at hcore <;> obtain ⟨eo, ef, -, eh⟩ := hcore
  · refine ⟨fun hm => ?_, fun hs => ?_, by omega, ht, by omega⟩
    · rw [eo, eh]
      exact hstill (hmoving ▸ hm)
    · rw [eh] at hs
      rw [eo]
      exact ⟨hphase hs (hhold hs).1, (hhold hs).2⟩
  · exact ⟨fun _ => ⟨eo, eh⟩, fun hs => by simp [eh] at hs, by omega, ht, by omega⟩
  · have hm : s.seq.moving = true := by
      by_contra hm
      simp [(hstill (by simpa using hm)).2] at hsome
    exact ⟨fun hn => by simp [hmoving, hm] at hn, fun hs => by simp [eh] at hs, by omega, ht, by omega⟩

/-- What some steps of the drive have made of it since a state `m`. -/
structure DriveSince (m x : State) : Prop where
  now : x.now = m.now
  lost : x.fan.stallWatch = m.fan.stallWatch ∨ x.fan.stallWatch = none
  moving : x.seq.moving = true → m.seq.moving = true ∧ x.fan.stallWatch = m.fan.stallWatch
    ∧ x.fan.driveOutput = m.fan.driveOutput
    ∧ ((x.fan.rampFrom = m.fan.rampFrom ∧ x.fan.rampStart = m.fan.rampStart ∧ x.fan.holdEnd = m.fan.holdEnd)
      ∨ (m.fan.holdEnd.isSome = true ∧ x.fan.rampFrom = x.fan.driveOutput ∧ x.fan.rampStart = m.now
        ∧ x.fan.holdEnd = none))
  held : x.fan.holdEnd.isSome = true → driveCore x.fan = driveCore m.fan
  free : m.fan.holdEnd = none → x.fan.rampFrom = m.fan.rampFrom ∧ x.fan.rampStart = m.fan.rampStart
    ∧ x.fan.holdEnd = none

theorem driveSince_refl (m : State) : DriveSince m m :=
  ⟨rfl, .inl rfl, fun h => ⟨h, rfl, rfl, .inl ⟨rfl, rfl, rfl⟩⟩, fun _ => rfl, fun h => ⟨rfl, rfl, h⟩⟩

theorem DriveSince.step {m x y : State} (hx : DriveSince m x) (h : DriveStep x y) : DriveSince m y := by
  have hlost : y.fan.stallWatch = m.fan.stallWatch ∨ y.fan.stallWatch = none := by
    rcases h.lost with e | e
    · rw [e]
      exact hx.lost
    · exact .inr e
  rcases h.move with ⟨hcore, hmoving, -⟩ | ⟨hcore, hmoving⟩ | ⟨hsome, hcore, hmoving⟩
  · have he := hcore
    simp only [driveCore, Prod.mk.injEq] at he
    obtain ⟨eo, ef, es, eh⟩ := he
    refine ⟨h.now.trans hx.now, hlost, fun hm => ?_, fun hs => ?_, fun hn => ?_⟩
    · have := hx.moving (hmoving ▸ hm)
      rw [h.watch hm, eo, ef, es, eh]
      exact this
    · exact hcore.trans (hx.held (eh ▸ hs))
    · rw [ef, es, eh]
      exact hx.free hn
  · simp only [driveCore, Prod.mk.injEq] at hcore
    obtain ⟨-, ef, es, eh⟩ := hcore
    refine ⟨h.now.trans hx.now, hlost, fun hm => by simp [hmoving] at hm, fun hs => by simp [eh] at hs, fun hn => ?_⟩
    rw [ef, es, eh]
    exact ⟨(hx.free hn).1, (hx.free hn).2.1, rfl⟩
  · simp only [driveCore, Prod.mk.injEq] at hcore
    obtain ⟨eo, ef, es, eh⟩ := hcore
    have hm0 := congrArg (fun p => p.2.2.2) (hx.held hsome)
    simp only [driveCore] at hm0
    refine ⟨h.now.trans hx.now, hlost, fun hm => ?_, fun hs => by simp [eh] at hs, fun hn => ?_⟩
    · obtain ⟨h1, h2, h3, -⟩ := hx.moving (hmoving ▸ hm)
      rw [h.watch hm, eo, ef, es, eh]
      exact ⟨h1, h2, h3, .inr ⟨hm0 ▸ hsome, rfl, hx.now, rfl⟩⟩
    · rw [hn] at hm0
      simp [hm0] at hsome

theorem watchAfter_congr {m x y : State} (start : Time) (hq : y.seq = x.seq) (ho : y.fan.driveOutput = x.fan.driveOutput)
    (hh : y.fan.holdEnd = x.fan.holdEnd) (hv : y.fan.speed = x.fan.speed) (hw : y.fan.stallWatch = x.fan.stallWatch) :
    watchAfter m y start = watchAfter m x start := by
  simp only [watchAfter, stallCondition, following, hq, ho, hh, hv, hw]

/-- The drive when the demand unit, the line interface and the lamps have followed a command. -/
theorem trackDemand_drive (m x : State) :
    ∃ n, (n = x.fan.demandTarget ∨ n ≤ 1000)
      ∧ (trackLamps m (trackAnnounced m (trackDemand m x))).fan = { x.fan with demandTarget := n } := by
  have hshow : (trackLamps m (trackAnnounced m (trackDemand m x))).fan = (trackDemand m x).fan :=
    fan_of_showChange m (trackDemand m x)
  rw [hshow]
  unfold trackDemand
  split
  · exact ⟨_, .inl rfl, rfl⟩
  · refine ⟨_, .inr (recompute_target_le x), ?_⟩
    unfold recompute
    split <;> rfl

/-- What follows a command in the drive: the demand target, the ramp where the drive target differs, the stall watch. -/
theorem finish_drive (m x : State) :
    ((finish m x).fan.demandTarget = x.fan.demandTarget ∨ (finish m x).fan.demandTarget ≤ 1000)
    ∧ (finish m x).fan.holdEnd = x.fan.holdEnd ∧ (finish m x).fan.speed = x.fan.speed ∧ (finish m x).seq = x.seq
    ∧ ((finish m x).fan.driveTarget = m.fan.driveTarget →
        (finish m x).fan.rampFrom = x.fan.rampFrom ∧ (finish m x).fan.rampStart = x.fan.rampStart)
    ∧ ((finish m x).fan.driveTarget ≠ m.fan.driveTarget →
        (finish m x).fan.rampFrom = x.fan.driveOutput ∧ (finish m x).fan.rampStart = x.now)
    ∧ (finish m x).fan.stallWatch = watchAfter m x x.now := by
  obtain ⟨n, hn, hfan⟩ := trackDemand_drive m x
  have hseq : (trackLamps m (trackAnnounced m (trackDemand m x))).seq = x.seq := by simp
  have hnow : (trackLamps m (trackAnnounced m (trackDemand m x))).now = x.now := by simp
  have hwatch (y : State) (hf : ∃ v b, y.fan = { x.fan with demandTarget := n, rampFrom := v, rampStart := b })
      (hq : y.seq = x.seq) : watchAfter m y x.now = watchAfter m x x.now := by
    obtain ⟨v, b, hf⟩ := hf
    exact watchAfter_congr x.now hq (by rw [hf]) (by rw [hf]) (by rw [hf]) (by rw [hf])
  unfold finish trackRamp
  split
  case isTrue he =>
    refine ⟨?_, ?_, ?_, hseq, fun _ => ⟨?_, ?_⟩, fun hne => absurd he.symm hne, hwatch _ ⟨_, _, hfan⟩ hseq⟩
    all_goals simp only [trackStall, hfan]
    exact hn
  case isFalse hne =>
    refine ⟨?_, ?_, ?_, hseq, fun he => absurd he.symm hne, fun _ => ⟨?_, hnow⟩,
      hwatch (restartRamp _) ⟨x.fan.driveOutput, x.now, by simp only [restartRamp, hfan, hnow]⟩ hseq⟩
    all_goals simp only [trackStall, restartRamp, hfan]
    exact hn

/-! ## The invariant -/

/-- What follows a command keeps the drive's core. -/
theorem driveCore_finish (m : State) {x : State} (h : DriveCore x) : DriveCore (finish m x) := by
  obtain ⟨hstill, hhold, hout, htarget, hfrom⟩ := h
  obtain ⟨ht, hh, -, hq, hsame, hnew, -⟩ := finish_drive m x
  have ho : (finish m x).fan.driveOutput = x.fan.driveOutput := by simp
  have hphase (p : Phase) : inPhase p (finish m x) = inPhase p x := by simp only [inPhase, hq]
  refine ⟨?_, ?_, by omega, by omega, ?_⟩
  · rw [hq, ho, hh]
    exact hstill
  · rw [hphase, ho, hh]
    exact hhold
  · by_cases he : (finish m x).fan.driveTarget = m.fan.driveTarget
    · rw [(hsame he).1]
      exact hfrom
    · rw [(hnew he).1]
      exact hout

/-- The ramp of a moving state without a hold is new, or it is that of the state `m`, which followed it. -/
def RampSince (m x : State) : Prop :=
  x.seq.moving = true → x.fan.holdEnd = none →
    (x.fan.rampFrom = x.fan.driveOutput ∧ x.fan.rampStart = x.now)
    ∨ (following m = true ∧ x.fan.driveOutput = m.fan.driveOutput ∧ x.fan.rampFrom = m.fan.rampFrom
      ∧ x.fan.rampStart = m.fan.rampStart)

theorem DriveSince.ramp {m x : State} (h : DriveSince m x) : RampSince m x := by
  intro hmoving hnone
  obtain ⟨hmm, -, ho, hramp⟩ := h.moving hmoving
  rcases hramp with ⟨e1, e2, e3⟩ | ⟨-, e1, e2, -⟩
  · exact .inr ⟨following_iff.mpr ⟨hmm, by rw [← e3, hnone]⟩, ho, e1, e2⟩
  · exact .inl ⟨e1, by rw [e2, h.now]⟩

/-- An effect whose ramp is new or the old one leaves the output on its ramp. -/
theorem onRamp_finish {m x : State} (hm : OnRamp m) (hnow : x.now = m.now) (h : RampSince m x) :
    OnRamp (finish m x) := by
  intro hf
  obtain ⟨-, hh, -, hq, hsame, hnew, -⟩ := finish_drive m x
  have ho : (finish m x).fan.driveOutput = x.fan.driveOutput := by simp
  have hn : (finish m x).now = x.now := by simp
  have hout : outputAt (finish m x) (finish m x).now
      = rampOutput (finish m x).fan.rampFrom (finish m x).fan.driveTarget (finish m x).fan.rampStart x.now := by
    rw [outputAt, if_pos hf, hn]
  obtain ⟨hmoving, hnone⟩ := following_iff.mp hf
  rw [hout, hn, ho]
  by_cases he : (finish m x).fan.driveTarget = m.fan.driveTarget
  · obtain ⟨ef, es⟩ := hsame he
    rw [ef, es]
    rcases h (hq ▸ hmoving) (hh ▸ hnone) with ⟨e1, e2⟩ | ⟨hfm, e1, e2, e3⟩
    · rw [e1, e2, rampOutput_self]
      exact ⟨le_rfl, rfl⟩
    · obtain ⟨hstart, hline⟩ := hm hfm
      rw [outputAt, if_pos hfm] at hline
      rw [e1, e2, e3, he, hnow]
      exact ⟨hstart, hline⟩
  · obtain ⟨ef, es⟩ := hnew he
    rw [ef, es, rampOutput_self]
    exact ⟨le_rfl, rfl⟩

/-- The stall condition after what follows a command is that of the effect. -/
theorem stallCondition_finish (m x : State) : stallCondition (finish m x) = stallCondition x := by
  obtain ⟨-, hh, hv, hq, -⟩ := finish_drive m x
  have ho : (finish m x).fan.driveOutput = x.fan.driveOutput := by simp
  simp only [stallCondition, following, hh, hv, hq, ho]

theorem stallCondition_moving {s : State} (h : stallCondition s = true) : s.seq.moving = true :=
  (following_iff.mp (stallCondition_iff.mp h).1).1

theorem watchInv_finish {m x : State} (hm : WatchInv m) (hnow : x.now = m.now)
    (hkeep : x.seq.moving = true → x.fan.stallWatch = m.fan.stallWatch)
    (hnone : x.fan.stallWatch = m.fan.stallWatch ∨ x.fan.stallWatch = none) : WatchInv (finish m x) := by
  obtain ⟨hiff, hle⟩ := hm
  obtain ⟨-, -, -, -, -, -, hw⟩ := finish_drive m x
  have hn : (finish m x).now = m.now := by simp [hnow]
  unfold WatchInv
  rw [stallCondition_finish, hw, hn, watchAfter]
  cases hb : stallCondition m <;> cases ha : stallCondition x
  case false.true => exact ⟨by simp, by simp [hnow]⟩
  case true.false => exact ⟨by simp, by simp⟩
  case true.true =>
    have hk := hkeep (stallCondition_moving ha)
    rw [hb] at hiff
    rw [hk]
    exact ⟨hiff, hle⟩
  case false.false =>
    have hnone : x.fan.stallWatch = none := by
      rcases hnone with h | h
      · rw [h]
        simpa [hb] using hiff
      · exact h
    rw [hnone]
    exact ⟨by simp, by simp⟩

/-! ## The commands -/

theorem driveSince_effect (m : State) (c : Instr) (hdead : ∀ t, c ≠ .switchDeadTimeEnd t) :
    DriveSince m (effectOf c m) := by
  have hact (own : Bool) (x y : State) (h : Act own x y) (hx : DriveSince m x) : DriveSince m y :=
    hx.step (driveStep_act h)
  refine effect_of_acts_of_ne hact (driveSince_refl m) (fun i o h => ?_) c hdead
  refine takeSample_keeps_of_acts hact (fun _ _ _ s hs => ?_) (fun x s hs => ?_) i o h m (driveSince_refl m)
  · exact hs.step (driveStep_of_withoutHold rfl rfl rfl rfl)
  · exact hs.step (driveStep_of_withoutHold (by simp) (by simp) (by simp) (by simp))

theorem driveSince_completeAtSpeed (m : State) : DriveSince m (completeAtSpeed m) :=
  (acts_completeAtSpeed (own := false) m).keep (fun _ _ h hx => hx.step (driveStep_act h)) (driveSince_refl m)

theorem spunUp_moving {m : State} (h : inPhase .switch m = true) : (spunUp m).seq.moving = true := by
  simp [spunUp, SeqRec.moving, (inPhase_iff.mp h).1]

/-- What a command leaves of the ramp and of the stall watch. -/
theorem effect_ramp (m : State) (c : Instr) :
    (effectOf c m).now = m.now ∧ RampSince m (effectOf c m)
    ∧ ((effectOf c m).seq.moving = true → (effectOf c m).fan.stallWatch = m.fan.stallWatch)
    ∧ ((effectOf c m).fan.stallWatch = m.fan.stallWatch ∨ (effectOf c m).fan.stallWatch = none) := by
  have hsame {x : State} (h : DriveSince m x) : x.now = m.now ∧ RampSince m x
      ∧ (x.seq.moving = true → x.fan.stallWatch = m.fan.stallWatch)
      ∧ (x.fan.stallWatch = m.fan.stallWatch ∨ x.fan.stallWatch = none) :=
    ⟨h.now, h.ramp, fun hm => (h.moving hm).2.1, h.lost⟩
  by_cases hdead : ∃ t, c = .switchDeadTimeEnd t
  · obtain ⟨t, rfl⟩ := hdead
    rcases effectOf_switchDeadTimeEnd t m with ⟨-, e⟩ | e
    · have h := driveSince_completeAtSpeed (spunUp m)
      rw [e]
      refine ⟨h.now, fun hm hn => ?_, fun hm => (h.moving hm).2.1, h.lost⟩
      rcases (h.moving hm).2.2.2 with ⟨-, -, e3⟩ | ⟨-, e1, e2, -⟩
      · rw [hn] at e3
        cases e3
      · exact .inl ⟨e1, by rw [e2, h.now]⟩
    · rw [e]
      exact hsame (driveSince_refl m)
  · push Not at hdead
    exact hsame (driveSince_effect m c hdead)

theorem driveCore_effect {m : State} (hm : DriveCore m) (c : Instr) : DriveCore (effectOf c m) := by
  have hact (own : Bool) (x y : State) (h : Act own x y) (hx : DriveCore x) : DriveCore y := (driveStep_act h).core hx
  refine effect_of_acts hact hm (fun i o h => ?_) (fun hp => ?_) c
  · refine takeSample_keeps_of_acts hact (fun _ _ _ _ hs => hs) (fun x s hs => ?_) i o h m hm
    exact (driveStep_of_withoutHold (by simp) (by simp) (by simp) (by simp)).core hs
  · obtain ⟨-, -, -, htarget, hfrom⟩ := hm
    refine ⟨fun h => by simp [spunUp_moving hp] at h, fun _ => ⟨?_, rfl⟩, by simp [spunUp], htarget, hfrom⟩
    exact inPhase_iff.mpr ⟨(inPhase_iff.mp hp).1, rfl⟩

theorem driveInv_after (c : Instr) (t : Time) {s : State} (h : DriveInv s) : DriveInv (after c t s) := by
  obtain ⟨hcore, hramp, hwatch⟩ := (driveInv_iff _).mp (driveInv_advance t h)
  obtain ⟨hnow, hnew, hkeep, hlost⟩ := effect_ramp (advance t s) c
  exact (driveInv_iff _).mpr ⟨driveCore_finish _ (driveCore_effect hcore c), onRamp_finish hramp hnow hnew,
    watchInv_finish hwatch hnow hkeep hlost⟩

/-- An output that stalls after an effect, from a drive that followed, was as high before. -/
theorem output_before {m : State} {c : Instr} (hf : following m = true) (h : stallCondition (effectOf c m) = true) :
    300 ≤ m.fan.driveOutput := by
  have hmoving := stallCondition_moving h
  obtain ⟨-, hout, -⟩ := stallCondition_iff.mp h
  by_cases hdead : ∃ t, c = .switchDeadTimeEnd t
  · obtain ⟨t, rfl⟩ := hdead
    rcases effectOf_switchDeadTimeEnd t m with ⟨hp, -⟩ | e
    · obtain ⟨hq, hphase⟩ := inPhase_iff.mp hp
      have := (following_iff.mp hf).1
      simp [SeqRec.moving, hq, hphase] at this
    · rwa [e] at hout
  · push Not at hdead
    rwa [((driveSince_effect m c hdead).moving hmoving).2.2.1] at hout

/-- The stall watch after a command, by the condition before and after the effect. -/
theorem watch_after {c : Instr} {t : Time} {s : State} (h : stallCondition (after c t s) = true) :
    (stallCondition (advance t s) = true → (after c t s).fan.stallWatch = (advance t s).fan.stallWatch)
    ∧ (stallCondition (advance t s) = false → (after c t s).fan.stallWatch = some (after c t s).now) := by
  have hx : stallCondition (effectOf c (advance t s)) = true := by rwa [after, stallCondition_finish] at h
  obtain ⟨-, -, -, -, -, -, hw⟩ := finish_drive (advance t s) (effectOf c (advance t s))
  have hkeep := (effect_ramp (advance t s) c).2.2.1 (stallCondition_moving hx)
  unfold after
  rw [hw, watchAfter, hx]
  refine ⟨fun hm => ?_, fun hm => ?_⟩
  · rw [hm]
    exact hkeep
  · rw [hm]
    simp

/-- The stall watch of a state whose condition time keeps. -/
theorem watch_advance_kept {t : Time} {s : State} (hs : stallCondition s = true)
    (hm : stallCondition (advance t s) = true) : (advance t s).fan.stallWatch = s.fan.stallWatch := by
  rw [advance_watch, watchAfter, stallCondition_moveTime, hs, hm]
  rfl

/-- The stall watch of a state whose condition time brings. -/
theorem watch_advance_new {t : Time} {s : State} (hs : stallCondition s = false)
    (hm : stallCondition (advance t s) = true) : (advance t s).fan.stallWatch = some (rampPasses300 s) := by
  rw [advance_watch, watchAfter, stallCondition_moveTime, hs, hm]

theorem stallCondition_false_of_not {s : State} (h : following s = false ∨ s.fan.speed ≠ 0) :
    stallCondition s = false := by
  rw [← Bool.not_eq_true, stallCondition_iff]
  rintro ⟨hf, -, hv⟩
  rcases h with h | h
  · simp [hf] at h
  · exact h hv

/-- A moving state is a driving one or SPINUP. -/
theorem moving_iff {q : SeqRec} : q.moving = true ↔
    q.state = .supply ∨ q.state = .extract ∨ q.state = .defrost ∨ q.state = .through
      ∨ (q.state = .reversing ∧ q.phase = some .spinup) := by
  unfold SeqRec.moving
  cases q.state <;> simp

theorem driveInv_of_eq {s t : State} (hq : t.seq = s.seq) (hf : t.fan = s.fan) (hn : t.now = s.now) (hs : DriveInv s) :
    DriveInv t := by
  unfold DriveInv stallCondition outputAt following inPhase at *
  rw [hq, hf, hn]
  exact hs

/-- Settles O11: the drive's core is kept act by act, the ramp and the stall watch by what follows a command. -/
theorem driveStopsOutsideMotion : Obligations.DriveStopsOutsideMotion := by
  refine ⟨?_, fun c s s' hc hr hinv hexec => ?_, fun s => ?_⟩
  · exact keptByStep_of (fun _ _ hs => hs) (fun _ _ _ _ => driveInv_of_eq (s := State.reset) rfl rfl rfl (by decide))
      fun c t s _ => driveInv_after c t
  · obtain ⟨t, ht⟩ := Option.isSome_iff_exists.mp hc
    obtain rfl : after c t s = s' := by simpa [exec_eq_after ht hr] using hexec
    obtain ⟨-, hramp, -⟩ := (driveInv_iff s).mp hinv
    have hbrought (hf : following s = true) (hv : s.fan.speed = 0) (h' : stallCondition (after c t s) = true) :
        stallCondition (advance t s) = true := by
      refine stallCondition_iff.mpr ⟨hf, output_before (c := c) hf ?_, hv⟩
      rwa [after, stallCondition_finish] at h'
    refine ⟨fun h h' => ?_, fun h h' => ⟨fun hnot => ?_, fun hf hv => ?_⟩⟩
    · obtain ⟨hf, -, hv⟩ := stallCondition_iff.mp h
      have hm := hbrought hf hv h'
      exact ((watch_after h').1 hm).trans (watch_advance_kept h hm)
    · exact (watch_after h').2 (stallCondition_false_of_not (s := advance t s) hnot)
    · have hm := hbrought hf hv h'
      obtain ⟨hlow, hhigh, hat, hbelow⟩ := watch_of_time hramp h hm
      refine ⟨rampPasses300 s, ((watch_after h').1 hm).trans (watch_advance_new h hm), hlow, ?_, hat, hbelow⟩
      have hn : (after c t s).now = (advance t s).now := by simp [after]
      rwa [hn]
  · rw [stallCondition_iff, following_iff, moving_iff]
    tauto

/-! ## The ramp -/

/-- A hold that stands after an effect leaves the ramp as it was. -/
theorem ramp_of_held {m : State} (c : Instr) (h : (effectOf c m).fan.holdEnd.isSome = true) :
    (effectOf c m).fan.rampFrom = m.fan.rampFrom ∧ (effectOf c m).fan.rampStart = m.fan.rampStart := by
  have hcore {x : State} (hx : driveCore x.fan = driveCore m.fan) :
      x.fan.rampFrom = m.fan.rampFrom ∧ x.fan.rampStart = m.fan.rampStart := by
    simp only [driveCore, Prod.mk.injEq] at hx
    exact ⟨hx.2.1, hx.2.2.1⟩
  by_cases hdead : ∃ t, c = .switchDeadTimeEnd t
  · obtain ⟨t, rfl⟩ := hdead
    rcases effectOf_switchDeadTimeEnd t m with ⟨-, e⟩ | e
    · rw [e] at h ⊢
      have hx := (driveSince_completeAtSpeed (spunUp m)).held h
      simp only [driveCore, Prod.mk.injEq] at hx
      exact ⟨hx.2.1, hx.2.2.1⟩
    · rw [e]
      exact ⟨rfl, rfl⟩
  · push Not at hdead
    exact hcore ((driveSince_effect m c hdead).held h)

theorem rampUp_eq (d : Nat) : d / 3125 = 80 * d / 250000 := by omega

theorem rampDown_eq (v target d : Nat) : ((max target (v - (d + 3124) / 3125) : Nat) : Int)
    = max (target : Int) (((v : Int) * 250000 - 80 * (d : Int)) / 250000) := by
  omega

/-- Settles O5. -/
theorem outputRampsWithTime : Obligations.OutputRampsWithTime := by
  refine ⟨fun t s hr => ?_, fun c s s' hc hr hexec => ?_, fun f => ?_⟩
  · have hout : (after (.runSecond t) t s).fan.driveOutput = outputAt s (timeAfter t s) := by
      have h : (countRunSecond (advance t s)).fan.driveOutput = (advance t s).fan.driveOutput := by simp
      rw [advance_output] at h
      rw [← h]
      simp [after, effectOf]
    refine ⟨_, exec_eq_after (c := .runSecond t) rfl hr, fun hf => ?_, fun hf hle => ?_, fun hf hlt => ?_⟩
    · rw [hout, outputAt_of_not_following hf]
    · rw [hout, outputAt, if_pos hf]
      unfold rampOutput
      dsimp only
      rw [if_pos hle, rampUp_eq]
    · rw [hout, outputAt, if_pos hf]
      unfold rampOutput
      dsimp only
      rw [if_neg (by omega)]
      exact rampDown_eq _ _ _
  · obtain ⟨t, ht⟩ := Option.isSome_iff_exists.mp hc
    obtain rfl : after c t s = s' := by simpa [exec_eq_after ht hr] using hexec
    have hm : (advance t s).fan.driveTarget = s.fan.driveTarget := rfl
    obtain ⟨-, hh, -, hq, hsame, hnew, -⟩ := finish_drive (advance t s) (effectOf c (advance t s))
    have ho : (after c t s).fan.driveOutput = (effectOf c (advance t s)).fan.driveOutput := by simp [after]
    have hn : (after c t s).now = (effectOf c (advance t s)).now := by simp [after]
    have hxn : (effectOf c (advance t s)).now = (advance t s).now := by simp
    rw [hm] at hsame hnew
    refine ⟨fun hne => ?_, fun he => ⟨fun hs hs' => ?_, fun hs hdead => ?_, fun hs hs' hf => ?_⟩⟩
    · rw [ho, hn]
      exact hnew hne
    · obtain ⟨ef, es⟩ := hsame he
      have hx : (effectOf c (advance t s)).fan.holdEnd.isSome = true := hh ▸ hs'
      obtain ⟨e1, e2⟩ := ramp_of_held c hx
      exact ⟨ef.trans e1, es.trans e2⟩
    · obtain ⟨ef, es⟩ := hsame he
      obtain ⟨e1, e2, -⟩ := (driveSince_effect (advance t s) c hdead).free hs
      exact ⟨ef.trans e1, es.trans e2⟩
    · obtain ⟨ef, es⟩ := hsame he
      obtain ⟨hmoving, -⟩ := following_iff.mp hf
      have hfree := (effect_ramp (advance t s) c).2.1 (hq ▸ hmoving) (hh ▸ hs')
      rcases hfree with ⟨e1, e2⟩ | ⟨hfm, -⟩
      · exact ⟨ef.trans (e1.trans ho.symm), es.trans (e2.trans hn.symm)⟩
      · have hnone : s.fan.holdEnd = none := (following_iff.mp hfm).2
        simp [hnone] at hs
  · rfl

end Sys2Proof.Proofs

/-! The demand unit and the announced fields: what follows a command recomputes and requests, and when. -/

namespace Sys2Proof.Proofs

open Sys2Proof.Machine

/-! ## The STATUS request -/

/-- What follows a command after the demand unit moves no announced field. -/
theorem finish_announced (m x : State) : announced (finish m x) = announced (trackDemand m x) := by
  have h2 (y : State) : announced (trackAnnounced m y) = announced y := by unfold trackAnnounced; split <;> rfl
  have h3 (y : State) : announced (trackLamps m y) = announced y := by unfold trackLamps; split <;> rfl
  have h4 (y : State) : announced (trackRamp m y) = announced y := by unfold trackRamp; split <;> rfl
  exact (h4 _).trans ((h3 _).trans (h2 _))

/-- What follows a command in the STATUS slot and its mark. -/
theorem finish_status (m x : State) :
    (announced m = announced (finish m x) →
      (finish m x).line.statusSlot = x.line.statusSlot ∧ (finish m x).line.statusMark = x.line.statusMark)
    ∧ (announced m ≠ announced (finish m x) → (finish m x).line.statusSlot.pending = true) := by
  have h3 (y : State) : (trackLamps m y).line = y.line := by unfold trackLamps; split <;> rfl
  have h4 (y : State) : (trackRamp m y).line = y.line := by unfold trackRamp; split <;> rfl
  have hline : (finish m x).line = (trackAnnounced m (trackDemand m x)).line := (h4 _).trans (h3 _)
  have hdemand : (trackDemand m x).line = x.line := by simp
  rw [finish_announced, hline, trackAnnounced]
  refine ⟨fun h => ?_, fun h => ?_⟩
  · rw [if_pos h, hdemand]
    exact ⟨rfl, rfl⟩
  · rw [if_neg h]
    rfl

/-- Settles O8. -/
theorem announcedChangeRequestsStatus : Obligations.AnnouncedChangeRequestsStatus := by
  intro c s s' hexec hne
  rcases hc : timeOf c with _ | t
  · cases c <;> cases hc
    obtain rfl := Host.Outcome.next.inj hexec
    rfl
  · rcases exec_next_cases (by simp [hc]) hexec with ⟨_, rfl⟩ | ⟨t, _, _, rfl⟩
    · exact absurd rfl hne
    · exact (finish_status _ _).2 fun h => hne (h.symm.trans rfl)

/-! ## The recomputation -/

/-- States with the same inputs have the same levels, set flow and flow percent. -/
theorem demand_congr {s t : State} (h : demandInputs s = demandInputs t) :
    demandFor s = demandFor t ∧ motionDirection s = motionDirection t ∧ signedDemandFor s = signedDemandFor t
    ∧ imbalanceFor s = imbalanceFor t ∧ trimFor s = trimFor t ∧ setFlowFor s = setFlowFor t
    ∧ flowPercentFor s = flowPercentFor t ∧ s.fan.probeHold = t.fan.probeHold := by
  have hactive : s.demand.active = t.demand.active := congrArg DemandInputs.active h
  have hmode : houseModeLevel s = houseModeLevel t := congrArg DemandInputs.modeLevel h
  have hlimit : humidityLimit s = humidityLimit t := congrArg DemandInputs.limit h
  have hfrost : frostCap s = frostCap t := congrArg DemandInputs.frostCap h
  have hfilter : filterCap s = filterCap t := congrArg DemandInputs.filterCap h
  have hhold : s.fan.probeHold = t.fan.probeHold := congrArg DemandInputs.probeHold h
  have hstate : s.seq.state = t.seq.state := congrArg DemandInputs.state h
  have htarget : s.seq.target = t.seq.target := congrArg DemandInputs.target h
  have hderived : derivedDemands s = derivedDemands t := congrArg DemandInputs.derived h
  have hq : s.cfg.qNom = t.cfg.qNom := congrArg DemandInputs.qNom h
  have hlane : s.lane = t.lane := congrArg DemandInputs.lane h
  have hmotion : defrostMotion s = defrostMotion t := by simp only [defrostMotion, hstate, htarget]
  have hlevel : levelFor s = levelFor t := by
    funext d
    cases d <;> simp only [levelFor, hhold, hmotion, hlimit, hactive, hmode, hfrost, hfilter]
  have hdemand : demandFor s = demandFor t := by
    funext d
    simp only [demandFor, hlevel, hq]
  have hdirection : motionDirection s = motionDirection t := by
    simp only [motionDirection, hstate, htarget, hlane]
  have hsigned : signedDemandFor s = signedDemandFor t := by
    funext d
    simp only [signedDemandFor, hdemand]
  have htrim : trimFor s = trimFor t := by
    funext d
    simp only [trimFor, hhold, hderived]
  have hset : setFlowFor s = setFlowFor t := by
    funext d
    have hupper : upperBound s d = upperBound t d := by
      cases d <;> simp only [upperBound, hq, hfrost, hfilter, hmotion]
    simp only [setFlowFor, hsigned, htrim, qMin, hq, hupper]
  refine ⟨hdemand, hdirection, hsigned, ?_, htrim, hset, ?_, hhold⟩
  · funext d
    simp only [imbalanceFor, hderived]
  · funext d
    simp only [flowPercentFor, hset, hq]

/-- What a recomputation forms, from the state's own inputs. -/
theorem recompute_results (s : State) :
    (recompute s).demand.supply = demandFor s .supply
    ∧ (recompute s).demand.extract = demandFor s .extract
    ∧ (recompute s).demand.signed = (motionDirection s).map (signedDemandFor s)
    ∧ (∀ dir, motionDirection s = some dir → s.fan.probeHold = false →
        (recompute s).demand.imbalance = imbalanceFor s (signedDemandFor s dir))
    ∧ (recompute s).demand.trim = ((motionDirection s).map (fun dir => trimFor s (signedDemandFor s dir))).getD 0
    ∧ (recompute s).demand.setFlow = (motionDirection s).map (setFlowFor s)
    ∧ (recompute s).demand.flowPercent = ((motionDirection s).map (flowPercentFor s)).getD 0
    ∧ (recompute s).fan.demandTarget = demandTargetOf (recompute s).demand.flowPercent := by
  unfold recompute
  dsimp only
  split
  case h_1 dir hd => simp +contextual [hd]
  case h_2 hd => simp [hd, demandTargetOf]

/-- The results of the demand unit after what follows a command are those of its own part. -/
theorem finish_demand (m x : State) :
    (finish m x).demand = (trackDemand m x).demand ∧ (finish m x).fan.demandTarget = (trackDemand m x).fan.demandTarget
    ∧ (finish m x).fan.probeHold = x.fan.probeHold := by
  have h2 (y : State) : (trackAnnounced m y).demand = y.demand ∧ (trackAnnounced m y).fan = y.fan := by
    unfold trackAnnounced; split <;> exact ⟨rfl, rfl⟩
  have h3 (y : State) : (trackLamps m y).demand = y.demand ∧ (trackLamps m y).fan = y.fan := by
    unfold trackLamps; split <;> exact ⟨rfl, rfl⟩
  have h4 (y : State) : (trackRamp m y).demand = y.demand ∧ (trackRamp m y).fan.demandTarget = y.fan.demandTarget := by
    unfold trackRamp; split <;> exact ⟨rfl, rfl⟩
  refine ⟨((h4 _).1.trans (h3 _).1).trans (h2 _).1, ((h4 _).2.trans (congrArg _ (h3 _).2)).trans
    (congrArg _ (h2 _).2), congrArg (fun h => h.fan.probeHold) (held_finish m x)⟩

/-- R140: the derived demand of a peer by its announced state, its lane and the own parity. -/
theorem derivedDemand_eq (s : State) (p : PeerRec) :
    derivedDemand s p = if s.line.active = true ∨ p.fresh = false then 0 else
      match p.status with
      | none => 0
      | some st =>
        match st.state with
        | some .defrost => -(st.extract : Int)
        | some .through => if st.lane = .A then (st.supply : Int) else -(st.extract : Int)
        | some .supply | some .extract | some .reversing =>
          if (st.lane = .A ↔ s.clock.c.toNat % 2 = 0) then (st.supply : Int) else -(st.extract : Int)
        | _ => 0 := by
  have hcycle (st : StatusPart) : signedFlow (laneDirection st.lane s.clock.c) st.supply st.extract
      = if (st.lane = .A ↔ s.clock.c.toNat % 2 = 0) then (st.supply : Int) else -(st.extract : Int) := by
    cases hl : st.lane <;> by_cases he : s.clock.c.toNat % 2 = 0 <;> simp [laneDirection, signedFlow, he]
  unfold derivedDemand
  by_cases hsilent : s.line.active = true ∨ p.fresh = false
  · rw [if_pos (by simpa using hsilent), if_pos hsilent]
  · rw [if_neg (by simpa using hsilent), if_neg hsilent]
    cases p.status with
    | none => rfl
    | some st =>
      have hthrough : signedFlow (summerDirection st.lane) st.supply st.extract
          = if st.lane = .A then (st.supply : Int) else -(st.extract : Int) := by
        cases hl : st.lane <;> rfl
      dsimp only [StatusPart.derived]
      cases st.state with
      | none => rfl
      | some q =>
        cases q
        case through => exact hthrough
        case supply => exact hcycle st
        case extract => exact hcycle st
        case reversing => exact hcycle st
        all_goals rfl

/-- R113 and R85: the caps of the frost guard by stage and account. -/
theorem frostCap_eq (s : State) : frostCap s = match s.frost.stage with
    | .clear => 100
    | .limiting | .contending => if s.frost.account < 1200 then 70 else 50
    | .deferred => 40
    | .defrosting => 0
    | .lockout | .blind => 50 := by
  have hlimiting : (if 1200 ≤ s.frost.account then 50 else 70) = if s.frost.account < 1200 then 70 else 50 := by
    split <;> split <;> omega
  unfold frostCap frostSupplyCap
  cases s.frost.stage
  case limiting => exact hlimiting
  case contending => exact hlimiting
  all_goals rfl

theorem motionDirection_eq (s : State) : motionDirection s = match s.seq.state with
    | .supply => some .supply
    | .extract | .defrost => some .extract
    | .through => some (if s.lane = .A then .supply else .extract)
    | .reversing => s.seq.target.map (fun g => match g with
        | .supply => .supply
        | .extract | .defrost => .extract
        | .through => if s.lane = .A then .supply else .extract)
    | .rest | .paused | .stopped | .listen | .starting => none := by
  have hsummer : summerDirection s.lane = if s.lane = .A then .supply else .extract := by cases s.lane <;> rfl
  unfold motionDirection
  cases s.seq.state
  case through => exact congrArg some hsummer
  case reversing =>
    refine congrArg (fun f => s.seq.target.map f) (funext fun g => ?_)
    cases g
    case through => exact hsummer
    all_goals rfl
  all_goals rfl

/-- The demand under the probe hold, in a defrost motion, and otherwise. -/
theorem demandFor_cases (s : State) :
    (s.fan.probeHold = true → ∀ dir, demandFor s dir = 50 * s.cfg.qNom / 100)
    ∧ (s.fan.probeHold = false → defrostMotion s = true →
        demandFor s .supply = 0 ∧ demandFor s .extract = min 70 (filterCap s) * s.cfg.qNom / 100)
    ∧ (s.fan.probeHold = false → defrostMotion s = false →
        demandFor s .supply = min (if s.humid.state = .boosting then min s.demand.active (houseModeLevel s)
            else s.demand.active) (min (frostCap s) (filterCap s)) * s.cfg.qNom / 100
        ∧ demandFor s .extract = min s.demand.active (filterCap s) * s.cfg.qNom / 100) := by
  refine ⟨fun hh dir => ?_, fun hh hm => ?_, fun hh hm => ?_⟩
  · cases dir <;> simp [demandFor, levelFor, hh]
  · simp [demandFor, levelFor, hh, hm]
  · simp [demandFor, levelFor, hh, hm, humidityLimit]

/-- R118: the trim is at most half the own demand, 0 under the hold or without a peer of the other sign, and otherwise the
share of the imbalance held to that half. -/
theorem trimFor_cases (s : State) (d : Int) :
    2 * (trimFor s d).natAbs ≤ d.natAbs
    ∧ (s.fan.probeHold = true ∨ (∀ x ∈ derivedDemands s, 0 ≤ x * d) → trimFor s d = 0)
    ∧ (s.fan.probeHold = false → (∃ x ∈ derivedDemands s, x * d < 0) → trimFor s d =
        max (-((d.natAbs / 2 : Nat) : Int)) (min ((d.natAbs / 2 : Nat) : Int)
          ((-(imbalanceFor s d)).tdiv ((1 + ((derivedDemands s).filter (· ≠ 0)).length : Nat) : Int)))) := by
  have hclamp (x : Int) : clampMagnitude x (d.natAbs / 2)
      = max (-((d.natAbs / 2 : Nat) : Int)) (min ((d.natAbs / 2 : Nat) : Int) x) :=
    clampInt_eq_max_min (by omega) x
  have hany : (derivedDemands s).any (fun x => x * d < 0) = true ↔ ∃ x ∈ derivedDemands s, x * d < 0 := by simp
  unfold trimFor trimOf
  dsimp only
  refine ⟨?_, fun h => ?_, fun hh hx => ?_⟩
  · split
    · omega
    · split
      · rw [hclamp]
        omega
      · omega
  · rcases h with h | h
    · rw [if_pos h]
    · have hnone : ¬ (derivedDemands s).any (fun x => x * d < 0) = true := by
        rw [hany]
        push Not
        exact h
      rw [if_neg hnone, ite_self]
  · rw [if_neg (by simp [hh]), if_pos (hany.mpr hx), hclamp]
    rfl

/-- R119: the set flow between the two bounds, with the sign of the direction, and its percentage. -/
theorem setFlowFor_cases (s : State) (dir : Dir) {low high : Nat} {f : Int} (hlow : low = s.cfg.qNom * 20 / 100)
    (hhigh : high = s.cfg.qNom * (match dir with
      | .supply => min (frostCap s) (filterCap s)
      | .extract => if defrostMotion s = true then min 70 (filterCap s) else filterCap s) / 100)
    (hf : f = signedDemandFor s dir + trimFor s (signedDemandFor s dir)) (hle : low ≤ high) :
    (setFlowFor s dir).natAbs = max low (min high f.natAbs)
    ∧ (dir = .supply → 0 ≤ setFlowFor s dir) ∧ (dir = .extract → setFlowFor s dir ≤ 0)
    ∧ flowPercentFor s dir = min 100 ((setFlowFor s dir).natAbs * 100 / s.cfg.qNom) := by
  have hupper : upperBound s dir = high := by
    rw [hhigh]
    cases dir
    · rfl
    · dsimp only [upperBound]
      split <;> rfl
  have hset : setFlowFor s dir = setFlowOf dir (signedDemandFor s dir) (trimFor s (signedDemandFor s dir)) low high := by
    rw [hlow, ← hupper]
    rfl
  refine ⟨?_, ?_, ?_, rfl⟩
  · rw [hset, setFlowOf.eq_def, ← hf, clampNat_eq_max_min hle]
    cases dir
    · exact Int.natAbs_natCast _
    · exact (Int.natAbs_neg _).trans (Int.natAbs_natCast _)
  · rintro rfl
    rw [hset]
    exact Int.natCast_nonneg _
  · rintro rfl
    rw [hset]
    simp [setFlowOf]

theorem defrostMotion_iff (s : State) : defrostMotion s = true ↔
    s.seq.state = .defrost ∨ (s.seq.state = .reversing ∧ s.seq.target = some .defrost) := by
  simp [defrostMotion]

/-- Settles O6. -/
theorem recomputationFollowsItsInputs : Obligations.RecomputationFollowsItsInputs := by
  refine ⟨fun c s s' hc hexec hne => ?_, fun s => ?_⟩
  · rcases exec_next_cases hc hexec with ⟨_, rfl⟩ | ⟨t, _, _, rfl⟩
    · exact absurd rfl hne
    · have hx : demandInputs (after c t s) = demandInputs (effectOf c (advance t s)) := by simp [after]
      have hne : ¬ demandInputs (advance t s) = demandInputs (effectOf c (advance t s)) := by
        rw [← hx]
        exact fun h => hne h.symm
      obtain ⟨hd, hf, -⟩ := finish_demand (advance t s) (effectOf c (advance t s))
      rw [trackDemand, if_neg hne] at hd hf
      obtain ⟨e1, e2, e3, e4, e5, e6, e7, e8⟩ := demand_congr hx
      have hresults := recompute_results (effectOf c (advance t s))
      rw [← e1, ← e2, ← e3, ← e4, ← e5, ← e6, ← e7, ← e8] at hresults
      unfold after at *
      rw [hd, hf]
      exact hresults
  · obtain ⟨hhold, hdefrost, hlevels⟩ := demandFor_cases s
    refine ⟨rfl, frostCap_eq s, defrostMotion_iff s, hhold, hdefrost, hlevels, motionDirection_eq s, rfl, rfl, rfl,
      derivedDemand_eq s, fun d => ⟨rfl, trimFor_cases s d⟩,
      fun dir low high f hlow hhigh hf hle => setFlowFor_cases s dir hlow hhigh hf hle, fun p => rfl⟩

/-! ## The demand unit between its recomputations -/

theorem demandResults_of_eq {s t : State} (hd : t.demand = s.demand) (hf : t.fan.demandTarget = s.fan.demandTarget) :
    demandResults t = demandResults s := by
  simp only [demandResults, hd, hf]

theorem demandResults_push (e : Override) (s : State) : demandResults (push e s) = demandResults s := by
  have hd : (abandonProbe { s with demand := { s.demand with stack := pushed e s.demand.stack } }).demand
      = { s.demand with stack := pushed e s.demand.stack } := demand_of_abandonProbe _
  have hf : (push e s).fan.demandTarget = s.fan.demandTarget := (driveCore_of_withoutHold (push_withoutHold e s)).2.1
  simp only [demandResults, hf]
  simp only [push, reformLevels, hd]

theorem demandResults_quiet {s t : State} (h : Quiet s t) : demandResults t = demandResults s := by
  obtain ⟨-, -, -, -, -, -, -, -, -, -, hfan, -⟩ := h.keeps
  have hf := (driveCore_of_withoutHold hfan).2.1
  cases h
  case stage => exact demandResults_of_eq (by simp) hf
  case endStage => exact demandResults_of_eq (by simp) hf
  case push e _ => exact demandResults_push e s
  case startBoost => exact demandResults_push _ _
  all_goals rfl

theorem demandResults_setHouse (h : HouseMode) (s : State) : demandResults (setHouse h s) = demandResults s := by
  unfold setHouse
  dsimp only
  split <;> rfl

theorem demandResults_free (r : DemandResults) : FreeOfMotion (fun s => demandResults s = r) :=
  .of_seq_free (fun m s hs => (demandResults_of_eq (by simp) (by simp)).trans hs)
    (fun _ _ h hs => (demandResults_quiet h).trans hs) (fun _ _ hs => hs)
    (fun f s _ _ hf hs => (demandResults_of_eq (s := s) (t := { s with fan := f }) rfl hf).trans hs) (fun _ _ hs => hs)

theorem demandResults_act {r : DemandResults} {s s' : State} (h : Act false s s') (hs : demandResults s = r) :
    demandResults s' = r :=
  (demandResults_free r).act h nofun
    (fun s hs => hs ▸ by unfold capture; split <;> [rfl; split <;> rfl])
    (fun _ hs => hs) (fun _ _ _ _ _ hs => hs) (fun _ _ _ _ hs => hs) (fun _ _ hs => hs)
    (fun h s hs => (demandResults_setHouse h s).trans hs) (fun _ _ hs => hs) (fun _ _ hs => hs) nofun nofun hs

theorem demandResults_onHumidity (x : FaultChange) (s : State) : demandResults (onHumidity x s) = demandResults s := by
  unfold onHumidity humidFaultRaised humidFaultCleared leaveBoost
  split
  · split
    · dsimp only
      split <;> rfl
    · rfl
  · split <;> rfl
  · rfl

/-- The commands without a recomputation of their own leave the results. -/
theorem demandResults_effect (m : State) {c : Instr} (hhalf : ∀ t, c ≠ .halfBoundary t)
    (hframe : ∀ x b a t, c ≠ .frameReceived x b a t) (hrecord : ∀ r l t, c ≠ .filterRecordRead r l t) :
    demandResults (effectOf c m) = demandResults m := by
  have hacts {x y : State} (h : Acts false x y) (hx : demandResults x = demandResults m) :
      demandResults y = demandResults m := h.keep (fun _ _ => demandResults_act) hx
  by_cases hsample : ∃ i o h t, c = .sample i o h t
  · obtain ⟨i, o, h, t, rfl⟩ := hsample
    obtain ⟨x, y, z, w, e⟩ := takeSample_eq i o h m
    rw [show effectOf (.sample i o h t) m = takeSample i o h m from rfl, e]
    refine hacts (acts_sampleEnd _) ((demandResults_onHumidity z _).trans (hacts (acts_sampleFaults x y w _) rfl))
  by_cases hdead : ∃ t, c = .switchDeadTimeEnd t
  · obtain ⟨t, rfl⟩ := hdead
    rcases effectOf_switchDeadTimeEnd t m with ⟨-, e⟩ | e
    · rw [e]
      exact hacts (acts_completeAtSpeed _) rfl
    · rw [e]
  by_cases hperiod : ∃ t, c = .statusPeriodEnd t
  · obtain ⟨t, rfl⟩ := hperiod
    exact onlyIf_keeps demandResults (f := endStatusPeriod) (fun _ => rfl) _ m
  push Not at hsample hdead hperiod
  have hown : ownRequests c = false := by
    cases c
    case halfBoundary t => exact absurd rfl (hhalf t)
    case frameReceived x b a t => exact absurd rfl (hframe x b a t)
    case filterRecordRead r l t => exact absurd rfl (hrecord r l t)
    case statusPeriodEnd t => exact absurd rfl (hperiod t)
    all_goals rfl
  exact hacts (hown ▸ acts_effectOf c m hsample hdead) rfl

/-- Settles O7. -/
theorem demandHoldsBetweenChanges : Obligations.DemandHoldsBetweenChanges := by
  intro c s s' hc hexec hhalf hframe hrecord hsame
  rcases exec_next_cases hc hexec with ⟨_, rfl⟩ | ⟨t, _, _, rfl⟩
  · rfl
  · have hinputs : demandInputs (advance t s) = demandInputs (effectOf c (advance t s)) := by
      rw [after, (finish_inputs _ _).1] at hsame
      exact hsame.symm
    obtain ⟨hd, hf, -⟩ := finish_demand (advance t s) (effectOf c (advance t s))
    rw [trackDemand, if_pos hinputs] at hd hf
    exact (demandResults_of_eq hd hf).trans (demandResults_effect (advance t s) hhalf hframe hrecord)

end Sys2Proof.Proofs

/-! The phases of a reversal by the clock and by the tach: the end of RUNDOWN, of the dead time and of the spin-up hold, a
capture, and an overflow of the capture. -/

namespace Sys2Proof.Proofs

open Sys2Proof.Machine

/-- A timed command whose effect is known. -/
theorem exec_eq_finish {c : Instr} {t : Time} {s x : State} (hc : timeOf c = some t) (hr : s.inReset = false)
    (h : effectOf c (advance t s) = x) : exec c s = .next (finish (advance t s) x) := by
  rw [exec_eq_after hc hr, after, h]

theorem tenths_eq_seconds (n : Nat) : tenths (10 * n) = seconds n := by
  unfold tenths seconds Time at *
  omega

/-- An output that does not follow stays as it is. -/
theorem outputAt_still {s : State} (h : following s = false) (n : Time) : outputAt s n = s.fan.driveOutput := by
  simp [outputAt, h]

theorem not_following_of_phase {s : State} {p : Phase} (hstate : s.seq.state = .reversing) (hp : s.seq.phase = some p)
    (hne : p ≠ .spinup) : following s = false := by
  simp [following, SeqRec.moving, hstate, hp, hne]

theorem phaseLasted_iff (d : Time) (s : State) :
    phaseLasted d s = true ↔ ∃ p, s.seq.phaseStart = some p ∧ p + d ≤ s.now := by
  cases h : s.seq.phaseStart <;> simp [phaseLasted, reached, h]

/-! ## What the speed ends -/

/-- Outside a reversal, in RUNDOWN at speed within its time, in SWITCH and in a slow SPINUP the speed ends nothing. -/
theorem reversalOnSpeed_idle {s : State}
    (h : s.seq.state ≠ .reversing ∨ (s.seq.phase = some .rundown ∧ 300 ≤ s.fan.speed ∧ phaseLasted (seconds 4) s = false)
      ∨ s.seq.phase = some .switch ∨ (s.seq.phase = some .spinup ∧ s.fan.speed < 600)) : reversalOnSpeed s = s := by
  have hrundown : endRundown s = s := by
    unfold endRundown
    split
    case h_1 hstate hphase _ =>
      simp only [hstate, hphase, phaseLasted] at h
      have hslow : ¬ s.fan.speed < 300 := by simp at h; omega
      have hlate : reached (s.seq.phaseStart.map (· + seconds 4)) s.now = false := by
        simp at h
        exact h.2
      simp [hslow, hlate]
    case h_2 => rfl
  unfold reversalOnSpeed
  rw [hrundown]
  unfold completeAtSpeed
  split
  case h_1 hstate hphase _ =>
    have : s.fan.speed < 600 := by simpa [hstate, hphase] using h
    rw [if_neg (by omega)]
  case h_2 => rfl

/-- Below 300 rpm RUNDOWN ends in SWITCH. -/
theorem reversalOnSpeed_rundown {s : State} {g : Target} (hstate : s.seq.state = .reversing)
    (hphase : s.seq.phase = some .rundown) (htarget : s.seq.target = some g) (hspeed : s.fan.speed < 300) :
    reversalOnSpeed s = enterSwitch g s := by
  simp [reversalOnSpeed, endRundown, hstate, hphase, htarget, hspeed, completeAtSpeed, enterSwitch, orderDirection]

/-- Settles O30: each phase's end is one record update. -/
theorem reversalPhasesEnd : Obligations.ReversalPhasesEnd := by
  intro t s hr
  refine ⟨fun g hstate htarget hphase hover => ?_, fun g hstate htarget hphase p hp hover hspeed => ?_,
    fun e he hover => ?_⟩
  · have hlasted : s.fan.speed < 300 ∨ reached (s.seq.phaseStart.map (· + seconds 4)) (timeAfter t s) = true := by
      refine hover.imp id fun ⟨p, hp, hle⟩ => ?_
      rw [show tenths 40 = seconds 4 from tenths_eq_seconds 4] at hle
      exact (phaseLasted_iff (seconds 4) (advance t s)).mpr ⟨p, hp, hle⟩
    have heffect : effectOf (.rundownEnd t) (advance t s) = enterSwitch g (advance t s) := by
      have hdue : rundownOver (advance t s) = true := by
        simpa [rundownOver, inPhase, hstate, hphase, phaseLasted] using hlasted
      rw [effectOf, hdue]
      simp [onlyIf, endRundown, hstate, hphase, htarget, hlasted]
    refine ⟨_, exec_eq_finish (c := .rundownEnd t) rfl hr heffect, by rw [held_finish]; rfl, ?_⟩
    simp [outputAt_still (not_following_of_phase hstate hphase (by decide))]
  · have heffect : effectOf (.switchDeadTimeEnd t) (advance t s) = spunUp (advance t s) := by
      have hdue : deadTimeOver (advance t s) = true := by
        simp [deadTimeOver, inPhase, hstate, hphase, phaseLasted_iff, hp, hover]
      rw [effectOf, hdue]
      simp [onlyIf, enterSpinup, completeAtSpeed, hstate, htarget, hspeed, spunUp]
    refine ⟨_, exec_eq_finish (c := .switchDeadTimeEnd t) rfl hr heffect, ?_, by simp [spunUp]⟩
    rw [held_finish, show tenths 10 = seconds 1 from tenths_eq_seconds 1]
    rfl
  · have hstill : outputAt s (timeAfter t s) = s.fan.driveOutput := outputAt_still (by simp [following, he]) _
    have heffect : effectOf (.spinupHoldEnd t) (advance t s) = { advance t s with
        fan := { (advance t s).fan with holdEnd := none, rampFrom := s.fan.driveOutput, rampStart := timeAfter t s } } := by
      have hdue : holdOver (advance t s) = true := by simp [holdOver, reached, he, hover]
      rw [effectOf, hdue]
      simp [onlyIf, endHold, he, hstill]
    obtain ⟨-, -, -, -, hsame, hnew, -⟩ := finish_drive (advance t s) (effectOf (.spinupHoldEnd t) (advance t s))
    rw [heffect] at hsame hnew
    refine ⟨_, exec_eq_finish (c := .spinupHoldEnd t) rfl hr heffect, by rw [held_finish]; rfl, by simp [hstill], ?_⟩
    by_cases hsameTarget : (finish (advance t s) { advance t s with
        fan := { (advance t s).fan with holdEnd := none, rampFrom := s.fan.driveOutput, rampStart := timeAfter t s } }
        ).fan.driveTarget = (advance t s).fan.driveTarget
    · exact hsame hsameTarget
    · obtain ⟨hfrom, hstart⟩ := hnew hsameTarget
      exact ⟨hfrom.trans hstill, hstart⟩

/-! ## The tach -/

theorem speedOf_eq_ringSpeed (ring : List Nat) : speedOf ring = ringSpeed ring := by
  cases ring <;> simp [speedOf, ringSpeed]

theorem ringAdd_eq_ringAfter (p : Nat) {ring : List Nat} (h : ring.length ≤ 4) : ringAdd p ring = ringAfter ring p := by
  unfold ringAdd ringAfter
  split
  · rw [show ring.length + 1 - 4 = 0 by omega, List.drop_zero]
  · have hfour : ring.length = 4 := by omega
    cases ring with
    | nil => simp at hfour
    | cons x xs => simp [hfour]

/-- A capture moves the fan drive alone. -/
theorem capture_eq (s : State) : capture s = { s with fan := (capture s).fan } := by
  unfold capture
  split
  · rfl
  · split <;> rfl

/-- The fan drive after a capture in time. -/
theorem capture_fan (s : State) (h : s.fan.lastCapture.isSome = true → s.fan.ticksSince < 65536)
    (hring : s.fan.periods.length ≤ 4) :
    (capture s).fan = { s.fan with
      lastCapture := some s.fan.captureCounter
      ticksSince := 0
      periods := match s.fan.lastCapture with
        | none => s.fan.periods
        | some x => if s.fan.captureCounter = x then [] else ringAfter s.fan.periods (s.fan.captureCounter - x).toNat
      speed := match s.fan.lastCapture with
        | none => s.fan.speed
        | some x => if s.fan.captureCounter = x then 0
          else ringSpeed (ringAfter s.fan.periods (s.fan.captureCounter - x).toNat) } := by
  unfold capture
  rcases hlast : s.fan.lastCapture with _ | x
  · rfl
  · have hticks : ¬ 65536 ≤ s.fan.ticksSince := by simpa using h (by simp [hlast])
    by_cases hx : s.fan.captureCounter = x
    · simp [hx, storeCapture, overflow]
    · simp [hx, hticks, storeCapture, addPeriod, ringAdd_eq_ringAfter _ hring, speedOf_eq_ringSpeed]

/-- Settles O33: the capture makes the drive's record, and the new speed may end RUNDOWN. -/
theorem captureMeasuresTheSpeed : Obligations.CaptureMeasuresTheSpeed := by
  intro t s f hr hring hticks hf
  have htime : (advance t s).fan.lastCapture.isSome = true → (advance t s).fan.ticksSince < 65536 := by
    intro hsome
    obtain ⟨x, hx⟩ := Option.isSome_iff_exists.mp hsome
    have := hticks x hx
    have hadvanced : (advance t s).fan.ticksSince = min 65536 (s.fan.ticksSince + (timeAfter t s - s.now)) := by
      have : s.fan.lastCapture = some x := hx
      simp [advance, moveTime, trackStall, this, timeAfter]
    omega
  have hcapture := capture_fan (advance t s) htime hring
  have hsteady : (capture (advance t s)).fan.steady = f := by
    have hcounter : (advance t s).fan.captureCounter = counterAt t s := rfl
    rw [hcapture, hf, hcounter]
    simp only [advance_keeps_fan]
    rcases s.fan.lastCapture with _ | x
    · rfl
    · dsimp only
      split <;> rfl
  have hspeed : (capture (advance t s)).fan.speed = f.speed := by rw [← hsteady]; rfl
  have hheld : held (capture (advance t s)) = { held s with fan := f } := by
    rw [capture_eq, ← hsteady]
    rfl
  refine ⟨fun hidle => ?_, fun g hstate hphase htarget hslow => ?_⟩
  · have heffect : effectOf (.tachCapture t) (advance t s) = capture (advance t s) := by
      refine reversalOnSpeed_idle ?_
      rw [hspeed]
      simp only [capture_keeps, advance_keeps]
      refine hidle.imp id (Or.imp (fun ⟨hp, hfast, hin⟩ => ⟨hp, hfast, ?_⟩) id)
      rw [Bool.eq_false_iff, Ne, phaseLasted_iff]
      simp only [capture_keeps, advance_keeps, advance_now]
      rintro ⟨p, hp, hle⟩
      have := hin p hp
      rw [show tenths 40 = seconds 4 from tenths_eq_seconds 4] at this
      exact absurd hle (Nat.not_le.mpr this)
    exact ⟨_, exec_eq_finish (c := .tachCapture t) rfl hr heffect, by simp [hcapture], by rw [held_finish, hheld]⟩
  · have heffect : effectOf (.tachCapture t) (advance t s) = enterSwitch g (capture (advance t s)) :=
      reversalOnSpeed_rundown (by simpa using hstate) (by simpa using hphase) (by simpa using htarget) (by rwa [hspeed])
    refine ⟨_, exec_eq_finish (c := .tachCapture t) rfl hr heffect, ?_, ?_⟩
    · simp [enterSwitch, orderDirection, hcapture]
    · rw [held_finish, capture_eq, ← hsteady]
      rfl

/-- Settles O34: an overflow empties the ring, and speed 0 ends RUNDOWN. -/
theorem captureOverflows : Obligations.CaptureOverflows := by
  intro t s hr hlast hticks
  have hdue : overflowDue (advance t s) = true := by
    have hadvanced : (advance t s).fan.ticksSince = min 65536 (s.fan.ticksSince + (timeAfter t s - s.now)) := by
      simp [advance, moveTime, trackStall, hlast, timeAfter]
    have : 65536 ≤ (advance t s).fan.ticksSince := by rw [hadvanced]; omega
    simp [overflowDue, hlast, this]
  have heffect : effectOf (.captureOverflow t) (advance t s) = reversalOnSpeed (overflow (advance t s)) := if_pos hdue
  refine ⟨fun hstate => ?_, fun g hstate hphase htarget => ?_⟩
  · rw [reversalOnSpeed_idle (.inl (by simpa using hstate))] at heffect
    exact ⟨_, exec_eq_finish (c := .captureOverflow t) rfl hr heffect, by simp, by rw [held_finish]; rfl⟩
  · rw [reversalOnSpeed_rundown (by simpa using hstate) (by simpa using hphase) (by simpa using htarget) (by simp)]
      at heffect
    refine ⟨_, exec_eq_finish (c := .captureOverflow t) rfl hr heffect, ?_, by rw [held_finish]; rfl⟩
    simp [enterSwitch, orderDirection]

end Sys2Proof.Proofs

/-! What the shared operations make of the held part, each said once: the probe's end, the levels, a change of the frost
stage, and the answers of the blocks to a change of the sequencer's record. -/

namespace Sys2Proof.Proofs

open Sys2Proof.Machine

/-! ## The filter monitor and the levels -/

/-- R131: the filter record once a probe in progress has been abandoned at a time. -/
def abandoned (n : Time) (f : FilterRec) : FilterRec :=
  if f.probing then
    { f with
      probe := .waiting, abandonTime := some n, holdPlaced := false, speeds := [], firstSpeed := none
      firstClose := none, halfStart := none, expected := none }
  else f

@[simp] theorem abandoned_probing (n : Time) (f : FilterRec) : (abandoned n f).probing = false := by
  unfold abandoned
  split
  · rfl
  case isFalse h => simpa using h

theorem abandoned_idle {f : FilterRec} (h : f.probing = false) (n : Time) : abandoned n f = f := by simp [abandoned, h]

@[simp] theorem abandoned_twice (n : Time) (f : FilterRec) : abandoned n (abandoned n f) = abandoned n f :=
  abandoned_idle (abandoned_probing n f) n

theorem abandonProbe_eq (s : State) :
    abandonProbe s = { s with
      filter := abandoned s.now s.filter
      fan := { s.fan with probeHold := s.fan.probeHold && !s.filter.probing } } := by
  unfold abandonProbe abandoned
  cases h : s.filter.probing <;> simp [dropProbe, liftHold]

@[simp] theorem abandonProbe_filter (s : State) : (abandonProbe s).filter = abandoned s.now s.filter := by
  rw [abandonProbe_eq]

@[simp] theorem abandonProbe_probeHold (s : State) :
    (abandonProbe s).fan.probeHold = (s.fan.probeHold && !s.filter.probing) := by rw [abandonProbe_eq]

theorem held_abandonProbe (s : State) :
    held (abandonProbe s) = { held s with
      filter := abandoned s.now s.filter
      fan := { s.fan.steady with probeHold := s.fan.probeHold && !s.filter.probing } } := by
  rw [abandonProbe_eq]
  rfl

/-- The filter record and the hold after an abandonment are what the statements say of one. -/
theorem probeAbandoned_of {n : Time} {s s' : State} (hf : s'.filter = abandoned n s.filter)
    (hh : s'.fan.probeHold = (s.fan.probeHold && !s.filter.probing)) : probeAbandoned n s s' := by
  refine ⟨fun h => ⟨by rw [hf, abandoned_idle h], by simp [hh, h]⟩, fun h => ⟨by simp [hf, abandoned, h], by simp [hh, h]⟩⟩

theorem wantedLevel_eq (s : State) : wantedLevel s = topLevel s.demand.stack (houseModeLevel s) := by
  unfold wantedLevel topLevel
  split <;> simp [*]

theorem filter_not_is (src : Source) (origin : Nat) (st : List Override) :
    st.filter (fun x => !x.is src origin) = without src origin st := rfl

theorem held_removeEntry (src : Source) (origin : Nat) (s : State) :
    held (removeEntry src origin s) = { held s with
      stack := without src origin s.demand.stack
      requested := topLevel (without src origin s.demand.stack) (houseModeLevel s)
      active := min s.demand.active (topLevel (without src origin s.demand.stack) (houseModeLevel s)) } := by
  unfold removeEntry reformLevels
  rw [wantedLevel_eq]
  rfl

theorem pushed_eq_cons (e : Override) (st : List Override) :
    pushed e st = e :: (without e.source e.origin st).take 3 := by
  unfold pushed
  dsimp only
  split
  · rfl
  case isFalse h => rw [filter_not_is] at h ⊢; rw [List.take_of_length_le (by omega)]

theorem held_push (e : Override) (s : State) :
    held (push e s) = { held s with
      stack := e :: (without e.source e.origin s.demand.stack).take 3
      requested := e.level
      active := min s.demand.active e.level
      filter := abandoned s.now s.filter
      fan := { s.fan.steady with probeHold := s.fan.probeHold && !s.filter.probing } } := by
  rw [← pushed_eq_cons]
  unfold push reformLevels
  rw [abandonProbe_eq]
  rfl

/-! ## The frost stage -/

/-- Whether a change of the frost stage to `st` abandons a probe. -/
def leavesClear (f : FrostRec) (st : FrostStage) : Bool := f.stage = .clear && st ≠ .clear

theorem held_setStage (st : FrostStage) (s : State) :
    held (setStage st s) = { held s with
      frost := { s.frost with stage := st }
      filter := if leavesClear s.frost st then abandoned s.now s.filter else s.filter
      fan := { s.fan.steady with probeHold := s.fan.probeHold && !(leavesClear s.frost st && s.filter.probing) } } := by
  unfold setStage leavesClear
  dsimp only
  split
  case isTrue h =>
    rw [held_abandonProbe, held_showChange]
    simp only [h, decide_true, Bool.true_and, ne_eq, not_false_eq_true, if_true, showChange_keeps]
    have := congrArg Held.fan (held_showChange s { s with frost := { s.frost with stage := st } })
    simp [held] at this ⊢
  case isFalse h =>
    rw [held_showChange]
    have : (decide (s.frost.stage = .clear) && decide (st ≠ .clear)) = false := by
      simpa using h
    rw [this]
    simp [held, FanRec.steady]

theorem held_setStage_of_ne (st : FrostStage) {s : State} (h : s.frost.stage ≠ .clear) :
    held (setStage st s) = { held s with frost := { s.frost with stage := st } } := by
  rw [held_setStage]
  simp [leavesClear, h, held, FanRec.steady]

/-- A withdrawal from a stage other than CLEAR. -/
theorem held_withdraw (st : FrostStage) {s : State} (h : s.frost.stage ≠ .clear) :
    held (withdraw st s) = { held s with
      frost := { s.frost with
        stage := st, notice := some ⟨.withdraw, false⟩, windowEnd := none, contentionStart := none
        entryAccount := none }
      line := s.line.steady.request .defrost } := by
  unfold withdraw
  rw [held_setStage_of_ne st (by simpa [clearContention, queueNotice] using h)]
  rfl

/-! ## The answers to a change of the sequencer's state -/

/-- R82, R85, R87, R90: the frost record after the sequencer's state has gone from `old` to `new` at the time `n`. -/
def frostAfterSeq (new old : SeqState) (n : Time) (f : FrostRec) : FrostRec :=
  if new = .stopped ∧ old ≠ .stopped then
    match f.stage with
    | .contending => { f with
        stage := stageByAccount f.account, notice := some ⟨.withdraw, false⟩, windowEnd := none
        contentionStart := none, entryAccount := none }
    | .defrosting => { f with
        stage := .lockout, notice := some ⟨.leave, false⟩, defrostStart := none, meltStepEnd := none
        lockoutEnd := some (n + seconds 1800) }
    | .blind =>
      if f.blindDefrost then
        { f with notice := some ⟨.leave, false⟩, blindDefrost := false, defrostStart := none }
      else f
    | _ => f
  else if f.stage = .defrosting then
    if new = .defrost ∧ old ≠ .defrost then { f with meltStepEnd := some (n + seconds 10) }
    else if new = .rest ∧ old ≠ .rest then
      { f with
        stage := stageByAccount f.account, notice := some ⟨.leave, false⟩, defrostStart := none, meltStepEnd := none }
    else if new ≠ .defrost ∧ old = .defrost then { f with meltStepEnd := none }
    else f
  else f

/-- Whether that change queues a notice. -/
def noticeAfterSeq (new old : SeqState) (f : FrostRec) : Bool :=
  if new = .stopped ∧ old ≠ .stopped then
    f.stage = .contending || f.stage = .defrosting || (f.stage = .blind && f.blindDefrost)
  else f.stage = .defrosting && new = .rest && old ≠ .rest

theorem held_frostOnStopped (s : State) (old : SeqState) (hnew : s.seq.state = .stopped) (hold : old ≠ .stopped) :
    held (frostOnStopped s) = { held s with
      frost := frostAfterSeq s.seq.state old s.now s.frost
      line := if noticeAfterSeq s.seq.state old s.frost then s.line.steady.request .defrost else s.line.steady } := by
  unfold frostOnStopped frostAfterSeq noticeAfterSeq
  have hin : s.seq.state = .stopped ∧ old ≠ .stopped := ⟨hnew, hold⟩
  rw [if_pos hin, if_pos hin]
  cases hstage : s.frost.stage
  case contending =>
    dsimp only
    rw [held_withdraw _ (by simp [hstage])]
    rfl
  case defrosting =>
    dsimp only
    rw [held_setStage_of_ne _ (by simp [startLockout, leaveDefrost, clearDefrost, queueNotice, hstage])]
    rfl
  case blind =>
    cases hblind : s.frost.blindDefrost
    · rfl
    · simp [held, clearBlindDefrost, queueNotice, hstage]
      rfl
  all_goals rfl

theorem held_frostOnSequencer (old : SeqState) (s : State) :
    held (frostOnSequencer old s) = { held s with
      frost := frostAfterSeq s.seq.state old s.now s.frost
      line := if noticeAfterSeq s.seq.state old s.frost then s.line.steady.request .defrost else s.line.steady } := by
  unfold frostOnSequencer
  by_cases hstopped : s.seq.state = .stopped ∧ old ≠ .stopped
  · rw [if_pos hstopped, held_frostOnStopped s old hstopped.1 hstopped.2]
  · rw [if_neg hstopped]
    unfold frostAfterSeq noticeAfterSeq
    rw [if_neg hstopped, if_neg hstopped]
    by_cases hstage : s.frost.stage = .defrosting
    · rw [if_pos hstage, if_pos hstage]
      unfold defrostOnSequencer
      by_cases hin : s.seq.state = .defrost ∧ old ≠ .defrost
      · have hno : (decide (s.frost.stage = .defrosting) && decide (s.seq.state = .rest) && decide (old ≠ .rest)) = false := by
          simp [hin.1]
        rw [if_pos hin, if_pos hin, hno]
        rfl
      rw [if_neg hin, if_neg hin]
      by_cases hrest : s.seq.state = .rest ∧ old ≠ .rest
      · have hyes : (decide (s.frost.stage = .defrosting) && decide (s.seq.state = .rest) && decide (old ≠ .rest)) = true := by
          simpa [hstage] using hrest
        rw [if_pos hrest, if_pos hrest, hyes,
          held_setStage_of_ne _ (by simp [leaveDefrost, clearDefrost, queueNotice, hstage])]
        rfl
      · have hno : (decide (s.frost.stage = .defrosting) && decide (s.seq.state = .rest) && decide (old ≠ .rest)) = false := by
          simpa [hstage] using hrest
        rw [if_neg hrest, if_neg hrest, hno]
        split <;> rfl
    · rw [if_neg hstage, if_neg hstage]
      have hno : (decide (s.frost.stage = .defrosting) && decide (s.seq.state = .rest) && decide (old ≠ .rest)) = false := by
        simp [hstage]
      rw [hno]
      rfl

/-- R101: the humidity monitor's record after the sequencer's state has gone from `old` to `new` at the time `n`. -/
def humidAfterSeq (new old : SeqState) (n : Time) (h : HumidRec) : HumidRec :=
  let h1 := if old = .rest ∧ new ≠ .rest then { h with nextRestCheck := none } else h
  if new = .rest ∧ old ≠ .rest then
    match h.state with
    | .disabled => h1
    | .boosting => { h1 with
        state := .rearming, boostStart := none, falling := 0, nextRestCheck := some (n + seconds 60) }
    | _ => { h1 with nextRestCheck := some (n + seconds 60) }
  else if new = .stopped ∧ old ≠ .stopped then
    match h.state with
    | .disabled => h1
    | .boosting => { h1 with state := .seeding, boostStart := none, falling := 0, baseline := none }
    | _ => { h1 with state := .seeding, baseline := none }
  else h1

/-- Whether that change ends a humidity boost. -/
def boostLost (new old : SeqState) (h : HumidRec) : Bool :=
  h.state = .boosting && ((new = .rest && old ≠ .rest) || (new = .stopped && old ≠ .stopped))

theorem held_endBoost (next : HumidState) (s : State) :
    held (endBoost next s) = { held s with
      humid := { s.humid with state := next, boostStart := none, falling := 0 }
      stack := without .humidity (ownNumber s) s.demand.stack
      requested := topLevel (without .humidity (ownNumber s) s.demand.stack) (houseModeLevel s)
      active := min s.demand.active (topLevel (without .humidity (ownNumber s) s.demand.stack) (houseModeLevel s)) } := by
  unfold endBoost
  rw [held_removeEntry]
  rfl

theorem held_humidOnSequencer (old : SeqState) (s : State) :
    held (humidOnSequencer old s) = { held s with
      humid := humidAfterSeq s.seq.state old s.now s.humid
      stack := if boostLost s.seq.state old s.humid then without .humidity (ownNumber s) s.demand.stack
        else s.demand.stack
      requested := if boostLost s.seq.state old s.humid then
          topLevel (without .humidity (ownNumber s) s.demand.stack) (houseModeLevel s)
        else s.demand.requested
      active := if boostLost s.seq.state old s.humid then
          min s.demand.active (topLevel (without .humidity (ownNumber s) s.demand.stack) (houseModeLevel s))
        else s.demand.active } := by
  unfold humidOnSequencer humidAfterSeq
  by_cases hrest : s.seq.state = .rest ∧ old ≠ .rest
  · have hold : ¬ (old = .rest ∧ s.seq.state ≠ .rest) := fun h => hrest.2 h.1
    rw [if_neg hold, if_neg hold, if_pos hrest, if_pos hrest]
    cases hlost : boostLost s.seq.state old s.humid
    · cases hstate : s.humid.state
      case boosting => simp [boostLost, hstate, hrest] at hlost
      all_goals simp [humidOnRest, held, hstate]
    · have hstate : s.humid.state = .boosting := by simp [boostLost] at hlost; exact hlost.1
      simp only [humidOnRest, hstate]
      rfl
  rw [if_neg hrest, if_neg hrest]
  by_cases hstop : s.seq.state = .stopped ∧ old ≠ .stopped
  · rw [if_pos hstop, if_pos hstop]
    cases hlost : boostLost s.seq.state old s.humid
    · cases hstate : s.humid.state
      case boosting => simp [boostLost, hstate, hstop] at hlost
      all_goals
        by_cases hleft : old = .rest ∧ s.seq.state ≠ .rest
        all_goals simp [humidOnStopped, reseed, leaveBoost, held, hstate, hleft]
    · have hstate : s.humid.state = .boosting := by simp [boostLost] at hlost; exact hlost.1
      by_cases hleft : old = .rest ∧ s.seq.state ≠ .rest
      · rw [if_pos hleft, if_pos hleft]
        simp only [humidOnStopped, reseed, leaveBoost, hstate]
        rfl
      · rw [if_neg hleft, if_neg hleft]
        simp only [humidOnStopped, reseed, leaveBoost, hstate]
        rfl
  · rw [if_neg hstop, if_neg hstop]
    have hkept : boostLost s.seq.state old s.humid = false := by
      simp [boostLost]
      tauto
    rw [hkept]
    split <;> rfl

theorem held_filterOnSequencer (s : State) :
    held (filterOnSequencer s) = { held s with
      filter := if s.seq.abandonsProbe then abandoned s.now s.filter else s.filter
      fan := { s.fan.steady with probeHold := s.fan.probeHold && !(s.seq.abandonsProbe && s.filter.probing) } } := by
  unfold filterOnSequencer
  cases h : s.seq.abandonsProbe
  · simp [held, FanRec.steady]
  · simp [held_abandonProbe]

/-- What a change of the sequencer's record makes of the held part: the record, and the answers of the frost guard, the
filter monitor and the humidity monitor. -/
theorem held_changeSeq (q : SeqRec) (s : State) :
    held (changeSeq q s) = { held s with
      seq := q
      frost := frostAfterSeq q.state s.seq.state s.now s.frost
      line := if noticeAfterSeq q.state s.seq.state s.frost then s.line.steady.request .defrost else s.line.steady
      filter := if q.abandonsProbe then abandoned s.now s.filter else s.filter
      fan := { s.fan.steady with probeHold := s.fan.probeHold && !(q.abandonsProbe && s.filter.probing) }
      humid := humidAfterSeq q.state s.seq.state s.now s.humid
      stack := if boostLost q.state s.seq.state s.humid then without .humidity (ownNumber s) s.demand.stack
        else s.demand.stack
      requested := if boostLost q.state s.seq.state s.humid then
          topLevel (without .humidity (ownNumber s) s.demand.stack) (houseModeLevel s)
        else s.demand.requested
      active := if boostLost q.state s.seq.state s.humid then
          min s.demand.active (topLevel (without .humidity (ownNumber s) s.demand.stack) (houseModeLevel s))
        else s.demand.active } := by
  have hshown : held (showChange s { s with seq := q }) = { held s with seq := q } := held_showChange _ _
  generalize hx : showChange s { s with seq := q } = x at hshown
  have hnow : x.now = s.now := by rw [← hx]; simp
  have hfrost := held_frostOnSequencer s.seq.state x
  have hfilter := held_filterOnSequencer (frostOnSequencer s.seq.state x)
  have hhumid := held_humidOnSequencer s.seq.state (filterOnSequencer (frostOnSequencer s.seq.state x))
  have hown : ownNumber (filterOnSequencer (frostOnSequencer s.seq.state x)) = ownNumber s := by
    simp [ownNumber, ← hx]
  have hlevel : houseModeLevel (filterOnSequencer (frostOnSequencer s.seq.state x)) = houseModeLevel s := by
    simp [houseModeLevel, ← hx]
  unfold changeSeq notify
  rw [hx, hhumid, hfilter, hfrost, hown, hlevel]
  have e1 : x.seq = q := congrArg Held.seq hshown
  have e2 : x.frost = s.frost := congrArg Held.frost hshown
  have e3 : x.humid = s.humid := congrArg Held.humid hshown
  have e4 : x.demand.stack = s.demand.stack := congrArg Held.stack hshown
  have e5 : x.demand.requested = s.demand.requested := congrArg Held.requested hshown
  have e6 : x.demand.active = s.demand.active := congrArg Held.active hshown
  have e7 : x.filter = s.filter := congrArg Held.filter hshown
  have e8 : x.line.steady = s.line.steady := congrArg Held.line hshown
  have e9 : x.fan.steady = s.fan.steady := congrArg Held.fan hshown
  have e10 : (frostOnSequencer s.seq.state x).filter = x.filter := congrArg Held.filter hfrost
  have e11 : (frostOnSequencer s.seq.state x).fan.steady = x.fan.steady := congrArg Held.fan hfrost
  have e12 : (frostOnSequencer s.seq.state x).fan.probeHold = s.fan.probeHold := by
    have := congrArg FanRec.probeHold (e11.trans e9)
    exact this
  simp [e1, e2, e3, e4, e5, e6, e7, e8, e9, e10, e11, e12, hnow, hshown]

/-! ## The motions -/

/-- The drive's steady part after the drive has been stopped and the direction output has taken `d` where the speed is
below 300 rpm. -/
def stoppedToward (d : Dir) (f : FanRec) : FanRec :=
  { f with holdEnd := none, direction := if f.speed < 300 then d else f.direction }

theorem held_enterRundown (g : Target) (s : State) :
    held (enterRundown g s) = { held s with
      seq := { s.seq with phase := some (firstPhase s.fan.speed), phaseStart := some s.now }
      fan := stoppedToward (g.direction s.lane) s.fan.steady } := by
  have hspeed : s.fan.steady.speed = s.fan.speed := rfl
  unfold enterRundown stoppedToward firstPhase
  rw [hspeed]
  dsimp only
  split <;> rfl

theorem held_beginReversing (g : Target) (s : State) :
    held (beginReversing g s) = { held s with
      seq := { s.seq with
        state := .reversing, phase := some (firstPhase s.fan.speed), target := some g, phaseStart := some s.now }
      frost := frostAfterSeq .reversing s.seq.state s.now s.frost
      filter := if g = .defrost ∨ g = .through then abandoned s.now s.filter else s.filter
      fan := { stoppedToward (g.direction s.lane) s.fan.steady with
        probeHold := s.fan.probeHold && !(decide (g = .defrost ∨ g = .through) && s.filter.probing) }
      humid := if s.seq.state = .rest then { s.humid with nextRestCheck := none } else s.humid } := by
  unfold beginReversing
  generalize hq : ({ s.seq with state := .reversing, phase := none, target := some g, phaseStart := none } : SeqRec) = q
  have hstate : q.state = .reversing := by rw [← hq]
  have habandons : q.abandonsProbe = decide (g = .defrost ∨ g = .through) := by rw [← hq]; simp [SeqRec.abandonsProbe]
  have hnotice : noticeAfterSeq q.state s.seq.state s.frost = false := by simp [noticeAfterSeq, hstate]
  have hboost : boostLost q.state s.seq.state s.humid = false := by simp [boostLost, hstate]
  have hhumid : humidAfterSeq q.state s.seq.state s.now s.humid
      = if s.seq.state = .rest then { s.humid with nextRestCheck := none } else s.humid := by
    simp [humidAfterSeq, hstate]
  have h := held_changeSeq q s
  rw [hnotice, hboost, hhumid, habandons, hstate] at h
  have hfan : (changeSeq q s).fan.steady = _ := congrArg Held.fan h
  rw [held_enterRundown, h, hfan]
  simp only [changeSeq_seq, changeSeq_keeps, ← hq]
  simp [held, stoppedToward]

end Sys2Proof.Proofs

/-! What each motion makes of the held part, and the commands that are one motion: the end of a pause, the completion of a
reversal and a stall. -/

namespace Sys2Proof.Proofs

open Sys2Proof.Machine

/-! ## The motions -/

/-- A change between two states in which the sequencer neither rests nor is stopped. -/
theorem held_changeSeq_running {q : SeqRec} {s : State} (hrest : q.state ≠ .rest) (hstop : q.state ≠ .stopped)
    (hold : s.seq.state ≠ .rest) :
    held (changeSeq q s) = { held s with
      seq := q
      frost := frostAfterSeq q.state s.seq.state s.now s.frost
      filter := if q.abandonsProbe then abandoned s.now s.filter else s.filter
      fan := { s.fan.steady with probeHold := s.fan.probeHold && !(q.abandonsProbe && s.filter.probing) } } := by
  have hnotice : noticeAfterSeq q.state s.seq.state s.frost = false := by simp [noticeAfterSeq, hrest, hstop]
  have hboost : boostLost q.state s.seq.state s.humid = false := by simp [boostLost, hrest, hstop]
  have hhumid : humidAfterSeq q.state s.seq.state s.now s.humid = s.humid := by simp [humidAfterSeq, hrest, hstop, hold]
  rw [held_changeSeq, hnotice, hboost, hhumid]
  rfl

/-- The frost guard's record stays where no defrost moves. -/
theorem frostAfterSeq_same {new old : SeqState} {n : Time} {f : FrostRec} (hstop : new ≠ .stopped)
    (h : f.stage = .defrosting → new = old ∨ (new ≠ .defrost ∧ new ≠ .rest ∧ old ≠ .defrost)) :
    frostAfterSeq new old n f = f := by
  unfold frostAfterSeq
  by_cases hstage : f.stage = .defrosting
  · rcases h hstage with rfl | ⟨hn, hr, ho⟩ <;> simp [*]
  · simp [hstop, hstage]

theorem held_enterRest (s : State) :
    held (enterRest s) = { held s with
      seq := { s.seq with
        state := .rest, phase := none, target := none, phaseStart := none, restHeld := false, restStart := some s.now
        defrostResume := false, pauseEnd := none }
      frost := frostAfterSeq .rest s.seq.state s.now s.frost
      line := if noticeAfterSeq .rest s.seq.state s.frost then s.line.steady.request .defrost else s.line.steady
      filter := abandoned s.now s.filter
      fan := { s.fan.steady with holdEnd := none, probeHold := s.fan.probeHold && !s.filter.probing }
      humid := humidAfterSeq .rest s.seq.state s.now s.humid
      stack := if boostLost .rest s.seq.state s.humid then without .humidity (ownNumber s) s.demand.stack
        else s.demand.stack
      requested := if boostLost .rest s.seq.state s.humid then
          topLevel (without .humidity (ownNumber s) s.demand.stack) (houseModeLevel s)
        else s.demand.requested
      active := if boostLost .rest s.seq.state s.humid then
          min s.demand.active (topLevel (without .humidity (ownNumber s) s.demand.stack) (houseModeLevel s))
        else s.demand.active } := by
  unfold enterRest
  rw [held_changeSeq]
  rfl

theorem held_endHold (s : State) : held (endHold s) = { held s with fan := { s.fan.steady with holdEnd := none } } := by
  unfold endHold
  split
  · rfl
  case isFalse h =>
    have hnone : s.fan.steady.holdEnd = none := by
      show s.fan.holdEnd = none
      simpa using h
    rw [← hnone]
    rfl

theorem held_replaceTarget (g : Target) {s : State} (hstate : s.seq.state = .reversing) :
    held (replaceTarget g s) = { held s with
      seq := { s.seq with target := some g }
      filter := if g = .defrost ∨ g = .through then abandoned s.now s.filter else s.filter
      fan := { s.fan.steady with
        probeHold := s.fan.probeHold && !(decide (g = .defrost ∨ g = .through) && s.filter.probing) } } := by
  unfold replaceTarget
  generalize hq : ({ s.seq with target := some g } : SeqRec) = q
  have hnew : q.state = .reversing := by rw [← hq]; exact hstate
  have habandons : q.abandonsProbe = decide (g = .defrost ∨ g = .through) := by
    rw [← hq]
    simp [SeqRec.abandonsProbe, hstate]
  have hfrost : frostAfterSeq q.state s.seq.state s.now s.frost = s.frost :=
    frostAfterSeq_same (by simp [hnew]) fun _ => .inl (by rw [hnew, hstate])
  rw [held_changeSeq_running (by simp [hnew]) (by simp [hnew]) (by simp [hstate]), habandons, hfrost]
  simp [held]

/-- The drive's steady part after a reversal in a phase has been turned toward the direction `d`. -/
def turnedToward (p : Option Phase) (d : Dir) (f : FanRec) : FanRec :=
  match p with
  | some .switch => { f with direction := d }
  | some .spinup => stoppedToward d f
  | _ => f

theorem held_retarget {g h : Target} {s : State} (hstate : s.seq.state = .reversing) (ht : s.seq.target = some h) :
    held (retarget g s) = { held s with
      seq := (retarget g s).seq
      filter := if g ≠ h ∧ (g = .defrost ∨ g = .through) then abandoned s.now s.filter else s.filter
      fan := { (if g.direction s.lane = h.direction s.lane then s.fan.steady
          else turnedToward s.seq.phase (g.direction s.lane) s.fan.steady) with
        probeHold := s.fan.probeHold && !(decide (g ≠ h ∧ (g = .defrost ∨ g = .through)) && s.filter.probing) } } := by
  have hreplaced := held_replaceTarget g hstate
  have hfan : (replaceTarget g s).fan.steady = _ := congrArg Held.fan hreplaced
  have hspeed : (replaceTarget g s).fan.speed = s.fan.speed := by simp [replaceTarget]
  unfold retarget
  rw [ht]
  dsimp only
  by_cases he : g = h
  · simp [he, held, FanRec.steady]
  · rw [if_neg he]
    by_cases hd : g.direction s.lane = h.direction s.lane
    · rw [if_pos hd, hreplaced, if_pos hd]
      simp [he, replaceTarget]
    · rw [if_neg hd, if_neg hd]
      split
      case h_1 hp =>
        have hswitch : held (enterSwitch g (replaceTarget g s)) = { held (replaceTarget g s) with
            seq := (enterSwitch g (replaceTarget g s)).seq
            fan := { (replaceTarget g s).fan.steady with direction := g.direction (replaceTarget g s).lane } } := rfl
        rw [hswitch, hreplaced, hfan]
        simp [he, hp, turnedToward, replaceTarget]
      case h_2 hp =>
        rw [held_enterRundown, hreplaced, hfan]
        simp [he, hp, turnedToward, replaceTarget, stoppedToward, enterRundown_seq]
      case h_3 hs hr =>
        have hkept : turnedToward s.seq.phase (g.direction s.lane) s.fan.steady = s.fan.steady := by
          unfold turnedToward
          split
          · contradiction
          · contradiction
          · rfl
        rw [hreplaced, hkept]
        simp [he, replaceTarget]

/-! ## The completion of a reversal -/

/-- The filter record after the sequencer has completed a reversal toward `g`. -/
def completedProbe (g : Target) (n : Time) (f : FilterRec) : FilterRec :=
  if f.probing then
    if f.expected.any (fun d => d.target = g) then { f with holdPlaced := true } else abandoned n f
  else f

/-- The probe hold after that. -/
def completedHold (g : Target) (f : FilterRec) (hold : Bool) : Bool :=
  if f.probing then f.expected.any (fun d => d.target = g) && (hold || !f.holdPlaced) else hold

theorem filterOnCompletion_eq (g : Target) (s : State) :
    filterOnCompletion g s = { s with
      filter := completedProbe g s.now s.filter
      fan := { s.fan with probeHold := completedHold g s.filter s.fan.probeHold } } := by
  unfold filterOnCompletion completedProbe completedHold abandoned
  cases hp : s.filter.probing
  · simp
  · cases he : s.filter.expected.any (fun d => d.target = g)
    · simp [dropProbe, liftHold]
    · cases hh : s.filter.holdPlaced
      · simp [placeHold]
      · have : s.filter = { s.filter with holdPlaced := true } := by rw [← hh]
        simp [← this]

/-- A probe half that is not the completed one is abandoned; DEFROST and THROUGH are none. -/
theorem completedProbe_abandoned {g : Target} (hg : g = .defrost ∨ g = .through) (n : Time) (f : FilterRec) :
    completedProbe g n (abandoned n f) = completedProbe g n f := by
  have hnone : f.expected.any (fun d => d.target = g) = false := by
    rcases f.expected with _ | d
    · rfl
    · rcases hg with rfl | rfl <;> cases d <;> rfl
  have hidle : (abandoned n f).probing = false := abandoned_probing n f
  unfold completedProbe
  rw [hidle, hnone]
  cases hp : f.probing
  · simp [abandoned, hp]
  · simp

theorem completedHold_abandoned {g : Target} (hg : g = .defrost ∨ g = .through) (n : Time) (f : FilterRec) (hold : Bool) :
    completedHold g (abandoned n f) (hold && !f.probing) = completedHold g f hold := by
  have hnone : f.expected.any (fun d => d.target = g) = false := by
    rcases f.expected with _ | d
    · rfl
    · rcases hg with rfl | rfl <;> cases d <;> rfl
  unfold completedHold
  rw [abandoned_probing, hnone]
  cases hp : f.probing <;> simp

theorem completedProbe_other {g : Target} {f : FilterRec} (hp : f.probing = true)
    (h : ∀ d, f.expected = some d → d.target ≠ g) (n : Time) (hold : Bool) :
    completedProbe g n f = { f with
        probe := .waiting, abandonTime := some n, holdPlaced := false, speeds := [], firstSpeed := none
        firstClose := none, halfStart := none, expected := none }
      ∧ completedHold g f hold = false := by
  have hnone : f.expected.any (fun d => d.target = g) = false := by
    rcases he : f.expected with _ | d
    · rfl
    · simpa using h d he
  simp [completedProbe, completedHold, hp, hnone, abandoned]

theorem completedProbe_expected {g : Target} {f : FilterRec} {d : Dir} (hp : f.probing = true)
    (he : f.expected = some d) (hd : d.target = g) (hold : Bool) (hplaced : f.holdPlaced = false) (n : Time) :
    completedProbe g n f = { f with holdPlaced := true } ∧ completedHold g f hold = true := by
  simp [completedProbe, completedHold, hp, he, hd, hplaced]

/-- The melt steps begin where a defrost completes its reversal. -/
theorem frostAfterSeq_completed (g : Target) (n : Time) (f : FrostRec) :
    frostAfterSeq g.state .reversing n f
      = if f.stage = .defrosting ∧ g = .defrost then { f with meltStepEnd := some (n + seconds 10) } else f := by
  by_cases hstage : f.stage = .defrosting <;> cases g <;> simp [frostAfterSeq, hstage, Target.state]

/-- The state in which a completed reversal leaves the sequencer, before a held rest is taken. -/
def completed (g : Target) (s : State) : State :=
  let s1 := changeSeq { s.seq with state := g.state, phase := none, target := none, phaseStart := none } (endHold s)
  filterOnCompletion g { s1 with climate := { s1.climate with lastCompletion := some s.now } }

theorem completeReversal_eq (g : Target) (s : State) :
    completeReversal g s = if s.seq.restHeld ∧ g ≠ .defrost then enterRest (completed g s) else completed g s := by
  have hrest : (completed g s).seq.restHeld = s.seq.restHeld := by simp [completed]
  rw [← hrest]
  rfl

theorem held_completed (g : Target) {s : State} (hstate : s.seq.state = .reversing) :
    held (completed g s) = { held s with
      seq := { s.seq with state := g.state, phase := none, target := none, phaseStart := none }
      frost := frostAfterSeq g.state .reversing s.now s.frost
      climate := { s.climate with lastCompletion := some s.now }
      filter := completedProbe g s.now s.filter
      fan := { s.fan.steady with holdEnd := none, probeHold := completedHold g s.filter s.fan.probeHold } } := by
  unfold completed
  generalize hq : ({ s.seq with state := g.state, phase := none, target := none, phaseStart := none } : SeqRec) = q
  have hnew : q.state = g.state := by rw [← hq]
  have habandons : q.abandonsProbe = decide (g = .defrost ∨ g = .through) := by
    rw [← hq]
    cases g <;> rfl
  have hrun : g.state ≠ .rest ∧ g.state ≠ .stopped := by cases g <;> simp [Target.state]
  have h := held_changeSeq_running (q := q) (s := endHold s) (by rw [hnew]; exact hrun.1) (by rw [hnew]; exact hrun.2)
    (by simp [hstate])
  rw [habandons, hnew, held_endHold] at h
  have hnow : (changeSeq q (endHold s)).now = s.now := by simp
  generalize changeSeq q (endHold s) = x at h hnow
  have hendHold : (endHold s).fan.probeHold = s.fan.probeHold :=
    congrArg (fun y : Held => y.fan.probeHold) (held_endHold s)
  have hendSteady : (endHold s).fan.steady = { s.fan.steady with holdEnd := none } := congrArg Held.fan (held_endHold s)
  simp only [endHold_keeps, hendHold, hendSteady, hstate] at h
  have hfilter : x.filter = _ := congrArg Held.filter h
  have hhold : x.fan.probeHold = _ := congrArg (fun y : Held => y.fan.probeHold) h
  have hfan : x.fan.steady = _ := congrArg Held.fan h
  have hclimate : x.climate = s.climate := congrArg Held.climate h
  have hset (y : State) (c : ClimateRec) (f : FilterRec) (b : Bool) :
      held { y with climate := c, filter := f, fan := { y.fan with probeHold := b } }
        = { held y with climate := c, filter := f, fan := { y.fan.steady with probeHold := b } } := rfl
  rw [filterOnCompletion_eq]
  dsimp only
  rw [hset, h, hfan, hfilter, hhold, hclimate, hnow, ← hq]
  by_cases hg : g = .defrost ∨ g = .through
  · simp [hg, completedProbe_abandoned, completedHold_abandoned]
  · simp [hg]

@[simp] theorem beginReversing_driveOutput (g : Target) (s : State) : (beginReversing g s).fan.driveOutput = 0 :=
  congrArg Prod.fst (beginReversing_drive g s).1

@[simp] theorem enterRest_driveOutput (s : State) : (enterRest s).fan.driveOutput = 0 := by simp [enterRest]

theorem dir_target_direction (l : Lane) (d : Dir) : d.target.direction l = d := by cases d <;> rfl

/-! ## The commands -/

/-- Settles O36: the pause ends in a reversal. -/
theorem pauseEnds : Obligations.PauseEnds := by
  intro t e s hr hstate he hover
  have hdue : pauseOver (advance t s) = true := by simp [pauseOver, hstate, he, reached, hover]
  have heffect : effectOf (.pauseEnd t) (advance t s) = endPause (advance t s) := if_pos hdue
  have hheld : held (after (.pauseEnd t) t s) = _ := (held_after _ t s).trans (by
    rw [heffect, endPause, held_beginReversing])
  have hzero : (after (.pauseEnd t) t s).fan.driveOutput = 0 := by
    rw [after, heffect]
    simp [endPause]
  have hfan : (after (.pauseEnd t) t s).fan.steady = _ := congrArg Held.fan hheld
  have hfrost : frostAfterSeq .reversing .paused (timeAfter t s) s.frost = s.frost :=
    frostAfterSeq_same (by decide) fun _ => .inr (by decide)
  refine ⟨_, exec_eq_after (c := .pauseEnd t) rfl hr, congrArg Held.seq hheld, hzero,
    congrArg FanRec.holdEnd hfan, (congrArg FanRec.direction hfan).trans ?_, congrArg Held.clock hheld,
    congrArg Held.peers hheld, congrArg Held.house hheld, congrArg Held.cfg hheld, congrArg Held.loader hheld,
    congrArg Held.climate hheld, (congrArg Held.humid hheld).trans ?_, (congrArg Held.frost hheld).trans ?_,
    congrArg Held.stack hheld, congrArg Held.active hheld, congrArg Held.line hheld, congrArg Held.ctl hheld,
    congrArg Held.pending hheld⟩
  · have hdirection : ((if s.seq.defrostResume then Target.defrost else (laneDirectionNow s).target).direction s.lane)
        = if s.seq.defrostResume then .extract else laneDirection s.lane s.clock.c := by
      split
      · rfl
      · exact dir_target_direction _ _
    show (if s.fan.speed < 300 then _ else _) = _
    rw [← hdirection]
    rfl
  · simp [hstate]
  · simpa [hstate] using hfrost

/-- The entry into REST ends a defrost as the statements say. -/
theorem restEndsDefrost_of {old : SeqState} {n : Time} {s s' : State} (hold : old ≠ .rest)
    (hf : s'.frost = frostAfterSeq .rest old n s.frost)
    (hl : s'.line.steady
      = if noticeAfterSeq .rest old s.frost then s.line.steady.request .defrost else s.line.steady) :
    restEndsDefrost s s' := by
  refine ⟨fun hstage => ⟨by simp [hf, frostAfterSeq, hstage, hold], ?_⟩, fun hstage => ?_⟩
  · have hslot : s'.line.steady.defrostSlot.pending = true := by
      rw [hl]
      simp [noticeAfterSeq, hstage, hold, LineRec.request, LineRec.setSlot]
    exact hslot
  · rw [hf, frostAfterSeq_same (by decide) fun h => absurd h hstage]

/-- The state that a reversal is completed from: the drive's tach may have moved, and nothing else. -/
structure TachOnly (n : Time) (s x : State) : Prop where
  held : held x = { Machine.held s with fan := x.fan.steady }
  now : x.now = n
  probeHold : x.fan.probeHold = s.fan.probeHold
  direction : x.fan.direction = s.fan.direction
  output : x.fan.driveOutput = outputAt s n

/-- The two commands that complete a reversal. -/
theorem completes {t : Time} {s : State} {g : Target} {c : Instr} (hstate : s.seq.state = .reversing)
    (hphase : s.seq.phase = some .spinup) (htarget : s.seq.target = some g)
    (h : (c = .spinupLimit t ∧ 0 < s.fan.speed ∧ ∃ p, s.seq.phaseStart = some p ∧ p + tenths 30 ≤ timeAfter t s)
      ∨ (c = .tachCapture t ∧ ∃ x, s.fan.lastCapture = some x ∧ counterAt t s ≠ x
          ∧ s.fan.ticksSince + (timeAfter t s - s.now) < 65536
          ∧ 600 ≤ ringSpeed (ringAfter s.fan.periods (counterAt t s - x).toNat) ∧ s.fan.periods.length ≤ 4)) :
    timeOf c = some t ∧ ∃ x, TachOnly (timeAfter t s) s x ∧ effectOf c (advance t s) = completeReversal g x := by
  rcases h with ⟨rfl, hspeed, p, hp, hover⟩ | ⟨rfl, x, hlast, hne, hticks, hfast, hring⟩
  · refine ⟨rfl, advance t s, ⟨rfl, rfl, rfl, rfl, rfl⟩, ?_⟩
    have hdue : spinupOver (advance t s) = true := by
      rw [show tenths 30 = seconds 3 from tenths_eq_seconds 3] at hover
      have hlasted := (phaseLasted_iff (seconds 3) (advance t s)).mpr ⟨p, hp, hover⟩
      simp only [spinupOver, inPhase, hlasted, advance_keeps, hstate, hphase, Bool.and_true, decide_true]
    have heffect : effectOf (.spinupLimit t) (advance t s) = endSpinup (advance t s) := if_pos hdue
    rw [heffect]
    simp [endSpinup, htarget, spinupLimit, hspeed]
  · have hcapture := capture_fan (advance t s) (fun _ => ?_) hring
    · have hspeed : 600 ≤ (capture (advance t s)).fan.speed := by
        have hlastThen : (advance t s).fan.lastCapture = some x := hlast
        have hcounter : (advance t s).fan.captureCounter = counterAt t s := rfl
        rw [hcapture]
        dsimp only
        rw [hlastThen, hcounter]
        dsimp only
        rw [if_neg hne]
        exact hfast
      refine ⟨rfl, capture (advance t s), ⟨?_, by simp, by simp [hcapture], by simp, by simp⟩, ?_⟩
      · rw [capture_eq]
        rfl
      · have hrundown : endRundown (capture (advance t s)) = capture (advance t s) := by
          simp [endRundown, hstate, hphase]
        show completeAtSpeed (endRundown (capture (advance t s))) = _
        rw [hrundown]
        simp [completeAtSpeed, hstate, hphase, htarget, hspeed]
    · have hadvanced : (advance t s).fan.ticksSince = min 65536 (s.fan.ticksSince + (timeAfter t s - s.now)) := by
        simp [advance, moveTime, trackStall, hlast, timeAfter]
      omega

/-- Settles O31: the completed reversal, and the rest where one is held. -/
theorem spinupCompletes : Obligations.SpinupCompletes := by
  intro t s g c hr hstate hphase htarget h
  obtain ⟨hc, x, hx, heffect⟩ := completes hstate hphase htarget h
  have hseq : x.seq = s.seq := congrArg Held.seq hx.held
  have hfrost : x.frost = s.frost := congrArg Held.frost hx.held
  have hfilter : x.filter = s.filter := congrArg Held.filter hx.held
  have hclimate : x.climate = s.climate := congrArg Held.climate hx.held
  have hheld := held_completed g (s := x) (by rw [hseq, hstate])
  rw [hx.held, hx.now, hseq, hfrost, hfilter, hclimate, hx.probeHold] at hheld
  have hout : (completed g x).fan.driveOutput = outputAt s (timeAfter t s) := by
    rw [← hx.output]
    simp [completed]
  have hdirection : (completed g x).fan.direction = s.fan.direction := by
    rw [← hx.direction]
    simp [completed]
  have hnow : (completed g x).now = timeAfter t s := by
    rw [← hx.now]
    simp [completed]
  refine ⟨_, exec_eq_finish hc hr heffect, ?_⟩
  rw [completeReversal_eq, hseq]
  by_cases hrest : s.seq.restHeld = true ∧ g ≠ .defrost
  · rw [if_pos hrest]
    have hrestFrost : (completed g x).frost = s.frost := by
      rw [show (completed g x).frost = _ from congrArg Held.frost hheld, frostAfterSeq_completed]
      simp [hrest.2]
    have hcseq : (completed g x).seq = _ := congrArg Held.seq hheld
    have hcline : (completed g x).line.steady = s.line.steady := congrArg Held.line hheld
    have hcfan : (completed g x).fan.steady = _ := congrArg Held.fan hheld
    have hafter : held (finish (advance t s) (enterRest (completed g x))) = _ :=
      (held_finish _ _).trans (held_enterRest (completed g x))
    rw [hheld, hcseq, hnow, hrestFrost, hcline] at hafter
    refine ⟨fun h => absurd h (by simp [hrest]), fun _ _ => ⟨congrArg Held.seq hafter, by simp, ?_, ?_⟩,
      congrArg (fun y : Held => y.fan.holdEnd) hafter, congrArg Held.climate hafter, by simpa using hdirection,
      congrArg Held.clock hafter, congrArg Held.peers hafter, congrArg Held.house hafter, congrArg Held.cfg hafter,
      congrArg Held.loader hafter, congrArg Held.ctl hafter, congrArg Held.pending hafter⟩
    · rw [show (finish (advance t s) (enterRest (completed g x))).filter = _ from congrArg Held.filter hafter]
      exact abandoned_probing _ _
    · exact restEndsDefrost_of (by cases g <;> simp [Target.state]) (congrArg Held.frost hafter)
        (congrArg Held.line hafter)
  · rw [if_neg hrest]
    have hafter : held (finish (advance t s) (completed g x)) = _ := (held_finish _ _).trans hheld
    have hprobe : (finish (advance t s) (completed g x)).filter = _ := congrArg Held.filter hafter
    have hhold : (finish (advance t s) (completed g x)).fan.probeHold = _ :=
      congrArg (fun y : Held => y.fan.probeHold) hafter
    refine ⟨fun _ => ⟨congrArg Held.seq hafter, by simpa using hout, congrArg Held.humid hafter,
      (congrArg Held.frost hafter).trans ?_, congrArg Held.stack hafter, congrArg Held.active hafter,
      congrArg Held.line hafter, fun hidle => ?_, fun d hp he hd hplaced => ?_, fun hp hother => ?_⟩,
      fun h1 h2 => absurd ⟨h1, h2⟩ hrest, congrArg (fun y : Held => y.fan.holdEnd) hafter, congrArg Held.climate hafter,
      by simpa using hdirection,
      congrArg Held.clock hafter, congrArg Held.peers hafter, congrArg Held.house hafter, congrArg Held.cfg hafter,
      congrArg Held.loader hafter, congrArg Held.ctl hafter, congrArg Held.pending hafter⟩
    · rw [show tenths 100 = seconds 10 from tenths_eq_seconds 10]
      exact frostAfterSeq_completed _ _ _
    · rw [hprobe, hhold]
      simp [completedProbe, completedHold, hidle]
    · rw [hprobe, hhold]
      exact completedProbe_expected hp he hd _ hplaced _
    · rw [hprobe, hhold]
      exact completedProbe_other hp hother _ _

end Sys2Proof.Proofs

/-! A stall: the pause, the rest that is taken instead, and the stop after the third. -/

namespace Sys2Proof.Proofs

open Sys2Proof.Machine

/-! ## What pauses and stops make of the held part -/

theorem frostAfterSeq_paused (old : SeqState) (n : Time) (f : FrostRec) :
    frostAfterSeq .paused old n f = if f.stage = .defrosting ∧ old = .defrost then { f with meltStepEnd := none } else f := by
  by_cases hstage : f.stage = .defrosting <;> simp [frostAfterSeq, hstage]

/-- A rest that is taken at once from PAUSED ends a defrost as a rest does. -/
theorem frostAfterSeq_rest_paused {old : SeqState} (hold : old ≠ .rest) (n : Time) (f : FrostRec) :
    frostAfterSeq .rest .paused n (frostAfterSeq .paused old n f) = frostAfterSeq .rest old n f
      ∧ noticeAfterSeq .rest .paused (frostAfterSeq .paused old n f) = noticeAfterSeq .rest old f := by
  rw [frostAfterSeq_paused]
  by_cases hstage : f.stage = .defrosting <;> by_cases hd : old = .defrost <;>
    simp [frostAfterSeq, noticeAfterSeq, hstage, hd, hold]

/-- The state in PAUSED, before a held rest is taken. -/
def paused (resume : Bool) (s : State) : State :=
  changeSeq { s.seq with
      state := .paused, phase := none, target := none, phaseStart := none
      pauseEnd := some (s.now + seconds 30), defrostResume := resume, settling := 2 }
    (zeroDrive s)

theorem enterPaused_eq (resume : Bool) (s : State) :
    enterPaused resume s = if s.seq.restHeld then enterRest (paused resume s) else paused resume s := by
  have hrest : (paused resume s).seq.restHeld = s.seq.restHeld := by simp [paused]
  rw [← hrest]
  rfl

theorem held_paused (resume : Bool) {s : State} (hold : s.seq.state ≠ .rest) :
    held (paused resume s) = { held s with
      seq := { s.seq with
        state := .paused, phase := none, target := none, phaseStart := none
        pauseEnd := some (s.now + seconds 30), defrostResume := resume, settling := 2 }
      frost := frostAfterSeq .paused s.seq.state s.now s.frost
      filter := abandoned s.now s.filter
      fan := { s.fan.steady with holdEnd := none, probeHold := s.fan.probeHold && !s.filter.probing } } := by
  unfold paused
  rw [held_changeSeq_running (s := zeroDrive s) (by simp) (by simp) (by exact hold)]
  rfl

/-- The state in STOPPED, before the clock and the collection stop. -/
def stoppedSeq (s : State) : State :=
  changeSeq { s.seq with
      state := .stopped, phase := none, target := none, phaseStart := none
      restHeld := false, rejoin := none, defrostResume := false, pauseEnd := none, restStart := none
      settling := 0 }
    (zeroDrive s)

theorem held_stoppedSeq (s : State) :
    held (stoppedSeq s) = { held s with
      seq := { s.seq with
        state := .stopped, phase := none, target := none, phaseStart := none
        restHeld := false, rejoin := none, defrostResume := false, pauseEnd := none, restStart := none
        settling := 0 }
      frost := frostAfterSeq .stopped s.seq.state s.now s.frost
      line := if noticeAfterSeq .stopped s.seq.state s.frost then s.line.steady.request .defrost else s.line.steady
      filter := abandoned s.now s.filter
      fan := { s.fan.steady with holdEnd := none, probeHold := s.fan.probeHold && !s.filter.probing }
      humid := humidAfterSeq .stopped s.seq.state s.now s.humid
      stack := if boostLost .stopped s.seq.state s.humid then without .humidity (ownNumber s) s.demand.stack
        else s.demand.stack
      requested := if boostLost .stopped s.seq.state s.humid then
          topLevel (without .humidity (ownNumber s) s.demand.stack) (houseModeLevel s)
        else s.demand.requested
      active := if boostLost .stopped s.seq.state s.humid then
          min s.demand.active (topLevel (without .humidity (ownNumber s) s.demand.stack) (houseModeLevel s))
        else s.demand.active } := by
  unfold stoppedSeq
  rw [held_changeSeq]
  rfl

/-- A reference formed again moves the clock's reference and heard length alone. -/
theorem held_reformReference (s : State) :
    held (reformReference s) = { held s with clock := (reformReference s).clock } := by
  unfold reformReference
  split <;> rfl

theorem held_stopClock (s : State) : held (stopClock s) = { held s with clock := (stopClock s).clock } := by
  unfold stopClock
  rw [held_reformReference]
  rfl

theorem stopClock_clock (s : State) :
    (stopClock s).clock.running = false ∧ (stopClock s).clock.endTime = none ∧ (stopClock s).clock.startTime = none
      ∧ (stopClock s).clock.heardLength = none ∧ (stopClock s).clock.c = s.clock.c
      ∧ (stopClock s).clock.length = s.clock.length := by
  unfold stopClock
  rcases reformReference_clock_cases { s with clock := { s.clock with
      running := false, endTime := none, startTime := none, heardLength := none } } with h | ⟨-, h⟩ <;>
  · rw [h]
    exact ⟨rfl, rfl, rfl, rfl, rfl, rfl⟩

theorem held_closeCollection (s : State) :
    held (closeCollection s) = { held s with
      climate := { s.climate with openTime := none, window := [], lastCompletion := none } } := rfl

/-- STALL is raised. -/
def stalled (s : State) : State := { s with ctl := { s.ctl with stall := true } }

/-- The clock in STOPPED. -/
theorem enterStopped_eq (s : State) :
    ∃ k : ClockRec, held (enterStopped s) = { held (stoppedSeq s) with
        clock := k
        climate := { s.climate with openTime := none, window := [], lastCompletion := none }
        ctl := { s.ctl.steady with stall := true } }
      ∧ k.running = false ∧ k.endTime = none ∧ k.startTime = none ∧ k.heardLength = none
      ∧ k.c = s.clock.c ∧ k.length = s.clock.length := by
  have hclock : (stoppedSeq s).clock = s.clock := congrArg Held.clock (held_stoppedSeq s)
  have hclimate : (stoppedSeq s).climate = s.climate := congrArg Held.climate (held_stoppedSeq s)
  have hctl : (stoppedSeq s).ctl.steady = s.ctl.steady := congrArg Held.ctl (held_stoppedSeq s)
  have hform : enterStopped s = closeCollection (stopClock (stalled (stoppedSeq s))) := rfl
  rw [hform, ← hclimate, ← hctl, ← hclock]
  generalize stoppedSeq s = x
  refine ⟨(stopClock (stalled x)).clock, ?_, ?_⟩
  · rw [held_closeCollection, held_stopClock]
    simp only [stopClock_keeps]
    rfl
  · obtain ⟨hrunning, hend, hstart, hheard, hc, hlength⟩ := stopClock_clock (stalled x)
    exact ⟨hrunning, hend, hstart, hheard, hc, hlength⟩

/-! ## The commands -/

theorem historyAfter_eq (n : Time) (h : List Time) : historyAfter n h = historyWith n h := by
  unfold historyAfter historyWith
  congr 2
  funext x
  have hiff : n - x ≤ minutes 60 ↔ n ≤ x + minutes 60 := by
    rw [Nat.sub_le_iff_le_add, Nat.add_comm]
  exact decide_eq_decide.mpr hiff

/-- R35: the stall history takes the present time. -/
def withHistory (s : State) : State :=
  { s with seq := { s.seq with stallHistory := historyWith s.now s.seq.stallHistory } }

/-- The two commands that take a stall. -/
theorem takesStall {t : Time} {s : State} {c : Instr}
    (h : (c = .spinupLimit t ∧ s.seq.state = .reversing ∧ s.seq.phase = some .spinup ∧ s.seq.target.isSome = true
        ∧ s.fan.speed = 0 ∧ ∃ p, s.seq.phaseStart = some p ∧ p + tenths 30 ≤ timeAfter t s)
      ∨ (c = .stallReport t ∧ s.seq.moving = true
        ∧ ∃ w, (advance t s).fan.stallWatch = some w ∧ w + tenths 20 ≤ timeAfter t s)) :
    timeOf c = some t ∧ s.seq.moving = true ∧ ∃ x, held x = held s ∧ x.now = timeAfter t s
      ∧ effectOf c (advance t s) = takeStall x := by
  rcases h with ⟨rfl, hstate, hphase, htarget, hspeed, p, hp, hover⟩ | ⟨rfl, hmoving, w, hw, hover⟩
  · refine ⟨rfl, by simp [SeqRec.moving, hstate, hphase], advance t s, rfl, rfl, ?_⟩
    have hdue : spinupOver (advance t s) = true := by
      rw [show tenths 30 = seconds 3 from tenths_eq_seconds 3] at hover
      have hlasted := (phaseLasted_iff (seconds 3) (advance t s)).mpr ⟨p, hp, hover⟩
      simp only [spinupOver, inPhase, hlasted, advance_keeps, hstate, hphase, Bool.and_true, decide_true]
    obtain ⟨g, hg⟩ := Option.isSome_iff_exists.mp htarget
    have heffect : effectOf (.spinupLimit t) (advance t s) = endSpinup (advance t s) := if_pos hdue
    rw [heffect]
    simp [endSpinup, hg, spinupLimit, hspeed]
  · refine ⟨rfl, hmoving, { advance t s with fan := { (advance t s).fan with stallWatch := none } }, rfl, rfl, ?_⟩
    have hdue : stallDue (advance t s) = true := by
      rw [show tenths 20 = seconds 2 from tenths_eq_seconds 2] at hover
      exact (reached_iff _ _).mpr ⟨w + seconds 2, by rw [hw]; rfl, hover⟩
    have heffect : effectOf (.stallReport t) (advance t s) = reportStall (advance t s) := if_pos hdue
    rw [heffect]
    simp [reportStall, hmoving]

/-- Settles O32: the pause, the rest in its place, and the stop. -/
theorem stallPausesOrStops : Obligations.StallPausesOrStops := by
  intro t s c hr h
  obtain ⟨hc, hmoving, x, hx, hnow, heffect⟩ := takesStall h
  have hold : s.seq.state ≠ .rest ∧ s.seq.state ≠ .stopped := by
    constructor <;> intro hs <;> simp [SeqRec.moving, hs] at hmoving
  obtain ⟨hcore, -, -, -⟩ := takeStall_drive x
  have hzero : (takeStall x).fan.driveOutput = 0 := congrArg Prod.fst hcore
  have hnone : (takeStall x).fan.holdEnd = none := congrArg (fun y => y.2.2.2) hcore
  obtain ⟨-, -, hcfg, -, hseq, -, hfrost, -, -, -, -, -, hpeers, hhouse, hloader, -, -, hspeed, hdirection, -⟩ :=
    fields_of_held hx
  have hpending : x.pending = s.pending := congrArg Held.pending hx
  have hmotion : defrostMotion x = defrostMotion s := by simp [defrostMotion, hseq]
  refine ⟨_, exec_eq_finish hc hr heffect, ?_, ?_, ?_, ?_, ?_, ?_, ?_, ?_, ?_, ?_, ?_⟩
  · simpa using hzero
  · simpa using hnone
  · simpa using hdirection
  · simpa using hpeers
  · simpa using hhouse
  · simpa using hcfg
  · simpa using hloader
  · simpa using hpending
  · simp [hfrost]
  · simpa using hspeed
  have htake : takeStall x = if 3 ≤ (historyAfter (timeAfter t s) s.seq.stallHistory).length then
      enterStopped (withHistory x) else enterPaused (defrostMotion s) (withHistory x) := by
    rw [historyAfter_eq, ← hnow, ← hseq, ← hmotion]
    rfl
  have hy : held (withHistory x) = { held s with
      seq := { s.seq with stallHistory := historyAfter (timeAfter t s) s.seq.stallHistory } } := by
    rw [historyAfter_eq, ← hnow, ← hseq, ← hx]
    rfl
  have hynow : (withHistory x).now = timeAfter t s := hnow
  rw [htake]
  generalize withHistory x = y at hy hynow
  have hyseq : y.seq = _ := congrArg Held.seq hy
  have hyfrost : y.frost = s.frost := congrArg Held.frost hy
  have hyhumid : y.humid = s.humid := congrArg Held.humid hy
  have hyclock : y.clock = s.clock := congrArg Held.clock hy
  have hyclimate : y.climate = s.climate := congrArg Held.climate hy
  have hyctl : y.ctl.steady = s.ctl.steady := congrArg Held.ctl hy
  have hystack : y.demand.stack = s.demand.stack := congrArg Held.stack hy
  have hyown : ownNumber y = ownNumber s := congrArg (fun z : Held => z.stationIndex.toNat + 1) hy
  by_cases hthree : 3 ≤ (historyAfter (timeAfter t s) s.seq.stallHistory).length
  · rw [if_pos hthree]
    refine ⟨fun hlt => absurd hthree (by omega), fun hlt => absurd hthree (by omega), fun _ => ?_⟩
    obtain ⟨k, hstopped, hrunning, hend, hstart, hheard, hc, hlength⟩ := enterStopped_eq y
    rw [held_stoppedSeq, hy, hyseq, hyfrost, hyhumid, hynow, hyclimate, hyctl] at hstopped
    rw [hyclock] at hc hlength
    have hafter : held (finish (advance t s) (enterStopped y)) = _ := (held_finish _ _).trans hstopped
    have hclock : (finish (advance t s) (enterStopped y)).clock = k := congrArg Held.clock hafter
    have hfrostAfter : (finish (advance t s) (enterStopped y)).frost = _ := congrArg Held.frost hafter
    have hslot (hnotice : noticeAfterSeq .stopped s.seq.state s.frost = true) :
        (finish (advance t s) (enterStopped y)).line.defrostSlot.pending = true := by
      have hline : (finish (advance t s) (enterStopped y)).line.steady = _ := congrArg Held.line hafter
      rw [if_pos hnotice] at hline
      exact congrArg (fun l => l.defrostSlot.pending) hline
    rw [hclock, hfrostAfter]
    refine ⟨congrArg Held.seq hafter, congrArg Held.ctl hafter, fun hstage => ⟨?_, hslot ?_⟩,
      fun hstage => ⟨?_, hslot ?_⟩, fun hstage hblind => ⟨?_, hslot ?_⟩, fun h1 h2 h3 => ?_, hrunning, hend, hstart, hheard,
      hc, hlength, congrArg Held.climate hafter, fun hon => ?_⟩
    · simp [frostAfterSeq, hstage, hold]
    · simp [noticeAfterSeq, hstage, hold]
    · rw [show tenths 18000 = seconds 1800 from tenths_eq_seconds 1800]
      simp [frostAfterSeq, hstage, hold]
    · simp [noticeAfterSeq, hstage, hold]
    · simp [frostAfterSeq, hstage, hblind, hold]
    · simp [noticeAfterSeq, hstage, hblind, hold]
    · cases hstage : s.frost.stage <;> simp_all [frostAfterSeq]
    · have hhumid : (finish (advance t s) (enterStopped y)).humid = _ := congrArg Held.humid hafter
      have hstack : (finish (advance t s) (enterStopped y)).demand.stack = _ := congrArg Held.stack hafter
      rw [hhumid, hstack]
      refine ⟨?_, ?_, fun hboost => ?_⟩
      · cases hstate : s.humid.state <;> simp_all [humidAfterSeq]
      · cases hstate : s.humid.state <;> simp_all [humidAfterSeq]
      · simp [boostLost, hboost, hold, hyown, hystack]
  · rw [if_neg hthree, enterPaused_eq]
    have hpaused := held_paused (defrostMotion s) (s := y) (by rw [hyseq]; exact hold.1)
    rw [hy, hyseq, hyfrost, hynow] at hpaused
    have hrestHeld : y.seq.restHeld = s.seq.restHeld := by rw [hyseq]
    refine ⟨fun _ hrest => ?_, fun _ hrest => ?_, fun h => absurd h hthree⟩
    · rw [hrestHeld, hrest, if_neg (by simp)]
      have hafter : held (finish (advance t s) (paused (defrostMotion s) y)) = _ := (held_finish _ _).trans hpaused
      rw [show tenths 300 = seconds 30 from tenths_eq_seconds 30]
      exact ⟨congrArg Held.seq hafter, (congrArg Held.frost hafter).trans (frostAfterSeq_paused _ _ _),
        congrArg Held.clock hafter, congrArg Held.climate hafter, congrArg Held.ctl hafter⟩
    · rw [hrestHeld, if_pos hrest]
      have hrested := held_enterRest (paused (defrostMotion s) y)
      have hpseq : (paused (defrostMotion s) y).seq = _ := congrArg Held.seq hpaused
      have hpfrost : (paused (defrostMotion s) y).frost = _ := congrArg Held.frost hpaused
      have hpline : (paused (defrostMotion s) y).line.steady = s.line.steady := congrArg Held.line hpaused
      have hpnow : (paused (defrostMotion s) y).now = timeAfter t s := by simp [paused, hynow]
      obtain ⟨hsameFrost, hsameNotice⟩ := frostAfterSeq_rest_paused hold.1 (timeAfter t s) s.frost
      rw [hpaused, hpseq, hpfrost, hpline, hpnow, hsameFrost, hsameNotice] at hrested
      have hafter : held (finish (advance t s) (enterRest (paused (defrostMotion s) y))) = _ :=
        (held_finish _ _).trans hrested
      exact ⟨congrArg Held.seq hafter,
        restEndsDefrost_of hold.1 (congrArg Held.frost hafter) (congrArg Held.line hafter),
        congrArg Held.clock hafter, congrArg Held.climate hafter, congrArg Held.ctl hafter⟩

end Sys2Proof.Proofs

/-! The run seconds, the run-out of an override, the end of a boost and the rest check. -/

namespace Sys2Proof.Proofs

open Sys2Proof.Machine

/-! ## The run seconds -/

theorem requestWriteBack_loader (s : State) :
    (s.loader.writeEnabled = false → (requestWriteBack s).loader = s.loader)
    ∧ (s.loader.writeEnabled = true → s.loader.inFlight = true →
        (requestWriteBack s).loader = { s.loader with writePending := true })
    ∧ (s.loader.writeEnabled = true → s.loader.inFlight = false →
        (requestWriteBack s).loader = { s.loader with inFlight := true, writeBytes := filterRecordBytes s.filter }) := by
  unfold requestWriteBack
  refine ⟨fun h => by simp [h], fun h hf => by simp [h, hf], fun h hf => by simp [h, hf, startWrite]⟩

theorem held_requestWriteBack (s : State) :
    held (requestWriteBack s) = { held s with loader := (requestWriteBack s).loader } := by
  unfold requestWriteBack
  split
  · split <;> rfl
  · rfl

theorem hourPassed_eq (f : FilterRec) :
    hourPassed f = { f with
      runHours := f.runHours + 1
      countdown := f.countdown - 1
      state := if f.state = .clean ∧ f.countdown = 1 then .due else f.state
      hoursToProbe := if f.probe = .idle then f.hoursToProbe - 1 else f.hoursToProbe
      probe := if f.probe = .idle ∧ f.hoursToProbe ≤ 1 then .waiting else f.probe } := by
  unfold hourPassed hourToProbe
  by_cases hidle : f.probe = .idle
  · have hzero : f.hoursToProbe - 1 = 0 ↔ f.hoursToProbe ≤ 1 := by omega
    simp [hidle, hzero, and_comm]
  · simp [hidle, and_comm]

/-- What a run hour makes of the held part. -/
theorem held_runHour {s : State} (h : s.filter.runHours ≠ 65535) :
    held (runHour s) = { held s with filter := hourPassed s.filter, loader := (runHour s).loader } := by
  unfold runHour
  rw [if_neg h]
  dsimp only
  split
  · rw [held_requestWriteBack]
    rfl
  · rfl

/-- The write-back that a run hour requests. -/
theorem runHour_loader {s : State} (h : s.filter.runHours ≠ 65535) :
    (runHour s).loader
      = if (s.filter.runHours + 1) % 24 = 0 ∨ (hourPassed s.filter).state ≠ s.filter.state then
        (requestWriteBack { s with filter := hourPassed s.filter }).loader
      else s.loader := by
  have hhours : (hourPassed s.filter).runHours = s.filter.runHours + 1 := by rw [hourPassed_eq]
  unfold runHour
  rw [if_neg h]
  dsimp only
  rw [hhours]
  split <;> rfl

/-- Settles O39: a second counts, and the 3600th is a run hour. -/
theorem runSecondsCount : Obligations.RunSecondsCount := by
  intro t s hr
  have hexec := exec_eq_after (c := .runSecond t) rfl hr
  have hheld : held (after (.runSecond t) t s) = held (countRunSecond (advance t s)) := held_after _ t s
  have hout : (advance t s).fan.driveOutput = outputAt s (timeAfter t s) := rfl
  refine ⟨_, hexec, fun hz => ?_, fun hz hlt => ?_, fun hz hge hmax => ?_, fun hz hge hmax => ?_⟩
  · rw [hheld, countRunSecond, if_pos (hout.trans hz)]
    rfl
  · have hless : (advance t s).filter.runSeconds + 1 < 3600 := Nat.add_lt_of_lt_sub hlt
    rw [hheld, countRunSecond, if_neg (hout ▸ hz), if_pos hless]
    rfl
  · have hfull : ¬ (advance t s).filter.runSeconds + 1 < 3600 := by simp; omega
    rw [hheld, countRunSecond, if_neg (hout ▸ hz), if_neg hfull, runHour, if_pos (by simpa using hmax)]
    rfl
  · have hfull : ¬ (advance t s).filter.runSeconds + 1 < 3600 := by simp; omega
    let m : State := { advance t s with filter := { (advance t s).filter with runSeconds := 0 } }
    have heffect : effectOf (.runSecond t) (advance t s) = runHour m := by
      show countRunSecond (advance t s) = _
      rw [countRunSecond, if_neg (hout ▸ hz), if_neg hfull]
    have hm : m.filter.runHours ≠ 65535 := hmax
    have hloader := runHour_loader hm
    have hafter := held_after (.runSecond t) t s
    rw [heffect, held_runHour hm, hourPassed_eq] at hafter
    have hstate : (after (.runSecond t) t s).filter.state
        = if s.filter.state = .clean ∧ s.filter.countdown = 1 then .due else s.filter.state :=
      congrArg (fun y : Held => y.filter.state) hafter
    have hfilter : (after (.runSecond t) t s).filter = hourPassed m.filter := by
      rw [hourPassed_eq]
      exact congrArg Held.filter hafter
    have hl : (after (.runSecond t) t s).loader = (runHour m).loader := congrArg Held.loader hafter
    refine ⟨?_, hstate, fun hno hsame => ?_, fun hon hyes => ⟨fun hf => ?_, fun hf => ?_⟩⟩
    · rw [hafter, hstate, hl]
      rfl
    · rw [hl, hloader, if_neg (by rw [← hfilter]; exact not_or.mpr ⟨hno, fun hne => hne hsame⟩)]
      rfl
    · rw [hl, hloader, if_pos (by rw [← hfilter]; exact hyes)]
      exact (requestWriteBack_loader _).2.1 hon hf
    · rw [hl, hloader, if_pos (by rw [← hfilter]; exact hyes), hfilter]
      exact (requestWriteBack_loader _).2.2 hon hf

/-! ## Overrides and boosts -/

/-- Settles O44: the entry that has run out is removed. -/
theorem overrideRunsOut : Obligations.OverrideRunsOut := by
  intro src origin t s x hr hmem hsrc horigin hexpiry
  have hdue : runOut src origin (advance t s) = true := by
    obtain ⟨e, he, hle⟩ := hexpiry
    refine List.any_eq_true.mpr ⟨x, hmem, ?_⟩
    simp [Override.is, hsrc, horigin, (reached_iff _ _).mpr ⟨e, he, hle⟩]
  have heffect : effectOf (.overrideExpiry src origin t) (advance t s) = removeEntry src origin (advance t s) :=
    if_pos hdue
  refine ⟨_, exec_eq_finish (c := .overrideExpiry src origin t) rfl hr heffect, ?_⟩
  rw [held_finish, held_removeEntry]
  rfl

theorem meanInt_eq_meanOf (xs : List Int) : meanInt xs = meanOf xs := by
  cases xs <;> simp [meanInt, meanOf]

/-- An exit from REST begins at the latest now. -/
theorem restExit_rejoin {s : State} (h : s.seq.state = .rest) :
    (restExit s).seq.state = .rest ∧ (restExit s).seq.rejoin.isSome = true := by
  unfold restExit
  by_cases hnone : s.seq.rejoin = none
  · simp [h, hnone]
  · simp [h, hnone, Option.isSome_iff_ne_none]

theorem held_restExit (s : State) : held (restExit s) = { held s with seq := (restExit s).seq } := by
  unfold restExit
  split <;> rfl

/-- What the start of a boost makes of the held part. -/
theorem held_startBoost (s : State) :
    held (startBoost s) = { held s with
      humid := { s.humid with state := .boosting, boostStart := some s.now, falling := 0 }
      stack := ⟨.humidity, ownNumber s, 90, none⟩ :: (without .humidity (ownNumber s) s.demand.stack).take 3
      requested := 90
      active := min s.demand.active 90
      filter := abandoned s.now s.filter
      fan := { s.fan.steady with probeHold := s.fan.probeHold && !s.filter.probing } } := by
  unfold startBoost
  rw [held_push]
  rfl

/-- R102: the next rest check is set. -/
def checked (e : Time) (s : State) : State := { s with humid := { s.humid with nextRestCheck := some (e + seconds 60) } }

theorem restCheckAt_none {e : Time} {s : State} (h : restReading s e = none) : restCheckAt e s = checked e s := by
  simp [restCheckAt, h, checked]

theorem restCheckAt_some {e : Time} {s : State} {rh : Int} (h : restReading s e = some rh) :
    restCheckAt e s = takeRestReading rh (checked e s) := by
  simp [restCheckAt, h, checked]

/-- A reading at the ceiling wakes the station and starts a boost. -/
theorem takeRestReading_high {rh : Int} {s : State} (hstate : s.humid.state = .seeding ∨ s.humid.state = .watching)
    (hhigh : ceiling s ≤ rh) (hwake : s.cfg.wake.humidityCeiling = true) :
    takeRestReading rh s = startBoost (wake s) := by
  rcases hstate with h | h <;> simp [takeRestReading, h, hhigh, hwake]

theorem takeRestReading_low {rh : Int} {s : State} (hstate : s.humid.state = .seeding ∨ s.humid.state = .watching)
    (hlow : rh < ceiling s ∨ s.cfg.wake.humidityCeiling = false) : takeRestReading rh s = s := by
  have hnot : ¬ (ceiling s ≤ rh ∧ s.cfg.wake.humidityCeiling = true) := by
    rintro ⟨h1, h2⟩
    rcases hlow with h | h
    · omega
    · simp [h] at h2
  rcases hstate with h | h <;> simp only [takeRestReading, h, if_neg hnot]

theorem takeRestReading_rearming {rh : Int} {s : State} (hstate : s.humid.state = .rearming) :
    takeRestReading rh s
      = if rh < ceiling s - 50 then { s with humid := { s.humid with state := restingState s } } else s := by
  simp [takeRestReading, hstate, dryRh]

theorem takeRestReading_other {rh : Int} {s : State} (hstate : s.humid.state = .boosting ∨ s.humid.state = .disabled) :
    takeRestReading rh s = s := by
  rcases hstate with h | h <;> simp [takeRestReading, h]

/-- Settles O43: the cap ends the boost; a check reads, and its reading acts by the monitor's state. -/
theorem boostCapAndRestCheck : Obligations.BoostCapAndRestCheck := by
  intro t s hr
  refine ⟨fun b hstate hb hover => ?_, fun e hstate he hover reading hreading => ?_⟩
  · have hdue : capReached (advance t s) = true := by
      have hreached : reached ((advance t s).humid.boostStart.map (· + seconds 3600)) (advance t s).now = true :=
        (reached_iff _ _).mpr ⟨b + seconds 3600, by simp [hb], hover⟩
      simp only [capReached, hreached, Bool.and_true, decide_eq_true_eq]
      exact hstate
    have heffect : effectOf (.boostCap t) (advance t s) = endBoost .rearming (advance t s) := if_pos hdue
    refine ⟨_, exec_eq_finish (c := .boostCap t) rfl hr heffect, ?_⟩
    rw [held_finish, held_endBoost]
    rfl
  · have hdue : restCheckDue (advance t s) = true := by simp [restCheckDue, hstate, he, reached, hover]
    have hread : restReading (advance t s) e = reading := by
      rw [hreading, restReading, meanInt_eq_meanOf, show tenths 100 = seconds 10 from tenths_eq_seconds 10]
      congr 2
      funext x
      refine if_congr ?_ rfl rfl
      tauto
    have heffect : effectOf (.restCheck t) (advance t s) = restCheckAt e (advance t s) := by
      have hcheck : effectOf (.restCheck t) (advance t s) = restCheck (advance t s) := if_pos hdue
      rw [hcheck, restCheck, show (advance t s).humid.nextRestCheck = some e from he]
    have hexec := exec_eq_finish (c := .restCheck t) rfl hr heffect
    have hchecked : held (checked e (advance t s))
        = { held s with humid := { s.humid with nextRestCheck := some (e + seconds 60) } } := rfl
    rcases reading with _ | rh
    · rw [restCheckAt_none hread] at hexec
      exact ⟨_, hexec, by simp [checked], fun _ => by rw [held_finish, hchecked],
        fun _ => by rw [held_finish, hchecked], nofun, nofun⟩
    · rw [restCheckAt_some hread] at hexec
      have hceiling : ceiling (checked e (advance t s)) = 10 * (s.cfg.rhCeiling : Int) := rfl
      by_cases hopen : s.humid.state = .seeding ∨ s.humid.state = .watching
      · have hnot : s.humid.state ≠ .boosting ∧ s.humid.state ≠ .rearming := by rcases hopen with h | h <;> simp [h]
        by_cases hhigh : 10 * (s.cfg.rhCeiling : Int) ≤ rh ∧ s.cfg.wake.humidityCeiling = true
        · rw [takeRestReading_high (s := checked e (advance t s)) hopen (hceiling ▸ hhigh.1) hhigh.2] at hexec
          have hwoken : held (wake (checked e (advance t s))) = _ := (held_restExit _).trans (by rw [hchecked])
          have hwokenNow : (wake (checked e (advance t s))).now = timeAfter t s := by simp [checked]
          have hwokenHumid : (wake (checked e (advance t s))).humid = _ := congrArg Held.humid hwoken
          have hwokenFilter : (wake (checked e (advance t s))).filter = s.filter := congrArg Held.filter hwoken
          have hwokenStack : (wake (checked e (advance t s))).demand.stack = s.demand.stack := congrArg Held.stack hwoken
          have hwokenHold : (wake (checked e (advance t s))).fan.probeHold = s.fan.probeHold :=
            congrArg (fun y : Held => y.fan.probeHold) hwoken
          have hwokenOwn : ownNumber (wake (checked e (advance t s))) = ownNumber s :=
            congrArg (fun y : Held => y.stationIndex.toNat + 1) hwoken
          have hafter : held (finish (advance t s) (startBoost (wake (checked e (advance t s))))) = _ :=
            (held_finish _ _).trans (held_startBoost _)
          rw [hwokenNow, hwokenHumid, hwokenFilter, hwokenStack, hwokenHold, hwokenOwn] at hafter
          obtain ⟨hrest, hrejoin⟩ := restExit_rejoin (s := checked e (advance t s)) hstate
          refine ⟨_, hexec, congrArg (fun y : Held => y.humid.nextRestCheck) hafter, nofun, fun h => absurd h hnot.1,
            fun rh' hrh _ => ⟨fun _ _ => ⟨congrArg Held.humid hafter, congrArg Held.stack hafter,
              congrArg Held.requested hafter, probeAbandoned_of (congrArg Held.filter hafter)
                (congrArg (fun y : Held => y.fan.probeHold) hafter), ?_, ?_⟩, fun hlow => ?_⟩,
            fun _ _ h => absurd h hnot.2⟩
          · exact (congrArg (fun y : Held => y.seq.state) hafter).trans hrest
          · exact (congrArg (fun y : Held => y.seq.rejoin.isSome) hafter).trans hrejoin
          · obtain rfl : rh = rh' := Option.some.inj hrh
            rcases hlow with h | h
            · omega
            · simp [h] at hhigh
        · have hlow : rh < 10 * (s.cfg.rhCeiling : Int) ∨ s.cfg.wake.humidityCeiling = false := by
            by_cases h : rh < 10 * (s.cfg.rhCeiling : Int)
            · exact .inl h
            · exact .inr (by simpa using fun hw => hhigh ⟨by omega, hw⟩)
          rw [takeRestReading_low (s := checked e (advance t s)) hopen (hceiling ▸ hlow)] at hexec
          refine ⟨_, hexec, by simp [checked], nofun, fun _ => by rw [held_finish, hchecked], fun rh' hrh _ => ⟨fun h hw => ?_,
            fun _ => by rw [held_finish, hchecked]⟩, fun _ _ h => absurd h hnot.2⟩
          obtain rfl : rh = rh' := Option.some.inj hrh
          exact absurd ⟨h, hw⟩ hhigh
      · by_cases hrearming : s.humid.state = .rearming
        · rw [takeRestReading_rearming (s := checked e (advance t s)) hrearming, hceiling] at hexec
          by_cases hdry : rh < 10 * (s.cfg.rhCeiling : Int) - 50
          · rw [if_pos hdry] at hexec
            refine ⟨_, hexec, by simp [checked], nofun, fun h => absurd h (by simp [hrearming]), fun _ _ h => absurd h hopen,
              fun rh' hrh _ => ⟨fun _ => by rw [held_finish]; rfl, fun hwet => ?_⟩⟩
            obtain rfl : rh = rh' := Option.some.inj hrh
            omega
          · rw [if_neg hdry] at hexec
            refine ⟨_, hexec, by simp [checked], nofun, fun h => absurd h (by simp [hrearming]), fun _ _ h => absurd h hopen,
              fun rh' hrh _ => ⟨fun hdry' => ?_, fun _ => by rw [held_finish, hchecked]⟩⟩
            obtain rfl : rh = rh' := Option.some.inj hrh
            omega
        · have hother : s.humid.state = .boosting ∨ s.humid.state = .disabled := by
            cases h : s.humid.state <;> simp_all
          rw [takeRestReading_other (s := checked e (advance t s)) hother] at hexec
          exact ⟨_, hexec, by simp [checked], nofun, fun _ => by rw [held_finish, hchecked],
            fun _ _ h => absurd h hopen, fun _ _ h => absurd h hrearming⟩

end Sys2Proof.Proofs

/-! Frames and records: what one station sends, another reads back. -/

namespace Sys2Proof.Proofs

open Sys2Proof.Machine

/-! ## Bytes -/

theorem byte_toNat (n : Nat) : (byte n).toNat = n % 256 := by simp [byte]

theorem byte_toNat_of_lt {n : Nat} (h : n < 256) : (byte n).toNat = n := by
  rw [byte_toNat, Nat.mod_eq_of_lt h]

theorem byteSum_concat (bs : List Byte) (b : Byte) : byteSum (bs ++ [b]) = byteSum bs + b := by
  simp [byteSum, List.foldl_append]

theorem byteSum_withCheck (bs : List Byte) : byteSum (withCheck bs) = 0 := by
  rw [withCheck, byteSum_concat]
  simp

theorem bitsOf_low (b n : Nat) : bitsOf b 0 n = b % 2 ^ n := by simp [bitsOf]

theorem bitAt_le (b : Bool) (i : Nat) : bitAt b i ≤ 2 ^ i := by cases b <;> simp [bitAt]

/-! ## Headers -/

theorem kind_code_range (k : FrameKind) : 1 ≤ k.code ∧ k.code ≤ 4 := by cases k <;> decide

theorem kindOfCode_code (k : FrameKind) : kindOfCode k.code = some k := by cases k <;> rfl

theorem byteAt_header (k : FrameKind) (idx : BitVec 4) (body : List Byte) :
    byteAt (frameOf k idx body) 0 = 16 * k.code + idx.toNat := by
  have hcode := kind_code_range k
  have hidx := idx.isLt
  show (byte (16 * k.code + idx.toNat)).toNat = _
  exact byte_toNat_of_lt (by omega)

theorem frameKind_frameOf (k : FrameKind) (idx : BitVec 4) (body : List Byte) :
    frameKind (frameOf k idx body) = some k := by
  have hidx := idx.isLt
  rw [frameKind, byteAt_header, show (16 * k.code + idx.toNat) / 16 = k.code by omega, kindOfCode_code]

theorem frameIndex_frameOf (k : FrameKind) (idx : BitVec 4) (body : List Byte) :
    frameIndex (frameOf k idx body) = idx.toNat := by
  have hidx := idx.isLt
  rw [frameIndex, byteAt_header]
  omega

theorem frameValid_frameOf (k : FrameKind) (idx : BitVec 4) (body : List Byte) (h : body.length + 2 = k.length) :
    frameValid (frameOf k idx body) false = true := by
  have hlength : (frameOf k idx body).length = k.length := by simp [frameOf, withCheck, ← h]
  have hsum : byteSum (frameOf k idx body) = 0 := byteSum_withCheck _
  simp [frameValid, frameKind_frameOf, hlength, hsum]

/-! ## Notices and calls -/

theorem wordAt_word {bs : List Byte} {i n : Nat} (hhigh : bs.getD i 0 = byte (n / 256)) (hlow : bs.getD (i + 1) 0 = byte n)
    (hn : n < 65536) : wordAt bs i = n := by
  rw [wordAt, byteAt, byteAt, hhigh, hlow, byte_toNat, byte_toNat]
  omega

/-- An action or mode code below 4 with a flag in bit 7 reads back. -/
theorem code_with_flag {c : Nat} (hc : c < 4) (f : Bool) :
    bitsOf (byte (c + bitAt f 7)).toNat 0 2 = c ∧ bitOf (byte (c + bitAt f 7)).toNat 7 = f := by
  have hbyte : (byte (c + bitAt f 7)).toNat = c + bitAt f 7 := by
    have := bitAt_le f 7
    exact byte_toNat_of_lt (by omega)
  rw [hbyte]
  cases f
  · simp [bitsOf, bitOf, bitAt]
    omega
  · simp [bitsOf, bitOf, bitAt]
    omega

theorem noticeOf_frameOf (idx : BitVec 4) (n : Notice) (a : Nat) (ha : a ≤ 4000) :
    noticeOf (frameOf .defrost idx (noticeBody (some n) a)) = ⟨some n.action, n.forced, a⟩ := by
  have hcode : n.action.code < 4 := by cases n.action <;> decide
  obtain ⟨haction, hforced⟩ := code_with_flag hcode n.forced
  have hword : wordAt (frameOf .defrost idx (noticeBody (some n) a)) 2 = a := wordAt_word rfl rfl (by omega)
  have hbyte : byteAt (frameOf .defrost idx (noticeBody (some n) a)) 1
      = (byte (n.action.code + bitAt n.forced 7)).toNat := rfl
  have hread : noticeOfCode n.action.code = some n.action := by cases n.action <;> rfl
  rw [noticeOf, hword, hbyte, haction, hforced, hread, show min accountMax a = a from Nat.min_eq_right ha]

theorem modeOffer_frameOf (idx : BitVec 4) (h : HouseMode) (n : Nat) :
    modeOffer (frameOf .mode idx (modeBody h)) n = ⟨some h.mode, h.summer, h.stamp, n⟩ := by
  have hcode : h.mode.code < 4 := by cases h.mode <;> decide
  obtain ⟨hmode, hsummer⟩ := code_with_flag hcode h.summer
  have hbyte : byteAt (frameOf .mode idx (modeBody h)) 1 = (byte (h.mode.code + bitAt h.summer 7)).toNat := rfl
  have hread : modeOfCode h.mode.code = some h.mode := by cases h.mode <;> rfl
  rw [modeOffer, hbyte, hmode, hsummer, hread]
  rfl

/-! ## STATUS -/

theorem preferredRow_le (s : State) : preferredRow s ≤ 3 := by
  unfold preferredRow
  split <;> omega

theorem probing_iff (f : FilterRec) : f.probing = true ↔ f.probe = .firstHalf ∨ f.probe = .secondHalf := by
  unfold FilterRec.probing
  cases f.probe <;> simp

/-- The STATUS bytes of section 10.1.1, each by its position. -/
theorem statusFrame_bytes (idx : BitVec 4) (s : State) (mark : Bool) (r : Nat) :
    (frameOf .status idx (statusBody s mark r)).length = 18
    ∧ ∃ x, frameOf .status idx (statusBody s mark r) =
      [byte (64 + idx.toNat), byte s.seq.state.code,
        byte (bitAt s.clock.running 0 + bitAt mark 1 + bitAt (humidityLimit s) 2 + bitAt (0 < s.seq.settling) 3
          + bitAt s.filter.probing 4),
        byte (s.lane.code + 2 * s.roomClass.code + 8 * s.filter.state.code), s.clock.c, byte s.clock.length,
        byte (r / 256), byte r, byte (s.frost.stage.code + 16 * preferredRow s), byte s.demand.supply,
        byte s.demand.extract, byte (s.frost.account / 16), BitVec.ofInt 8 (announcedOutdoor s),
        byte (faultSet s).code, byte (s.house.mode.code + bitAt s.house.summer 7), s.house.stamp, byte s.house.origin,
        x] := ⟨rfl, _, rfl⟩

theorem flags_byte (a b c d e : Bool) :
    (byte (bitAt a 0 + bitAt b 1 + bitAt c 2 + bitAt d 3 + bitAt e 4)).toNat
      = (if a = true then 1 else 0) + (if b = true then 2 else 0) + (if c = true then 4 else 0)
        + (if d = true then 8 else 0) + (if e = true then 16 else 0) := by
  have ha := bitAt_le a 0
  have hb := bitAt_le b 1
  have hc := bitAt_le c 2
  have hd := bitAt_le d 3
  have he := bitAt_le e 4
  rw [byte_toNat_of_lt (by omega)]
  rfl

theorem faultSet_code_lt (f : FaultSet) : f.code < 256 := by
  have h0 := bitAt_le f.stall 0
  have h1 := bitAt_le f.outerProbe 1
  have h2 := bitAt_le f.innerProbe 2
  have h3 := bitAt_le f.humidity 3
  have h4 := bitAt_le f.line 4
  have h5 := bitAt_le f.duplicate 5
  have h6 := bitAt_le f.config 6
  have h7 := bitAt_le f.memory 7
  unfold FaultSet.code
  omega

theorem stage_code_lt (st : FrostStage) : st.code < 8 := by cases st <;> decide

theorem lane_byte (l : Lane) (c : RoomClass) (f : FilterState) :
    (byte (l.code + 2 * c.code + 8 * f.code)).toNat = l.code + 2 * c.code + 8 * f.code := by
  cases l <;> cases c <;> cases f <;> rfl

theorem announcedOutdoor_eq (s : State) :
    announcedOutdoor s = match s.climate.outdoor with | none => -128 | some x => x.tdiv 5 := by
  unfold announcedOutdoor
  split <;> simp [*]

theorem announcedOutdoor_range {s : State} (h : ∀ x, s.climate.outdoor = some x → -400 ≤ x ∧ x ≤ 600) :
    -128 ≤ announcedOutdoor s ∧ announcedOutdoor s ≤ 120 := by
  unfold announcedOutdoor
  split
  case h_1 x hx =>
    obtain ⟨hlow, hhigh⟩ := h x hx
    have hmin : (-400 : Int).tdiv 5 ≤ x.tdiv 5 := Int.tdiv_le_tdiv (by omega) hlow
    have hmax : x.tdiv 5 ≤ (600 : Int).tdiv 5 := Int.tdiv_le_tdiv (by omega) hhigh
    exact ⟨le_trans (by decide) hmin, le_trans hmax (by decide)⟩
  case h_2 => omega

theorem ofInt_toInt {x : Int} (hlow : -128 ≤ x) (hhigh : x ≤ 127) : (BitVec.ofInt 8 x).toInt = x := by
  rw [BitVec.toInt_ofInt]
  exact Int.bmod_eq_of_le (by omega) (by omega)

/-- The bytes of a STATUS whose fields fit are those of the table of section 10.1.1. -/
theorem statusFrame_table (idx : BitVec 4) (s : State) (mark : Bool) (r : Nat) (hlength : lengthInRange s.clock.length)
    (hr : r ≤ 10 * s.clock.length) (hsupply : s.demand.supply < 256) (hextract : s.demand.extract < 256)
    (haccount : s.frost.account ≤ 4000) (horigin : s.house.origin < 256)
    (houtdoor : ∀ x, s.climate.outdoor = some x → -400 ≤ x ∧ x ≤ 600) (bs : List Byte)
    (hbs : bs = frameOf .status idx (statusBody s mark r)) :
    byteAt bs 0 = 64 + idx.toNat ∧ byteAt bs 1 = s.seq.state.code
      ∧ byteAt bs 2 = (if s.clock.running = true then 1 else 0) + (if mark = true then 2 else 0)
          + (if s.humid.state = .boosting then 4 else 0) + (if 0 < s.seq.settling then 8 else 0)
          + (if s.filter.probe = .firstHalf ∨ s.filter.probe = .secondHalf then 16 else 0)
      ∧ byteAt bs 3 = s.lane.code + 2 * s.roomClass.code + 8 * s.filter.state.code
      ∧ byteAt bs 4 = s.clock.c.toNat ∧ byteAt bs 5 = s.clock.length ∧ wordAt bs 6 = r
      ∧ byteAt bs 8 = s.frost.stage.code + 16 * preferredRow s
      ∧ byteAt bs 9 = s.demand.supply ∧ byteAt bs 10 = s.demand.extract ∧ byteAt bs 11 = s.frost.account / 16
      ∧ (bs.getD 12 0).toInt = announcedOutdoor s ∧ byteAt bs 13 = (faultSet s).code
      ∧ byteAt bs 14 = s.house.mode.code + bitAt s.house.summer 7
      ∧ byteAt bs 15 = s.house.stamp.toNat ∧ byteAt bs 16 = s.house.origin := by
  obtain ⟨hlo, hhi⟩ := hlength
  have hrow := preferredRow_le s
  have hstage := stage_code_lt s.frost.stage
  have hidx := idx.isLt
  have hmode : s.house.mode.code < 4 := by cases s.house.mode <;> decide
  have hsummer := bitAt_le s.house.summer 7
  obtain ⟨holow, hohigh⟩ := announcedOutdoor_range houtdoor
  have hstate : s.seq.state.code < 256 := by cases s.seq.state <;> decide
  obtain ⟨-, x, hx⟩ := statusFrame_bytes idx s mark r
  rw [hx] at hbs
  subst hbs
  refine ⟨byte_toNat_of_lt (by omega), byte_toNat_of_lt hstate, ?_, lane_byte _ _ _, rfl, byte_toNat_of_lt (by omega),
    wordAt_word rfl rfl (by omega), byte_toNat_of_lt (by omega), byte_toNat_of_lt hsupply, byte_toNat_of_lt hextract,
    byte_toNat_of_lt (by omega), ofInt_toInt (by omega) (by omega), byte_toNat_of_lt (faultSet_code_lt _),
    byte_toNat_of_lt (by omega), rfl, byte_toNat_of_lt horigin⟩
  refine (flags_byte _ _ _ _ _).trans ?_
  simp [humidityLimit, probing_iff]

/-- The status part that a receiver reads from such a STATUS. -/
theorem statusPartOf_frame (idx : BitVec 4) (s : State) (mark : Bool) (r : Nat) (arrival : Time)
    (hlength : lengthInRange s.clock.length) (hr : r ≤ 10 * s.clock.length) (hsupply : s.demand.supply < 256)
    (hextract : s.demand.extract < 256) (haccount : s.frost.account ≤ 4000) (horigin : s.house.origin < 256)
    (houtdoor : ∀ x, s.climate.outdoor = some x → -400 ≤ x ∧ x ≤ 600) :
    statusPartOf (frameOf .status idx (statusBody s mark r)) arrival
      = ⟨some s.seq.state, s.clock.running, s.lane, s.clock.c, s.clock.length, arrival + tenths r,
          preferredRow s, s.demand.supply, s.demand.extract, 16 * (s.frost.account / 16), s.frost.stage,
          announcedOutdoor s⟩
    ∧ statusOffer (frameOf .status idx (statusBody s mark r))
      = ⟨some s.house.mode, s.house.summer, s.house.stamp, s.house.origin⟩ := by
  obtain ⟨-, hstate, hflags, hlane, -, hlen, hword, hstage, hsup, hext, hacc, hout, -, hmode, -, horig⟩ :=
    statusFrame_table idx s mark r hlength hr hsupply hextract haccount horigin houtdoor _ rfl
  have hc : (frameOf .status idx (statusBody s mark r)).getD 4 0 = s.clock.c := rfl
  have hstamp : (frameOf .status idx (statusBody s mark r)).getD 15 0 = s.house.stamp := rfl
  generalize frameOf .status idx (statusBody s mark r) = bs at *
  have hrow := preferredRow_le s
  have hstageLt := stage_code_lt s.frost.stage
  have hheld : heldLength s.clock.length = s.clock.length := by
    obtain ⟨hlo, hhi⟩ := hlength
    rw [heldLength, clampNat_eq_max_min (by omega)]
    omega
  have hstateRead : stateOfCode s.seq.state.code = some s.seq.state := by cases s.seq.state <;> rfl
  have hrunning : bitOf (byteAt bs 2) 0 = s.clock.running := by
    rw [hflags]
    cases s.clock.running <;> simp [bitOf, bitsOf] <;> split_ifs <;> omega
  have hlaneRead : (if bitOf (byteAt bs 3) 0 then Lane.B else .A) = s.lane := by
    rw [hlane]
    cases s.lane <;> simp [bitOf, bitsOf, Lane.code] <;> omega
  have hrowRead : bitsOf (byteAt bs 8) 4 3 = preferredRow s := by
    rw [hstage, bitsOf]
    omega
  have hstageRead : stageOfCode (bitsOf (byteAt bs 8) 0 3) = s.frost.stage := by
    rw [hstage, bitsOf_low, show (s.frost.stage.code + 16 * preferredRow s) % 2 ^ 3 = s.frost.stage.code by omega]
    cases s.frost.stage <;> rfl
  have hmodeCode : s.house.mode.code < 4 := by cases s.house.mode <;> decide
  obtain ⟨hmodeRead, hsummerRead⟩ := code_with_flag hmodeCode s.house.summer
  have hmodeByte : byteAt bs 14 = (byte (s.house.mode.code + bitAt s.house.summer 7)).toNat := by
    have := bitAt_le s.house.summer 7
    rw [hmode, byte_toNat_of_lt (by omega)]
  have hmodeOf : modeOfCode s.house.mode.code = some s.house.mode := by cases s.house.mode <;> rfl
  constructor
  · simp only [statusPartOf, hstate, hstateRead, hrunning, hlaneRead, hc, hlen, hheld, hword, hrowRead, hsup, hext, hacc,
      hstageRead, hout, min_eq_left hr, min_eq_right hrow, StatusPart.mk.injEq, true_and, and_true, accountMax]
    omega
  · rw [statusOffer, hmodeByte, hmodeRead, hsummerRead, hmodeOf, hstamp, horig]

/-! ## The filter record -/

theorem byteSum_filterRecordBytes (f : FilterRec) : byteSum (filterRecordBytes f) = 0 := byteSum_withCheck _

theorem filterValuesOf_bytes (f : FilterRec) (hb : f.baseline < 65536) (hc : f.countdown < 65536)
    (hh : f.runHours < 65536) :
    filterValuesOf (filterRecordBytes f) = ⟨f.baseline, f.countdown, f.runHours, f.state⟩ := by
  have hbase : wordAt (filterRecordBytes f) 0 = f.baseline := wordAt_word rfl rfl hb
  have hcount : wordAt (filterRecordBytes f) 2 = f.countdown := wordAt_word rfl rfl hc
  have hhours : wordAt (filterRecordBytes f) 4 = f.runHours := wordAt_word rfl rfl hh
  have hstate : filterStateOfCode (byteAt (filterRecordBytes f) 6) = f.state := by
    show filterStateOfCode (byte f.state.code).toNat = f.state
    cases f.state <;> rfl
  rw [filterValuesOf, hbase, hcount, hhours, hstate]

/-- Settles O57: headers, notices, calls, the STATUS table and the filter record. -/
theorem framesReadBack : Obligations.FramesReadBack := by
  refine ⟨fun k idx body h => ⟨frameValid_frameOf k idx body h, frameKind_frameOf k idx body, frameIndex_frameOf k idx body⟩,
    noticeOf_frameOf, modeOffer_frameOf, fun idx b hl hd => ⟨?_, byte_toNat_of_lt hl, byte_toNat_of_lt hd⟩,
    fun idx s mark r arrival hlength hr hsupply hextract haccount horigin houtdoor => ?_,
    fun f hb hc hh => ⟨byteSum_filterRecordBytes f, filterValuesOf_bytes f hb hc hh⟩, fun s => ?_, fun s => ⟨fun e hrun he => ?_, fun h => ?_⟩⟩
  · show boostOfCode (byte b.action.code).toNat = some b.action
    cases b.action <;> rfl
  · obtain ⟨hpart, hoffer⟩ :=
      statusPartOf_frame idx s mark r arrival hlength hr hsupply hextract haccount horigin houtdoor
    refine ⟨hpart, hoffer, fun bs hbs => ?_⟩
    obtain ⟨h0, h1, h2, h3, h4, h5, h6, h8, h9, h10, h11, h12, h13, h14, h15, h16⟩ :=
      statusFrame_table idx s mark r hlength hr hsupply hextract haccount horigin houtdoor bs hbs
    refine ⟨h0, h1.trans ?_, h2, h3.trans ?_, h4, h5, h6, h8.trans ?_, h9, h10, h11, h12.trans (announcedOutdoor_eq s),
      h13, h14.trans ?_, h15, h16⟩
    · cases s.seq.state <;> rfl
    · cases s.lane <;> cases s.roomClass <;> cases s.filter.state <;> rfl
    · cases s.frost.stage <;> rfl
    · cases s.house.mode <;> rfl
  · unfold preferredRow
    cases s.frost.stage <;> rfl
  · simp [timeRemaining, hrun, he, inTenths]
  · unfold timeRemaining
    rcases h with h | h
    · simp [h]
    · cases s.clock.running <;> simp [h]

end Sys2Proof.Proofs

/-! The line interface: the start of a frame, its loss, its end, and the check of one that was received. -/

namespace Sys2Proof.Proofs

open Sys2Proof.Machine

/-- Where neither an input of the demand unit nor an announced field moves, what follows a command leaves the STATUS slot
and its mark. -/
theorem finish_status_same {m x : State} (hd : demandInputs x = demandInputs m) (ha : announced x = announced m) :
    (finish m x).line.statusSlot = x.line.statusSlot ∧ (finish m x).line.statusMark = x.line.statusMark := by
  refine (finish_status m x).1 ?_
  rw [finish_announced, trackDemand, if_pos hd.symm, ha]

/-- What follows a command never moves the STATUS mark, and never takes a request back. -/
theorem finish_statusMark (m x : State) : (finish m x).line.statusMark = x.line.statusMark := by
  have h3 (y : State) : (trackLamps m y).line = y.line := by unfold trackLamps; split <;> rfl
  have h4 (y : State) : (trackRamp m y).line = y.line := by unfold trackRamp; split <;> rfl
  have hline : (finish m x).line = (trackAnnounced m (trackDemand m x)).line := (h4 _).trans (h3 _)
  have hdemand : (trackDemand m x).line = x.line := by simp
  rw [hline, trackAnnounced]
  split
  · rw [hdemand]
  · rw [← hdemand]
    exact Bool.or_false _

theorem finish_statusPending {m x : State} (h : x.line.statusSlot.pending = true) :
    (finish m x).line.statusSlot.pending = true := by
  by_cases ha : announced m = announced (finish m x)
  · rw [((finish_status m x).1 ha).1, h]
  · exact (finish_status m x).2 ha

/-! ## The start of a frame -/

theorem lowestPending_eq {l : LineRec} {k : FrameKind} (hk : (l.slot k).pending = true)
    (hlow : ∀ j : FrameKind, j.code < k.code → (l.slot j).pending = false) : l.lowestPending = some k := by
  have hslots : l.defrostSlot = l.slot .defrost ∧ l.modeSlot = l.slot .mode ∧ l.boostSlot = l.slot .boost
      ∧ l.statusSlot = l.slot .status := ⟨rfl, rfl, rfl, rfl⟩
  obtain ⟨h1, h2, h3, h4⟩ := hslots
  unfold LineRec.lowestPending
  rw [h1, h2, h3, h4]
  cases k
  case defrost => simp [hk]
  case mode => simp [hk, hlow .defrost (by decide)]
  case boost => simp [hk, hlow .defrost (by decide), hlow .mode (by decide)]
  case status => simp [hk, hlow .defrost (by decide), hlow .mode (by decide), hlow .boost (by decide)]

/-- A frame's body is that of the moment, whatever the drive and the idle time. -/
theorem frameBody_advance (t : Time) (s : State) (k : FrameKind) :
    frameBody (advance t s) k = frameBody { s with now := timeAfter t s } k := by cases k <;> rfl

/-- Settles O45: the lowest pending slot's frame begins. -/
theorem frameBegins : Obligations.FrameBegins := by
  intro k t s hr hstraps hactive htrans hassembly hidle hk hlow
  have hlowest : (advance t s).line.lowestPending = some k := lowestPending_eq (l := (advance t s).line) hk hlow
  have hquiet : s.line.quiet = true := by simp [LineRec.quiet, htrans, hassembly, hactive]
  have htime : (advance t s).line.idleTime = s.line.idleTime + 24 * (timeAfter t s - max s.now (s.line.busyUntil.getD 0)) := by
    simp [advance, moveTime, trackStall, hquiet, recessiveUntil, timeAfter]
  have hdue : frameDue (advance t s) = true := by
    have hlong : idleLongEnough (advance t s).line.idleTime = true := by
      rw [htime]
      exact decide_eq_true hidle
    have hquietNow : (advance t s).line.quiet = true := hquiet
    simp [frameDue, mayBegin, hstraps, hquietNow, hlong, hlowest]
  have heffect : effectOf (.frameStart t) (advance t s) = beginFrame k (advance t s) := by
    have hstart : effectOf (.frameStart t) (advance t s) = startFrame (advance t s) := if_pos hdue
    rw [hstart, startFrame, hlowest]
  obtain ⟨hslot, hmark⟩ := finish_status_same (m := advance t s) (x := beginFrame k (advance t s)) rfl rfl
  refine ⟨_, exec_eq_finish (c := .frameStart t) rfl hr heffect, ?_, hslot, hmark, by simp [beginFrame]⟩
  rw [held_finish, ← frameBody_advance]
  rfl

/-! ## Its loss -/

/-- Settles O46: a lower header takes the line, and a collision counts. -/
theorem frameIsLost : Obligations.FrameIsLost := by
  intro t s x b hr htrans
  have hsending : sendingFrame (advance t s) = true := by simp [sendingFrame, htrans]
  have hcollision : effectOf (.collision ⟨t, b⟩) (advance t s) = collide b x (advance t s) := by
    have htake : effectOf (.collision ⟨t, b⟩) (advance t s) = takeCollision b (advance t s) := if_pos hsending
    rw [htake, takeCollision, show (advance t s).line.transmission = some x from htrans]
  have hcount : (advance t s).line.collisionsWith x.kind = s.line.collisionsWith x.kind := rfl
  refine ⟨fun h hlower => ?_, fun hkind => ?_, fun hkind hfew => ?_, fun hkind hmany => ?_⟩
  · have heffect : effectOf (.lostContention h t) (advance t s) = loseContention h (advance t s) :=
      if_pos (by simp [losesTo, htrans, hlower])
    rw [loseContention, show (advance t s).line.transmission = some x from htrans] at heffect
    obtain ⟨hslot, hmark⟩ := finish_status_same (m := advance t s) (x := { advance t s with
      line := { (advance t s).line with transmission := none, assembly := [h], arrival := x.start, idleTime := 0 } }) rfl rfl
    exact ⟨_, exec_eq_finish (c := .lostContention h t) rfl hr heffect, by rw [held_finish]; rfl, hslot, hmark⟩
  · have hone : s.line.collisionsWith x.kind = 1 := by simp [LineRec.collisionsWith, hkind]
    rw [collide, hcount, hone] at hcollision
    obtain ⟨hslot, hmark⟩ := finish_status_same (m := advance t s) (x := { advance t s with
      line := { (advance t s).line with
        transmission := none, idleTime := 0, busyUntil := some b, collisions := 1, collisionKind := some x.kind } }) rfl rfl
    exact ⟨_, exec_eq_finish (c := .collision ⟨t, b⟩) rfl hr hcollision, by rw [held_finish]; rfl, hslot, hmark⟩
  · have hnext : s.line.collisionsWith x.kind = s.line.collisions + 1 := by simp [LineRec.collisionsWith, hkind]
    rw [collide, hcount, hnext] at hcollision
    simp only [if_neg (show ¬ 3 ≤ s.line.collisions + 1 by omega), ← hkind] at hcollision
    obtain ⟨hslot, hmark⟩ := finish_status_same (m := advance t s) (x := { advance t s with
      line := { (advance t s).line with
        transmission := none, idleTime := 0, busyUntil := some b, collisions := s.line.collisions + 1
        collisionKind := s.line.collisionKind } }) rfl rfl
    exact ⟨_, exec_eq_finish (c := .collision ⟨t, b⟩) rfl hr hcollision, by rw [held_finish]; rfl, hslot, hmark⟩
  · have hnext : s.line.collisionsWith x.kind = s.line.collisions + 1 := by simp [LineRec.collisionsWith, hkind]
    rw [collide, hcount, hnext] at hcollision
    simp only [if_pos (show 3 ≤ s.line.collisions + 1 by omega)] at hcollision
    refine ⟨_, exec_eq_finish (c := .collision ⟨t, b⟩) rfl hr hcollision, by rw [held_finish]; rfl,
      by rw [finish_statusMark]; rfl, fun hp => finish_statusPending hp⟩

/-! ## The end of a frame -/

/-- The numbers below `n` up to the first that fails `p`. -/
theorem takeWhile_range (p : Nat → Bool) (n : Nat) :
    ((List.range n).takeWhile p).length ≤ n ∧ (∀ i < ((List.range n).takeWhile p).length, p i = true)
      ∧ (((List.range n).takeWhile p).length < n → p ((List.range n).takeWhile p).length = false) := by
  induction n with
  | zero => simp
  | succ n ih =>
    obtain ⟨hle, hall, hend⟩ := ih
    rw [List.range_succ, List.takeWhile_append, List.length_range]
    split
    case isTrue hfull =>
      rw [hfull] at hall
      cases hp : p n
      · simpa [hp] using hall
      · simp only [hp, List.takeWhile_cons_of_pos, List.takeWhile_nil, List.length_append, List.length_range,
          List.length_singleton, le_refl, lt_irrefl, false_imp_iff, true_and, and_true]
        intro i hi
        rcases Nat.lt_succ_iff_lt_or_eq.mp hi with h | rfl
        · exact hall i h
        · exact hp
    case isFalse hpart => exact ⟨by omega, hall, fun _ => hend (by omega)⟩

/-- The recessive bits at the end of a byte: its stop bit and the ones before it. -/
theorem recessiveTail_eq (b : Byte) : ∃ k ≤ 8, recessiveTail b = 625 * (1 + k)
    ∧ (∀ i < k, b.getLsbD i = true) ∧ (k < 8 → b.getLsbD k = false) := by
  obtain ⟨hle, hall, hend⟩ := takeWhile_range (fun i => b.getLsbD i) 8
  exact ⟨_, hle, rfl, hall, hend⟩

theorem tailOf_eq {bs : List Byte} {b : Byte} (h : bs.getLast? = some b) : ∃ k ≤ 8, tailOf bs = 625 * (1 + k)
    ∧ (∀ i < k, b.getLsbD i = true) ∧ (k < 8 → b.getLsbD k = false) := by
  rw [tailOf, h]
  exact recessiveTail_eq b

theorem slot_setSlot (l : LineRec) (k j : FrameKind) (v : Slot) :
    (l.setSlot k v).slot j = if j = k then v else l.slot j := by cases k <;> cases j <;> rfl

/-- R150: the slots once the frame of a kind has been sent. -/
theorem sent_slot (l : LineRec) (k j : FrameKind) :
    (l.sent k).slot j = if j = k then ⟨(l.slot k).reRequest, false⟩ else l.slot j := by
  have hdrop (x : LineRec) : (x.dropContent k).slot j = x.slot j := by cases k <;> rfl
  unfold LineRec.sent
  cases h : (l.slot k).reRequest <;> simp [hdrop, slot_setSlot, Slot.empty]

theorem setSlot_content (l : LineRec) (k : FrameKind) (v : Slot) :
    (l.setSlot k v).modeBody = l.modeBody ∧ (l.setSlot k v).boostBody = l.boostBody
      ∧ (l.setSlot k v).statusMark = l.statusMark ∧ (l.setSlot k v).statusPeriodEnd = l.statusPeriodEnd := by
  cases k <;> exact ⟨rfl, rfl, rfl, rfl⟩

/-- R150: the stored contents once the frame of a kind has been sent. -/
theorem sent_content (l : LineRec) (k : FrameKind) :
    ((l.slot k).reRequest = true → (l.sent k).modeBody = l.modeBody ∧ (l.sent k).boostBody = l.boostBody
      ∧ (l.sent k).statusMark = l.statusMark)
    ∧ ((l.slot k).reRequest = false → (l.sent k).modeBody = (if k = .mode then none else l.modeBody)
      ∧ (l.sent k).boostBody = (if k = .boost then none else l.boostBody)
      ∧ (l.sent k).statusMark = (if k = .status then false else l.statusMark))
    ∧ (l.sent k).statusPeriodEnd = l.statusPeriodEnd := by
  unfold LineRec.sent
  refine ⟨fun h => ?_, fun h => ?_, ?_⟩
  · rw [if_pos h]
    exact ⟨(setSlot_content l k _).1, (setSlot_content l k _).2.1, (setSlot_content l k _).2.2.1⟩
  · rw [if_neg (by simp [h])]
    cases k <;> exact ⟨rfl, rfl, rfl⟩
  · split
    · exact (setSlot_content l k _).2.2.2
    · cases k <;> rfl

/-- What the report of a sending makes of the state. -/
theorem reportSent_eq (x : Transmission) (s : State) :
    reportSent x s = { s with
      line := { s.line with
        statusPeriodEnd := if x.kind = .status then some (s.now + seconds 20) else s.line.statusPeriodEnd }
      frost := if x.kind = .defrost then (noticeSent x.bytes s).frost else s.frost } := by
  unfold reportSent
  cases x.kind
  case defrost =>
    unfold noticeSent
    dsimp only
    split <;> rfl
  all_goals rfl

/-- The report of a sending moves no announced field and no input of the demand unit. -/
theorem reportSent_inputs (x : Transmission) (s : State) :
    demandInputs (reportSent x s) = demandInputs s ∧ announced (reportSent x s) = announced s := by
  unfold reportSent noticeSent
  split
  · dsimp only
    split <;> exact ⟨rfl, rfl⟩
  all_goals exact ⟨rfl, rfl⟩

/-- The state in which the transmission has ended, before the sending is reported. -/
def sentFrame (x : Transmission) (s : State) : State := { s with line := s.line.afterSending x }

/-- The line interface without its active flag is no input of the demand unit and not announced. -/
theorem inputs_of_line {l : LineRec} {s : State} (h : l.active = s.line.active) :
    demandInputs { s with line := l } = demandInputs s ∧ announced { s with line := l } = announced s := by
  have hderived : derivedDemands { s with line := l } = derivedDemands s := by
    unfold derivedDemands
    refine List.map_congr_left fun p _ => ?_
    simp only [derivedDemand, h]
  have hfaults : faultSet { s with line := l } = faultSet s := by simp only [faultSet, h]
  constructor
  · unfold demandInputs
    rw [hderived]
    rfl
  · unfold announced statusBody
    rw [hfaults]
    rfl

theorem advance_slot (t : Time) (s : State) (k : FrameKind) : (advance t s).line.slot k = s.line.slot k := by
  cases k <;> rfl

/-- Settles O47: the slot is served, and the sending is reported. -/
theorem frameIsSent : Obligations.FrameIsSent := by
  intro t s x hr htrans
  have hsending : sendingFrame (advance t s) = true := by simp [sendingFrame, htrans]
  have heffect : effectOf (.frameSent t) (advance t s) = reportSent x (sentFrame x (advance t s)) := by
    have hcomplete : effectOf (.frameSent t) (advance t s) = completeFrame (advance t s) := if_pos hsending
    rw [hcomplete, completeFrame, show (advance t s).line.transmission = some x from htrans]
    rfl
  have hfrost : (sentFrame x (advance t s)).frost = s.frost := rfl
  obtain ⟨hinputs, hannounced⟩ := reportSent_inputs x (sentFrame x (advance t s))
  have hactive : ((advance t s).line.afterSending x).active = (advance t s).line.active := by
    rw [afterSending_active]
  obtain ⟨hsentInputs, hsentAnnounced⟩ := inputs_of_line (s := advance t s) hactive
  obtain ⟨hslot, hmark⟩ := finish_status_same (hinputs.trans hsentInputs) (hannounced.trans hsentAnnounced)
  have hidle : (finish (advance t s) (reportSent x (sentFrame x (advance t s)))).line.idleTime = tailOf x.bytes := by
    rw [reportSent_eq]
    simp [sentFrame, LineRec.afterSending]
  have hheld : held (finish (advance t s) (reportSent x (sentFrame x (advance t s))))
      = held (reportSent x (sentFrame x (advance t s))) := held_finish _ _
  refine ⟨_, exec_eq_finish (c := .frameSent t) rfl hr heffect, ?_⟩
  generalize finish (advance t s) (reportSent x (sentFrame x (advance t s))) = s' at hheld hslot hmark hidle ⊢
  rw [reportSent_eq] at hheld hslot hmark
  obtain ⟨hkept, hdropped, hperiod⟩ := sent_content (advance t s).line x.kind
  rw [advance_slot] at hkept hdropped
  have hline : s'.line.steady = _ := congrArg Held.line hheld
  have hfrostAfter : s'.frost = if x.kind = .defrost then (noticeSent x.bytes (sentFrame x (advance t s))).frost
      else s.frost := congrArg Held.frost hheld
  have hslots (j : FrameKind) : s'.line.slot j
      = if j = x.kind then ⟨(s.line.slot x.kind).reRequest, false⟩ else s.line.slot j := by
    have hall : s'.line.slot j = ((advance t s).line.sent x.kind).slot j := by
      cases j
      case status => exact hslot
      case defrost => have h := congrArg LineRec.defrostSlot hline; exact h
      case mode => have h := congrArg LineRec.modeSlot hline; exact h
      case boost => have h := congrArg LineRec.boostSlot hline; exact h
    rw [hall, sent_slot, advance_slot, advance_slot]
  have hmode : s'.line.modeBody = ((advance t s).line.sent x.kind).modeBody := by
    have h := congrArg LineRec.modeBody hline; exact h
  have hboost : s'.line.boostBody = ((advance t s).line.sent x.kind).boostBody := by
    have h := congrArg LineRec.boostBody hline; exact h
  have hmarkAfter : s'.line.statusMark = ((advance t s).line.sent x.kind).statusMark := hmark
  have hperiodAfter : s'.line.statusPeriodEnd
      = if x.kind = .status then some (timeAfter t s + seconds 20)
        else ((advance t s).line.sent x.kind).statusPeriodEnd := by
    have h := congrArg LineRec.statusPeriodEnd hline; exact h
  refine ⟨?_, ?_, ?_, ?_, fun j hj => ?_, fun hre => ?_, fun hre => ?_, ?_, fun idx a hkind ha hbytes hstage => ?_,
    fun hno => ?_, fun b hb => ?_, ?_⟩
  · have h := congrArg LineRec.transmission hline; exact h
  · have h := congrArg LineRec.collisions hline; exact h
  · have h := congrArg LineRec.collisionKind hline; exact h
  · rw [hslots, if_pos rfl]
  · rw [hslots, if_neg hj]
  · rw [hmode, hboost, hmarkAfter]
    exact hkept hre
  · rw [hmode, hboost, hmarkAfter]
    exact hdropped hre
  · rw [hperiodAfter, hperiod]
    rfl
  · have hnotice : noticeOf x.bytes = ⟨some .enter, false, a⟩ := by rw [hbytes, noticeOf_frameOf idx _ a ha]
    rw [hfrostAfter, if_pos hkind]
    unfold noticeSent
    rw [hnotice]
    dsimp only
    rw [if_pos ⟨rfl, rfl, hstage⟩]
    rfl
  · rw [hfrostAfter]
    split
    case isTrue hkind =>
      unfold noticeSent
      dsimp only
      rw [if_neg fun h => hno.elim (· hkind) (· h.2.2)]
      rfl
    case isFalse => rfl
  · rw [hidle]
    exact tailOf_eq hb
  · rw [hline, hfrostAfter, hheld]
    rfl

end Sys2Proof.Proofs

/-! The line interface: the check of a frame that was received. -/

namespace Sys2Proof.Proofs

open Sys2Proof.Machine

/-- R155: when a frame from the line is received at all. -/
theorem effectOf_received {chars : List Byte} {stops : StopBits} {arrival t : Time} {s : State}
    (hstraps : s.strapsRead = true) (hactive : s.line.active = false) (htrans : s.line.transmission = none)
    (hrest : ∀ b, s.line.busyUntil = some b → b ≤ arrivalOf s.line arrival) :
    effectOf (.frameReceived chars stops arrival t) (advance t s) = closeFrame chars stops arrival (advance t s) := by
  have hreceives : receives (advance t s) = true := by simp [receives, hstraps, hactive, htrans]
  have hnew : restOfOtherFrame arrival (advance t s).line = false := by
    rw [restOfOtherFrame, Option.any_eq_false]
    intro b hb
    simpa [arrivalOf] using hrest b hb
  exact if_pos (by rw [hreceives, hnew]; rfl)

theorem arrivalOf_eq (l : LineRec) (arrival : Time) :
    arrivalOf l arrival = if l.assembly = [] then arrival else l.arrival := by simp [arrivalOf]

/-- A frame fails the check where its kind, its length, a character or its sum is wrong. -/
theorem frameValid_eq_false {bs : List Byte} {spoilt : Bool}
    (h : ∀ k, frameKind bs = some k → bs.length ≠ k.length ∨ spoilt = true ∨ byteSum bs ≠ 0) :
    frameValid bs spoilt = false := by
  unfold frameValid
  cases hk : frameKind bs
  case none => rfl
  case some k =>
    rcases h k hk with h | h | h
    · simp [h]
    · simp [h]
    · exact Bool.and_eq_false_iff.mpr (.inr (beq_eq_false_iff_ne.mpr h))

theorem frameValid_eq_true {bs : List Byte} {k : FrameKind} (hk : frameKind bs = some k) (hlen : bs.length = k.length)
    (hsum : byteSum bs = 0) : frameValid bs false = true := by
  simp [frameValid, hk, hlen, hsum]

/-- The idle time that a closed frame leaves. -/
theorem idleAfter_closed (bs : List Byte) (stops : StopBits) : idleAfter bs stops (gapTime + tailAfter bs stops) := by
  refine ⟨fun h => by rw [h]; rfl, fun b h hb => ?_⟩
  obtain ⟨k, hk, htail, hbits⟩ := tailOf_eq hb
  refine ⟨k, hk, ?_, hbits⟩
  rw [← htail]
  cases stops
  case lastDominant => exact absurd rfl h
  all_goals rfl

/-- Settles O48: a frame is checked, and one with the own index goes no further. -/
theorem receivedFrameIsChecked : Obligations.ReceivedFrameIsChecked := by
  intro chars stops arrival t s hr hstraps hactive htrans
  refine ⟨fun b hb hlt => ?_, fun hrest => ⟨fun hbad => ?_, fun k hk hlen hstops hsum hindex => ?_⟩⟩
  · have hold : restOfOtherFrame arrival (advance t s).line = true := by
      rw [restOfOtherFrame, show (advance t s).line.busyUntil = some b from hb]
      rw [← arrivalOf_eq] at hlt
      simpa [arrivalOf] using hlt
    have heffect : effectOf (.frameReceived chars stops arrival t) (advance t s) = advance t s :=
      if_neg (by rw [hold]; simp)
    exact ⟨_, exec_eq_finish rfl hr heffect, (held_finish _ _).trans rfl⟩
  all_goals
    have heffect := effectOf_received (chars := chars) (stops := stops) (t := t) hstraps hactive htrans
      (fun b hb => (arrivalOf_eq _ _).symm ▸ hrest b hb)
  · have hinvalid : frameValid (s.line.assembly ++ chars) (frameSpoilt stops) = false :=
      frameValid_eq_false fun k hk => (hbad k hk).imp id (Or.imp (by cases stops <;> simp [frameSpoilt]) id)
    have hclosed : closeFrame chars stops arrival (advance t s)
        = emptyAssembly (tailAfter (s.line.assembly ++ chars) stops) (advance t s) :=
      if_neg (by rw [show (advance t s).line.assembly = s.line.assembly from rfl, hinvalid]; simp)
    refine ⟨_, exec_eq_finish (c := .frameReceived chars stops arrival t) rfl hr (heffect.trans hclosed),
      (held_finish _ _).trans rfl, ?_⟩
    simpa using idleAfter_closed _ _
  · have hvalid : frameValid (s.line.assembly ++ chars) (frameSpoilt stops) = true := by
      rw [hstops]
      exact frameValid_eq_true hk hlen hsum
    have hclosed : closeFrame chars stops arrival (advance t s)
        = hearOwnIndex (emptyAssembly (tailAfter (s.line.assembly ++ chars) stops) (advance t s)) :=
      (if_pos (by rw [show (advance t s).line.assembly = s.line.assembly from rfl, hvalid])).trans (if_pos hindex)
    refine ⟨_, exec_eq_finish (c := .frameReceived chars stops arrival t) rfl hr (heffect.trans hclosed),
      (held_finish _ _).trans rfl, ?_⟩
    simpa using idleAfter_closed _ _

end Sys2Proof.Proofs

/-! The local controls: what is held for a time, the BOOST button, and the switches. -/

namespace Sys2Proof.Proofs

open Sys2Proof.Machine

/-! ## BOOST and FILTER held -/

/-- The state in which a held BOOST has been taken. -/
def boostTaken (s : State) : State := setBoostStage .taken none s

theorem held_boostTaken (s : State) :
    held (boostTaken s) = { held s with ctl := { s.ctl.steady with boostStage := .taken, boostStart := none } } := rfl

/-- R33: in REST a toggle begins the exit, or withdraws it. -/
theorem offToggle_rest {s : State} (h : s.seq.state = .rest) :
    offToggle s = { s with seq := { s.seq with
      rejoin := if s.seq.rejoin = none then
          some (if s.now - s.seq.restStart.getD s.now < minutes 30 then .fast else .deep)
        else none } } := by
  have htoggle : offToggle s
      = if s.seq.rejoin = none then restExit s else { s with seq := { s.seq with rejoin := none } } := by
    unfold offToggle
    split
    case h_1 => rfl
    case h_2 hs => exact absurd (h.symm.trans hs) (by decide)
    case h_3 hr hs => exact absurd h hr
  rw [htoggle]
  by_cases hnone : s.seq.rejoin = none
  · rw [if_pos hnone, if_pos hnone, restExit, if_pos ⟨h, hnone⟩]
  · rw [if_neg hnone, if_neg hnone]

/-- R32: a held rest is dropped. -/
theorem offToggle_held {s : State} (hrest : s.seq.state ≠ .rest) (hstop : s.seq.state ≠ .stopped)
    (hheld : s.seq.restHeld = true) : offToggle s = { s with seq := { s.seq with restHeld := false } } := by
  unfold offToggle
  split
  · contradiction
  · contradiction
  · rw [if_pos hheld]

/-- R32: in a cycling state and in PAUSED the rest is entered. -/
theorem offToggle_enters {s : State} (hheld : s.seq.restHeld = false)
    (h : s.seq.state = .supply ∨ s.seq.state = .extract ∨ s.seq.state = .through ∨ s.seq.state = .paused) :
    offToggle s = enterRest s := by
  rcases h with h | h | h | h <;> simp [offToggle, h, hheld]

/-- R32: elsewhere a rest is held. -/
theorem offToggle_holds {s : State} (hheld : s.seq.restHeld = false)
    (h : s.seq.state = .reversing ∨ s.seq.state = .defrost ∨ s.seq.state = .listen ∨ s.seq.state = .starting) :
    offToggle s = { s with seq := { s.seq with restHeld := true } } := by
  rcases h with h | h | h | h <;> simp [offToggle, h, hheld]

/-- The entry into LISTEN. -/
theorem held_enterListen {s : State} (hrest : s.seq.state ≠ .rest) (hdefrost : s.seq.state ≠ .defrost) :
    held (enterListen s) = { held s with
      seq := { s.seq with state := .listen }
      clock := { s.clock with listenEnd := some (s.now + seconds 130) } } := by
  have hchanged := held_changeSeq_running (q := { s.seq with state := .listen }) (s := s) (by simp) (by simp) hrest
  have hfrost : frostAfterSeq .listen s.seq.state s.now s.frost = s.frost :=
    frostAfterSeq_same (by decide) fun _ => .inr ⟨by decide, by decide, hdefrost⟩
  have habandons : ({ s.seq with state := .listen } : SeqRec).abandonsProbe = false := by simp [SeqRec.abandonsProbe]
  rw [hfrost, habandons, Bool.false_and, Bool.not_false, Bool.and_true, if_neg Bool.false_ne_true] at hchanged
  have hclock : (changeSeq { s.seq with state := .listen } s).clock = s.clock := by simp
  have hlisten : held (enterListen s) = { held (changeSeq { s.seq with state := .listen } s) with
      clock := { (changeSeq { s.seq with state := .listen } s).clock with listenEnd := some (s.now + seconds 130) } } := rfl
  rw [hlisten, hchanged, hclock]
  rfl

/-- The release from STOPPED. -/
theorem held_release {s : State} (h : s.seq.state = .stopped) :
    held (release s) = { held s with
      seq := { s.seq with state := .listen, stallHistory := [] }
      ctl := { s.ctl.steady with stall := false }
      clock := { s.clock with listenEnd := some (s.now + seconds 130) } } := by
  unfold release
  rw [if_pos h, held_enterListen (by simp [h]) (by simp [h])]
  rfl

/-- R133: the filter monitor starts afresh. -/
def filterFresh (s : State) : State :=
  { s with
    ctl := { s.ctl with filterStage := .taken, filterStart := none }
    filter := { abandoned s.now s.filter with
      state := .clean, load := 0, countdown := 100 * s.cfg.serviceInterval, baseline := 0, probe := .idle
      hoursToProbe := 1, abandonTime := none }
    fan := { s.fan with probeHold := s.fan.probeHold && !s.filter.probing } }

theorem takeFilterReset_eq (s : State) : takeFilterReset s = requestWriteBack (filterFresh s) := by
  unfold takeFilterReset resetFilter
  rw [abandonProbe_eq]
  rfl

/-- Settles O55: BOOST held toggles the rest or releases; FILTER held starts the filter afresh. -/
theorem holdsAreTaken : Obligations.HoldsAreTaken := by
  intro t s hr
  refine ⟨fun b hstage hb hover => ?_, fun b hstage hb hover => ?_⟩
  · have hdue : holdDue (advance t s) = true := by
      have hreached : reached ((advance t s).ctl.boostStart.map (· + seconds 5)) (advance t s).now = true :=
        (reached_iff _ _).mpr ⟨b + seconds 5, by simp [hb], hover⟩
      simp only [holdDue, hreached, Bool.and_true, decide_eq_true_eq]
      exact hstage
    generalize hx : boostTaken (advance t s) = x
    have hheldx : held x = { held s with ctl := { s.ctl.steady with boostStage := .taken, boostStart := none } } := by
      rw [← hx, held_boostTaken]; rfl
    have hnow : x.now = timeAfter t s := by rw [← hx]; rfl
    have hseq : x.seq = s.seq := by rw [← hx]; rfl
    have htake : effectOf (.hold t) (advance t s) = if x.seq.state = .stopped then release x else offToggle x := by
      have h : effectOf (.hold t) (advance t s) = takeHold (advance t s) := if_pos hdue
      rw [h, ← hx]
      rfl
    by_cases hstop : s.seq.state = .stopped
    · have hxstop : x.seq.state = .stopped := by rw [hseq, hstop]
      rw [if_pos hxstop] at htake
      have hafter : held (finish (advance t s) (release x)) = _ := (held_finish _ _).trans (held_release hxstop)
      rw [hheldx, hseq, hnow] at hafter
      have hctl : x.ctl.steady = _ := congrArg Held.ctl hheldx
      rw [hctl] at hafter
      have hclock : x.clock = s.clock := congrArg Held.clock hheldx
      rw [hclock] at hafter
      refine ⟨_, exec_eq_finish (c := .hold t) rfl hr htake, congrArg (fun y : Held => y.ctl.boostStage) hafter,
        congrArg (fun y : Held => y.ctl.boostStart) hafter, fun h => absurd (hstop.symm.trans h) (by decide),
        fun _ h => absurd (hstop.symm.trans h) (by decide),
        fun _ => ⟨congrArg Held.seq hafter, congrArg (fun y : Held => y.ctl.stall) hafter, ?_⟩,
        fun _ h => absurd hstop h, fun _ h => absurd h (by simp [hstop]), fun _ => congrArg Held.frost hafter,
        fun _ h => absurd h (by simp [hstop]), congrArg Held.peers hafter, congrArg Held.house hafter,
        congrArg Held.cfg hafter, congrArg Held.loader hafter, congrArg Held.pending hafter,
        congrArg (fun y : Held => y.clock.c) hafter, congrArg (fun y : Held => y.clock.endTime) hafter,
        congrArg (fun y : Held => y.fan.direction) hafter⟩
      rw [show tenths 1300 = seconds 130 from tenths_eq_seconds 130]
      exact congrArg (fun y : Held => y.clock.listenEnd) hafter
    rw [if_neg (by rw [hseq]; exact hstop)] at htake
    have hctl : x.ctl.steady = _ := congrArg Held.ctl hheldx
    have honly {q : SeqRec} (htoggle : offToggle x = { x with seq := q }) :
        held (finish (advance t s) (offToggle x)) = { held s with
          seq := q, ctl := { s.ctl.steady with boostStage := .taken, boostStart := none } } := by
      rw [held_finish, htoggle]
      show { held x with seq := q } = _
      rw [hheldx]
    by_cases henters : s.seq.restHeld = false
        ∧ (s.seq.state = .supply ∨ s.seq.state = .extract ∨ s.seq.state = .through ∨ s.seq.state = .paused)
    · obtain ⟨hfree, hstate⟩ := henters
      have hnotRest : s.seq.state ≠ .rest := by rcases hstate with h | h | h | h <;> simp [h]
      have hafter : held (finish (advance t s) (offToggle x)) = _ :=
        (held_finish _ _).trans (by rw [offToggle_enters (by rw [hseq, hfree]) (by rw [hseq]; exact hstate), held_enterRest])
      have hout : (finish (advance t s) (offToggle x)).fan.driveOutput = 0 := by
        rw [offToggle_enters (by rw [hseq, hfree]) (by rw [hseq]; exact hstate)]
        simp
      have hxfrost : x.frost = s.frost := congrArg Held.frost hheldx
      have hxhumid : x.humid = s.humid := congrArg Held.humid hheldx
      have hxstack : x.demand.stack = s.demand.stack := congrArg Held.stack hheldx
      have hxline : x.line.steady = s.line.steady := congrArg Held.line hheldx
      have hxfan : x.fan.steady = s.fan.steady := congrArg Held.fan hheldx
      have hown : ownNumber x = ownNumber s := congrArg (fun y : Held => y.stationIndex.toNat + 1) hheldx
      rw [hheldx, hseq, hnow, hxfrost, hxhumid, hxstack, hxline, hxfan, hown] at hafter
      refine ⟨_, exec_eq_finish (c := .hold t) rfl hr htake, congrArg (fun y : Held => y.ctl.boostStage) hafter,
        congrArg (fun y : Held => y.ctl.boostStart) hafter, fun h => absurd h hnotRest, fun _ h => absurd h hnotRest,
        fun h => absurd h hstop, fun _ _ h => absurd (hfree.symm.trans h) (by decide),
        fun _ _ => ⟨congrArg Held.seq hafter, hout, (congrArg Held.humid hafter).trans ?_, fun hboost => ?_,
          restEndsDefrost_of hnotRest (congrArg Held.frost hafter) (congrArg Held.line hafter)⟩,
        fun h => ?_, fun _ h => ?_, congrArg Held.peers hafter, congrArg Held.house hafter,
        congrArg Held.cfg hafter, congrArg Held.loader hafter, congrArg Held.pending hafter,
        congrArg (fun y : Held => y.clock.c) hafter, congrArg (fun y : Held => y.clock.endTime) hafter,
        congrArg (fun y : Held => y.fan.direction) hafter⟩
      · show humidAfterSeq .rest s.seq.state (timeAfter t s) s.humid = _
        cases hmonitor : s.humid.state <;> simp [humidAfterSeq, hmonitor, hnotRest]
      · have hlost : boostLost .rest s.seq.state s.humid = true := by simp [boostLost, hboost, hnotRest]
        have hstack := congrArg Held.stack hafter
        rw [hlost] at hstack
        exact hstack
      · rcases h with h | ⟨h1, h2, h3, h4, -⟩
        · exact absurd (hfree.symm.trans h) (by decide)
        · rcases hstate with h | h | h | h <;> contradiction
      · rcases hstate with h' | h' | h' | h' <;> simp [h'] at h
    · have hcases : ∃ q, offToggle x = { x with seq := q }
          ∧ (s.seq.state = .rest → s.seq.rejoin.isSome = true → q = { s.seq with rejoin := none })
          ∧ (∀ r, s.seq.state = .rest → s.seq.rejoin = none → s.seq.restStart = some r → q = { s.seq with
              rejoin := some (if timeAfter t s - r < minutes 30 then .fast else .deep) })
          ∧ (s.seq.state ≠ .rest → s.seq.restHeld = true → q = { s.seq with restHeld := false })
          ∧ (s.seq.restHeld = false → s.seq.state = .reversing ∨ s.seq.state = .defrost ∨ s.seq.state = .listen →
              q = { s.seq with restHeld := true }) := by
        by_cases hrest : s.seq.state = .rest
        · refine ⟨_, offToggle_rest (by rw [hseq, hrest]), fun _ h => ?_, fun r _ h hr => ?_, fun h => absurd hrest h,
            fun _ h => absurd h (by simp [hrest])⟩
          · rw [hseq, if_neg (by simpa [Option.isSome_iff_ne_none] using h)]
          · rw [hseq, hnow, if_pos h, hr]
            rfl
        · by_cases hrestHeld : s.seq.restHeld = true
          · refine ⟨_, offToggle_held (by rw [hseq]; exact hrest) (by rw [hseq]; exact hstop) (by rw [hseq]; exact hrestHeld),
              fun h => absurd h hrest, fun _ h => absurd h hrest, fun _ _ => by rw [hseq],
              fun h => absurd (hrestHeld.symm.trans h) (by decide)⟩
          · have hfree : s.seq.restHeld = false := by simpa using hrestHeld
            have helse : s.seq.state = .reversing ∨ s.seq.state = .defrost ∨ s.seq.state = .listen
                ∨ s.seq.state = .starting := by
              cases h : s.seq.state <;> simp_all
            refine ⟨_, offToggle_holds (by rw [hseq, hfree]) (by rw [hseq]; exact helse),
              fun h => absurd h hrest, fun _ h => absurd h hrest, fun _ h => absurd h hrestHeld,
              fun _ _ => by rw [hseq]⟩
      obtain ⟨q, htoggle, hwithdrawn, hbegun, hdropped, hheldRest⟩ := hcases
      have hafter := honly htoggle
      have hq : (finish (advance t s) (offToggle x)).seq = q := congrArg Held.seq hafter
      refine ⟨_, exec_eq_finish (c := .hold t) rfl hr htake, congrArg (fun y : Held => y.ctl.boostStage) hafter,
        congrArg (fun y : Held => y.ctl.boostStart) hafter, fun h h' => hq.trans (hwithdrawn h h'),
        fun r h h' h'' => hq.trans (hbegun r h h' h''), fun h => absurd h hstop, fun h _ h' => hq.trans (hdropped h h'),
        fun h h' => absurd ⟨h, h'⟩ henters, fun _ => congrArg Held.frost hafter, fun h h' => hq.trans (hheldRest h h'),
        congrArg Held.peers hafter, congrArg Held.house hafter,
        congrArg Held.cfg hafter, congrArg Held.loader hafter, congrArg Held.pending hafter,
        congrArg (fun y : Held => y.clock.c) hafter, congrArg (fun y : Held => y.clock.endTime) hafter,
        congrArg (fun y : Held => y.fan.direction) hafter⟩
  · have hdue : filterResetDue (advance t s) = true := by
      have hreached : reached ((advance t s).ctl.filterStart.map (· + seconds 3)) (advance t s).now = true :=
        (reached_iff _ _).mpr ⟨b + seconds 3, by simp [hb], hover⟩
      simp only [filterResetDue, hreached, Bool.and_true, decide_eq_true_eq]
      exact hstage
    have heffect : effectOf (.filterReset t) (advance t s)
        = requestWriteBack (filterFresh (advance t s)) := by
      have h : effectOf (.filterReset t) (advance t s) = takeFilterReset (advance t s) := if_pos hdue
      rw [h]
      exact takeFilterReset_eq _
    have hafter : held (finish (advance t s) (requestWriteBack (filterFresh (advance t s)))) = _ :=
      (held_finish _ _).trans (held_requestWriteBack _)
    obtain ⟨hoff, hpending, hstarted⟩ := requestWriteBack_loader (filterFresh (advance t s))
    have hfilter : (finish (advance t s) (requestWriteBack (filterFresh (advance t s)))).filter = (filterFresh (advance t s)).filter :=
      congrArg Held.filter hafter
    have hloader : (finish (advance t s) (requestWriteBack (filterFresh (advance t s)))).loader = _ := congrArg Held.loader hafter
    refine ⟨_, exec_eq_finish (c := .filterReset t) rfl hr heffect, congrArg (fun y : Held => y.ctl.filterStage) hafter,
      congrArg (fun y : Held => y.ctl.filterStart) hafter, ?_⟩
    rw [hfilter, hloader]
    refine ⟨rfl, rfl, rfl, rfl, rfl, rfl, rfl, ?_, hoff, hpending, hstarted, ?_⟩
    · show (abandoned (timeAfter t s) s.filter).runHours = s.filter.runHours
      unfold abandoned
      split <;> rfl
    · have hhold : (finish (advance t s) (requestWriteBack (filterFresh (advance t s)))).fan.probeHold
          = (s.fan.probeHold && !s.filter.probing) := congrArg (fun y : Held => y.fan.probeHold) hafter
      rw [hafter, hhold]
      rfl

end Sys2Proof.Proofs

/-! The local controls: the BOOST button and the switches. -/

namespace Sys2Proof.Proofs

open Sys2Proof.Machine

/-! ## The BOOST button -/

/-- From the end of STARTING, a new level of a control line is stored and acts. -/
theorem effectOf_debounce {c : ControlLine} {v : Level} {t : Time} {s : State} (hstarted : s.seq.state ≠ .starting)
    (hnew : LineLevels.get s.ctl.levels c ≠ v) :
    effectOf (.debounce c v t) (advance t s) = levelChanged c v (setLevel c v (advance t s)) := by
  have hdue : levelDiffers c v (advance t s) = true := by
    show decide (LineLevels.get s.ctl.levels c ≠ v) = true
    exact decide_eq_true hnew
  have hlevel : effectOf (.debounce c v t) (advance t s) = debounceLine c v (advance t s) := if_pos hdue
  have hon : started (advance t s) = true := by simp [started, hstarted]
  rw [hlevel, debounceLine, if_pos hon]

/-- A wake by a gesture gives REST a rejoin, where it is enabled. -/
theorem wakeByGesture_rejoin {s : State} (hrest : s.seq.state = .rest) (hon : s.cfg.wake.boostGesture = true) :
    (wakeByGesture s).seq.rejoin.isSome = true := by
  rw [wakeByGesture, if_pos hon]
  exact (restExit_rejoin hrest).2

theorem finish_fan_steady (m x : State) : (finish m x).fan.steady = x.fan.steady := congrArg Held.fan (held_finish m x)

theorem finish_ctl_steady (m x : State) : (finish m x).ctl.steady = x.ctl.steady := congrArg Held.ctl (held_finish m x)

theorem finish_line_steady (m x : State) : (finish m x).line.steady = x.line.steady := congrArg Held.line (held_finish m x)

theorem finish_seq (m x : State) : (finish m x).seq = x.seq := congrArg Held.seq (held_finish m x)

/-- What a toggle of an override entry leaves of the stack and of a probe in progress. -/
structure Pushes (e : Override) (s s' : State) : Prop where
  stack : s'.demand.stack = e :: (without e.source e.origin s.demand.stack).take 3
  filter : s'.filter = abandoned s.now s.filter
  hold : s'.fan.probeHold = (s.fan.probeHold && !s.filter.probing)

theorem push_pushes (e : Override) (s : State) : Pushes e s (push e s) := by
  have h := held_push e s
  exact ⟨congrArg Held.stack h, congrArg Held.filter h, congrArg (fun y : Held => y.fan.probeHold) h⟩

theorem removeEntry_stack (src : Source) (origin : Nat) (s : State) :
    (removeEntry src origin s).demand.stack = without src origin s.demand.stack :=
  congrArg Held.stack (held_removeEntry src origin s)

/-- R161: a short press. -/
theorem shortPress_acts (s : State) :
    (stands s .localBoost (ownNumber s) = true →
        (shortPress s).demand.stack = without .localBoost (ownNumber s) s.demand.stack)
    ∧ (stands s .localBoost (ownNumber s) = false →
        Pushes ⟨.localBoost, ownNumber s, localBoostLevel s.roomClass, some (s.now + minutes s.cfg.localBoost)⟩ s
          (shortPress s)) := by
  refine ⟨fun h => ?_, fun h => ?_⟩
  · simp only [shortPress, toggleLocalBoost, h, if_true, wakeByGesture_keeps]
    exact removeEntry_stack _ _ _
  · have hpushes := push_pushes ⟨.localBoost, ownNumber s, localBoostLevel s.roomClass, some (s.now + minutes s.cfg.localBoost)⟩ s
    simp only [shortPress, toggleLocalBoost, h, Bool.false_eq_true, if_false]
    exact ⟨by simpa using hpushes.stack, by simpa using hpushes.filter, by simpa using hpushes.hold⟩

/-- R109, R163: a long press. -/
theorem longPress_acts (s : State) :
    (longPress s).line.boostSlot.pending = true
    ∧ (stands s .houseBoost (ownNumber s) = true →
        (longPress s).demand.stack = without .houseBoost (ownNumber s) s.demand.stack
        ∧ (longPress s).line.boostBody = some ⟨.cancel, 90, s.cfg.houseBoost⟩)
    ∧ (stands s .houseBoost (ownNumber s) = false →
        Pushes ⟨.houseBoost, ownNumber s, 90, some (s.now + minutes s.cfg.houseBoost)⟩ s (longPress s)
        ∧ (longPress s).line.boostBody = some ⟨.start, 90, s.cfg.houseBoost⟩) := by
  refine ⟨?_, fun h => ?_, fun h => ?_⟩
  · unfold longPress toggleHouseBoost
    simp only [wakeByGesture_keeps]
    split <;> rfl
  · simp only [longPress, toggleHouseBoost, h, if_true, wakeByGesture_keeps]
    exact ⟨removeEntry_stack .houseBoost (ownNumber s) s, rfl⟩
  · have hpushes := push_pushes ⟨.houseBoost, ownNumber s, 90, some (s.now + minutes s.cfg.houseBoost)⟩ s
    simp only [longPress, toggleHouseBoost, h, Bool.false_eq_true, if_false, wakeByGesture_keeps]
    refine ⟨⟨?_, ?_, ?_⟩, rfl⟩
    · simpa [queueBoost] using hpushes.stack
    · simpa [queueBoost] using hpushes.filter
    · simpa [queueBoost] using hpushes.hold

theorem boostLevel_pressed {s : State} (h : s.ctl.boostStage = .released) :
    boostLevel .low s = setBoostStage .pressed (some s.now) s := by simp [boostLevel, h]

theorem boostLevel_freed {s : State} (h : s.ctl.boostStage = .waitRelease ∨ s.ctl.boostStage = .taken) :
    boostLevel .high s = setBoostStage .released none s := by rcases h with h | h <;> simp [boostLevel, h]

theorem boostLevel_released {s : State} {b : Time} (h : s.ctl.boostStage = .pressed) (hb : s.ctl.boostStart = some b) :
    boostLevel .high s = pressOf (s.now - b) (setBoostStage .released none s) := by
  simp [boostLevel, h, hb, pressLength]

/-- Settles O54: a press begins, a release acts by its length, and elsewhere a high level only releases. -/
theorem boostButtonActs : Obligations.BoostButtonActs := by
  intro v t s hr hstarted hnew
  have heffect : effectOf (.debounce .boost v t) (advance t s) = boostLevel v (setLevel .boost v (advance t s)) :=
    effectOf_debounce hstarted hnew
  have hctl : (setLevel .boost v (advance t s)).ctl = { s.ctl with levels := { s.ctl.levels with boost := v } } := rfl
  refine ⟨_, exec_eq_finish (c := .debounce .boost v t) rfl hr heffect, ?_, fun hstage hv => ?_, fun hstage hv => ?_,
    fun b hstage hb hv => ?_, by simp, by simp, ?_, by simp, by simp, by simp, by simp, by simp, by simp⟩
  · simp [hctl]
  · rw [held_finish, hv, boostLevel_pressed (s := setLevel .boost .low (advance t s)) hstage]
    rfl
  · rw [held_finish, hv, boostLevel_freed (s := setLevel .boost .high (advance t s)) hstage]
    rfl
  · rw [hv, boostLevel_released (s := setLevel .boost .high (advance t s)) hstage hb]
    generalize hy : setBoostStage .released none (setLevel .boost .high (advance t s)) = y
    have hlength : (setLevel .boost .high (advance t s)).now - b = timeAfter t s - b := rfl
    have hnow : y.now = timeAfter t s := by rw [← hy]; rfl
    have hstack : y.demand.stack = s.demand.stack := by rw [← hy]; rfl
    have hfilter : y.filter = s.filter := by rw [← hy]; rfl
    have hprobe : y.fan.probeHold = s.fan.probeHold := by rw [← hy]; rfl
    have hstands (src : Source) (o : Nat) : stands y src o = stands s src o := by rw [← hy]; rfl
    have hown : ownNumber y = ownNumber s := by rw [← hy]; rfl
    have hcfg : y.cfg = s.cfg := by rw [← hy]; rfl
    have hclass : y.roomClass = s.roomClass := by rw [← hy]; rfl
    have hline : y.line.boostSlot = s.line.boostSlot := by rw [← hy]; rfl
    have hstate : y.seq.state = s.seq.state := by rw [← hy]; rfl
    have hyctl : y.ctl.boostStage = .released ∧ y.ctl.boostStart = none := by rw [← hy]; exact ⟨rfl, rfl⟩
    have hprobed {e : Override} {x : State} (h : Pushes e y x) : probeAbandoned (timeAfter t s) s (finish (advance t s) x) := by
      have hf := h.filter
      have hh := h.hold
      rw [hfilter, hnow] at hf
      rw [hfilter, hprobe] at hh
      exact probeAbandoned_of (by simpa using hf) ((congrArg FanRec.probeHold (finish_fan_steady _ x)).trans hh)
    rw [hlength]
    refine ⟨?_, ?_, fun hrest hon hlt => ?_, fun hshort => ?_, fun hlong hlt => ?_⟩
    · exact (congrArg ControlRec.boostStage (finish_ctl_steady _ _)).trans (by simpa [ControlRec.steady] using hyctl.1)
    · exact (congrArg ControlRec.boostStart (finish_ctl_steady _ _)).trans (by simpa [ControlRec.steady] using hyctl.2)
    · have hacts : pressOf (timeAfter t s - b) y = shortPress y ∨ pressOf (timeAfter t s - b) y = longPress y := by
        unfold pressOf
        rw [if_pos hlt]
        split
        · exact .inl rfl
        · exact .inr rfl
      rcases hacts with h | h
      all_goals
        rw [h, finish_seq]
        exact wakeByGesture_rejoin (by simp [hstate, hrest]) (by simp [hcfg, hon])
    · obtain ⟨hremoved, hpushed⟩ := shortPress_acts y
      have hact : pressOf (timeAfter t s - b) y = shortPress y := if_pos hshort
      rw [hstands, hown, hstack] at hremoved
      rw [hstands, hown, hclass, hnow, hcfg] at hpushed
      rw [hact]
      refine ⟨by simp [hline], fun h => by simpa using hremoved h, fun h => ⟨?_, hprobed (hpushed h)⟩⟩
      have hpush := (hpushed h).stack
      rw [hstack] at hpush
      simpa [localBoostLevel] using hpush
    · obtain ⟨hpending, hremoved, hpushed⟩ := longPress_acts y
      have hact : pressOf (timeAfter t s - b) y = longPress y := by
        rw [pressOf, if_neg (Nat.not_lt.mpr hlong), if_pos hlt]
      have hbody : (finish (advance t s) (longPress y)).line.boostBody = (longPress y).line.boostBody := by
        have h := congrArg LineRec.boostBody (finish_line_steady (advance t s) (longPress y))
        exact h
      rw [hstands, hown, hstack, hcfg] at hremoved
      rw [hstands, hown, hnow, hcfg] at hpushed
      rw [hact, hbody]
      refine ⟨by simpa using hpending, fun h => by simpa using hremoved h, fun h => ?_⟩
      obtain ⟨hpush, hcall⟩ := hpushed h
      have hpushStack := hpush.stack
      rw [hstack] at hpushStack
      exact ⟨by simpa using hpushStack, hprobed hpush, hcall⟩
  · simp

/-! ## The switches -/

theorem held_setHouse (h : HouseMode) (s : State) :
    held (setHouse h s) = { held s with
      house := h
      requested := if s.house.mode = h.mode then s.demand.requested
        else topLevel s.demand.stack (ConfigRecord.level s.cfg h.mode)
      active := if s.house.mode = h.mode then s.demand.active
        else min s.demand.active (topLevel s.demand.stack (ConfigRecord.level s.cfg h.mode)) } := by
  unfold setHouse
  dsimp only
  split
  · rfl
  · unfold reformLevels
    rw [wantedLevel_eq]
    rfl

/-- R145: a house mode record originated here, and its MODE call. -/
theorem held_originateHere (s : State) :
    held (originateHere s) = { held (setHouse ⟨originMode s, s.ctl.summerOn, s.house.stamp + 1, ownNumber s⟩ s) with
      house := ⟨originMode s, s.ctl.summerOn, s.house.stamp + 1, ownNumber s⟩
      line := { s.line.steady.request .mode with
        modeBody := some ⟨originMode s, s.ctl.summerOn, s.house.stamp + 1, ownNumber s⟩ } } := by
  generalize hrecord : (⟨originMode s, s.ctl.summerOn, s.house.stamp + 1, ownNumber s⟩ : HouseMode) = h
  have hhouse : (setHouse h s).house = h := congrArg Held.house (held_setHouse h s)
  have hline : (setHouse h s).line = s.line := by simp
  unfold originateHere originate queueMode
  rw [hrecord, hhouse, hline]
  rfl

/-- A taken position originates a record, and may wake a resting station. -/
theorem held_takePosition (m : Mode) (s : State) :
    held (takePosition m s) = { held (originateHere { s with ctl := { s.ctl with modeTaken := some m } }) with
      seq := (takePosition m s).seq } := by
  unfold takePosition
  dsimp only
  split
  · rw [wake, held_restExit]
  · rfl

theorem takePosition_rejoin {m : Mode} {s : State} (hrest : s.seq.state = .rest) (hon : s.cfg.wake.modeSwitch = true) :
    (takePosition m s).seq.rejoin.isSome = true := by
  unfold takePosition
  dsimp only
  rw [if_pos (by simpa using hon)]
  exact (restExit_rejoin (by simpa using hrest)).2

/-- Settles O56: the switches originate a record, and a pair that shows nothing new moves nothing. -/
theorem switchesOriginate : Obligations.SwitchesOriginate := by
  intro t s hr hstarted
  have hon : started (advance t s) = true := by simp [started, hstarted]
  refine ⟨fun v hnew => ?_, fun a b m hfitted hpos hother => ?_, fun a b hsame => ?_, fun v hnew => ?_, fun v hnew => ?_,
    fun hstage hlevel => ?_, fun hlevel hstage => ?_⟩
  · have heffect := effectOf_debounce (c := .summer) (v := v) (t := t) hstarted hnew
    have hafter : held (finish (advance t s) (summerLevel v (setLevel .summer v (advance t s)))) = _ :=
      (held_finish _ _).trans (held_originateHere _)
    rw [held_setHouse] at hafter
    refine ⟨_, exec_eq_finish (c := .debounce .summer v t) rfl hr heffect, ?_⟩
    simp only [levelChanged]
    have hhouse := congrArg Held.house hafter
    refine ⟨hhouse, ?_, ?_, ?_, by simp, by simp, by simp, by simp, by simp⟩
    · exact congrArg Held.ctl hafter
    · have h := congrArg (fun y : Held => y.line.modeSlot.pending) hafter
      exact h
    · have h := congrArg (fun y : Held => y.line.modeBody) hafter
      exact h.trans (congrArg some hhouse.symm)
  · have hsome : newPosition a b (advance t s) = some m := by
      simp [newPosition, hon, hfitted, hpos, Ne.symm hother]
    have heffect : effectOf (.modePositionTaken a b t) (advance t s) = takePosition m (advance t s) := by
      show takePair a b (advance t s) = _
      rw [takePair, hsome]
    have hafter : held (finish (advance t s) (takePosition m (advance t s))) = _ :=
      (held_finish _ _).trans (held_takePosition _ _)
    rw [held_originateHere, held_setHouse] at hafter
    have horigin : originMode { advance t s with ctl := { (advance t s).ctl with modeTaken := some m } } = m := by
      simp [originMode, hfitted]
    simp only [horigin] at hafter
    have hhouse := congrArg Held.house hafter
    refine ⟨_, exec_eq_finish (c := .modePositionTaken a b t) rfl hr heffect, hhouse, congrArg Held.ctl hafter, ?_, ?_,
      fun hne => ?_, fun hrest hwake => ?_, by simp, by simp, by simp, by simp⟩
    · have h := congrArg (fun y : Held => y.line.modeSlot.pending) hafter
      exact h
    · have h := congrArg (fun y : Held => y.line.modeBody) hafter
      exact h.trans (congrArg some hhouse.symm)
    · exact (congrArg Held.requested hafter).trans (if_neg (Ne.symm hne))
    · rw [finish_seq]
      exact takePosition_rejoin hrest hwake
  · have hnone : newPosition a b (advance t s) = none := by
      unfold newPosition
      rcases hsame with h | h
      · simp [h]
      · simp [h]
    have heffect : effectOf (.modePositionTaken a b t) (advance t s) = advance t s := by
      show takePair a b (advance t s) = _
      rw [takePair, hnone]
    exact ⟨_, exec_eq_finish (c := .modePositionTaken a b t) rfl hr heffect, (held_finish _ _).trans rfl⟩
  · have heffect := effectOf_debounce (c := .mode1) (v := v) (t := t) hstarted hnew
    exact ⟨_, exec_eq_finish (c := .debounce .mode1 v t) rfl hr heffect, (held_finish _ _).trans rfl⟩
  · have heffect := effectOf_debounce (c := .mode0) (v := v) (t := t) hstarted hnew
    exact ⟨_, exec_eq_finish (c := .debounce .mode0 v t) rfl hr heffect, (held_finish _ _).trans rfl⟩
  · have heffect := effectOf_debounce (c := .filter) (v := .low) (t := t) hstarted (by simp [LineLevels.get, hlevel])
    have hpress : levelChanged .filter .low (setLevel .filter .low (advance t s))
        = setFilterStage .pressed (some (timeAfter t s)) (setLevel .filter .low (advance t s)) := by
      have h : (setLevel .filter .low (advance t s)).ctl.filterStage = .released := hstage
      simp [levelChanged, filterLevel, h, timeAfter]
    exact ⟨_, exec_eq_finish (c := .debounce .filter .low t) rfl hr (heffect.trans hpress), (held_finish _ _).trans rfl⟩
  · have heffect := effectOf_debounce (c := .filter) (v := .high) (t := t) hstarted (by simp [LineLevels.get, hlevel])
    have hfreed : levelChanged .filter .high (setLevel .filter .high (advance t s))
        = setFilterStage .released none (setLevel .filter .high (advance t s)) := by
      have h : (setLevel .filter .high (advance t s)).ctl.filterStage = s.ctl.filterStage := rfl
      cases hs : s.ctl.filterStage
      case released => exact absurd hs hstage
      all_goals simp [levelChanged, filterLevel, h, hs]
    exact ⟨_, exec_eq_finish (c := .debounce .filter .high t) rfl hr (heffect.trans hfreed), (held_finish _ _).trans rfl⟩

end Sys2Proof.Proofs

/-! The frost guard: the order to the sequencer, the forced test and the want test, each said once. -/

namespace Sys2Proof.Proofs

open Sys2Proof.Machine

/-! ## What the sequencer makes of an order -/

/-- `x` is `s` but for the sequencer's record, the melt step, the filter record and the drive. -/
def Ordered (s x : State) : Prop :=
  held x = { held s with
    seq := x.seq, frost := { s.frost with meltStepEnd := x.frost.meltStepEnd }, filter := x.filter, fan := x.fan.steady }

theorem ordered_of {s x : State} {q : SeqRec} {f : FrostRec} {p : FilterRec} {d : FanRec}
    (h : held x = { held s with seq := q, frost := f, filter := p, fan := d })
    (hf : f = { s.frost with meltStepEnd := f.meltStepEnd }) : Ordered s x := by
  obtain ⟨h1, h2, h3, h4⟩ : x.seq = q ∧ x.frost = f ∧ x.filter = p ∧ x.fan.steady = d :=
    ⟨congrArg Held.seq h, congrArg Held.frost h, congrArg Held.filter h, congrArg Held.fan h⟩
  unfold Ordered
  rw [h, h1, h2, h3, h4, ← hf]

theorem ordered_refl (s : State) : Ordered s s := rfl

theorem Ordered.frost {s x : State} (h : Ordered s x) : x.frost = { s.frost with meltStepEnd := x.frost.meltStepEnd } :=
  congrArg Held.frost h

theorem Ordered.line {s x : State} (h : Ordered s x) : x.line.steady = s.line.steady := congrArg Held.line h

theorem Ordered.stack {s x : State} (h : Ordered s x) : x.demand.stack = s.demand.stack := congrArg Held.stack h

theorem held_enterDirect {st : SeqState} {s : State} (hrest : st ≠ .rest) (hstop : st ≠ .stopped)
    (hold : s.seq.state ≠ .rest) :
    held (enterDirect st s) = { held s with
      seq := { s.seq with state := st }
      frost := frostAfterSeq st s.seq.state s.now s.frost
      filter := (enterDirect st s).filter
      fan := (enterDirect st s).fan.steady } := by
  have h := held_changeSeq_running (q := { s.seq with state := st }) (s := s) hrest hstop hold
  have hfilter : (enterDirect st s).filter = _ := congrArg Held.filter h
  have hfan : (enterDirect st s).fan.steady = _ := congrArg Held.fan h
  rw [hfilter, hfan]
  exact h

/-- A change between running states moves only the melt step of the frost guard's record. -/
theorem frostAfterSeq_melt {new old : SeqState} {n : Time} {f : FrostRec} (hrest : new ≠ .rest) (hstop : new ≠ .stopped) :
    frostAfterSeq new old n f = { f with meltStepEnd := (frostAfterSeq new old n f).meltStepEnd } := by
  unfold frostAfterSeq
  rw [if_neg fun h => hstop h.1]
  split
  · split
    · rfl
    · rw [if_neg fun h => hrest h.1]
      split <;> rfl
  · rfl

theorem ordered_enterDirect {st : SeqState} {s : State} (hrest : st ≠ .rest) (hstop : st ≠ .stopped)
    (hold : s.seq.state ≠ .rest) : Ordered s (enterDirect st s) :=
  ordered_of (held_enterDirect hrest hstop hold) (frostAfterSeq_melt hrest hstop)

theorem ordered_beginReversing {g : Target} {s : State} (hold : s.seq.state ≠ .rest) : Ordered s (beginReversing g s) := by
  have h := held_beginReversing g s
  rw [if_neg hold] at h
  exact ordered_of h (frostAfterSeq_melt (by decide) (by decide))

theorem ordered_retarget {g : Target} {s : State} (hstate : s.seq.state = .reversing) : Ordered s (retarget g s) := by
  cases ht : s.seq.target
  case none => rw [retarget, ht]; exact ordered_refl s
  case some h => exact ordered_of (f := s.frost) (held_retarget hstate ht) rfl

/-- R25: an order to defrost. -/
theorem ordered_takeDefrostOrder (s : State) : Ordered s (takeDefrostOrder s) := by
  unfold takeDefrostOrder
  split
  case h_1 h => exact ordered_enterDirect (by decide) (by decide) (by simp [h])
  case h_2 h => exact ordered_beginReversing (by simp [h])
  case h_3 h =>
    split
    · exact ordered_enterDirect (by decide) (by decide) (by simp [h])
    · exact ordered_beginReversing (by simp [h])
  case h_4 h => exact ordered_retarget h
  case h_5 h => exact ordered_of (f := s.frost) (q := { s.seq with defrostResume := true }) rfl rfl
  case h_6 => exact ordered_refl s

/-! ## The order to defrost -/

/-- The state in which the frost guard orders the defrost of the sequencer. -/
def ordering (s : State) : State :=
  { clearContention (setStage .defrosting s) with
    frost := { (clearContention (setStage .defrosting s)).frost with defrostStart := some s.now } }

theorem orderDefrost_eq {s : State} (h : s.seq.state.refusesDefrost = false) :
    orderDefrost s = takeDefrostOrder (ordering s) := if_neg (by simp [h])

theorem orderDefrost_refused {s : State} (h : s.seq.state.refusesDefrost = true) :
    orderDefrost s = withdraw (stageByAccount s.frost.account) s := if_pos h

theorem ordering_frost (s : State) : (ordering s).frost = { s.frost with
    stage := .defrosting, windowEnd := none, contentionStart := none, entryAccount := none
    defrostStart := some s.now } := by
  simp [ordering, clearContention, setStage_frost]

@[simp] theorem ordering_seq (s : State) : (ordering s).seq = s.seq := by simp [ordering]

theorem held_ordering (s : State) :
    held (ordering s) = { held s with
      frost := (ordering s).frost, filter := (ordering s).filter, fan := (ordering s).fan.steady } := by
  have h := held_setStage .defrosting s
  have hfilter : (ordering s).filter = (setStage .defrosting s).filter := rfl
  have hfan : (ordering s).fan = (setStage .defrosting s).fan := rfl
  have hordering : held (ordering s) = { held (setStage .defrosting s) with frost := (ordering s).frost } := rfl
  have hf : (setStage .defrosting s).filter = _ := congrArg Held.filter h
  have hd : (setStage .defrosting s).fan.steady = _ := congrArg Held.fan h
  rw [hordering, hfilter, hfan, hf, hd, h]

/-- R76, R84: the frost guard's record after an order that the sequencer takes. -/
theorem orderDefrost_frost {s : State} (h : s.seq.state.refusesDefrost = false) :
    (orderDefrost s).frost = { s.frost with
      stage := .defrosting, windowEnd := none, contentionStart := none, entryAccount := none
      defrostStart := some s.now, meltStepEnd := (orderDefrost s).frost.meltStepEnd } := by
  have hfrost := (ordered_takeDefrostOrder (ordering s)).frost
  rw [orderDefrost_eq h, hfrost, ordering_frost]

/-- What an order leaves of the line and the stack. -/
theorem orderDefrost_line {s : State} (h : s.seq.state.refusesDefrost = false) :
    (orderDefrost s).line.steady = s.line.steady ∧ (orderDefrost s).demand.stack = s.demand.stack := by
  rw [orderDefrost_eq h]
  exact ⟨(ordered_takeDefrostOrder _).line.trans (congrArg Held.line (held_ordering s)),
    (ordered_takeDefrostOrder _).stack.trans (congrArg Held.stack (held_ordering s))⟩

/-! ## The forced test -/

/-- R83: the state in which a forced defrost is ordered. -/
def forced (s : State) : State :=
  { clearContention (queueNotice .enter true s) with
    frost := { (clearContention (queueNotice .enter true s)).frost with lockoutEnd := none } }

theorem forcedTest_forced {s : State} (h : forcedHolds s = true) : forcedTest s = orderDefrost (forced s) := if_pos h

theorem forcedTest_idle {s : State} (h : forcedHolds s = false) : forcedTest s = s := if_neg (by simp [h])

theorem forcedHolds_iff (s : State) : forcedHolds s = true ↔ 3200 ≤ s.frost.account ∧ s.frost.stage ≠ .defrosting
    ∧ s.frost.stage ≠ .blind ∧ s.seq.state.refusesDefrost = false := by
  simp [forcedHolds, and_assoc]

theorem forcedHolds_low {s : State} (h : s.frost.account < 3200) : forcedHolds s = false := by
  rw [← Bool.not_eq_true, forcedHolds_iff]
  omega

/-- What a forced defrost makes of the frost guard's record and of the notice's slot. -/
theorem forcedTest_frost {s : State} (h : forcedHolds s = true) :
    (forcedTest s).frost = { s.frost with
      stage := .defrosting, notice := some ⟨.enter, true⟩, windowEnd := none, contentionStart := none
      entryAccount := none, lockoutEnd := none, defrostStart := some s.now
      meltStepEnd := (forcedTest s).frost.meltStepEnd }
    ∧ (forcedTest s).line.defrostSlot.pending = true ∧ (forcedTest s).demand.stack = s.demand.stack := by
  have htakes : (forced s).seq.state.refusesDefrost = false := ((forcedHolds_iff s).mp h).2.2.2
  obtain ⟨hline, hstack⟩ := orderDefrost_line htakes
  rw [forcedTest_forced h]
  refine ⟨orderDefrost_frost htakes, ?_, hstack⟩
  have hslot := congrArg (fun l => l.defrostSlot.pending) hline
  exact hslot

/-! ## The want test -/

theorem wantHolds_iff (s : State) : wantHolds s = true ↔ 1600 ≤ s.frost.account
    ∧ (s.frost.stage = .limiting ∨ s.frost.stage = .deferred) ∧ s.seq.state.skipsWant = false ∧ s.seq.settling = 0 := by
  simp [wantHolds, and_assoc]

theorem skipsWant_iff (q : SeqState) :
    q.skipsWant = true ↔ q = .rest ∨ q = .starting ∨ q = .listen ∨ q = .stopped ∨ q = .paused := by
  cases q <;> decide

theorem refusesDefrost_iff (q : SeqState) :
    q.refusesDefrost = true ↔ q = .rest ∨ q = .starting ∨ q = .listen ∨ q = .stopped := by
  cases q <;> decide

theorem takesDefrost_of_wants {q : SeqState} (h : q.skipsWant = false) : q.refusesDefrost = false := by
  cases q <;> simp_all [SeqState.skipsWant, SeqState.refusesDefrost]

theorem wantTest_idle {s : State} (h : wantHolds s = false) : wantTest s = s := if_neg (by simp [h])

/-- A move to another stage below the forced limit. -/
theorem moveStage_low {st : FrostStage} {s : State} (hlow : s.frost.account < 3200) :
    moveStage st s = if s.frost.stage = st then s else setStage st s := by
  unfold moveStage
  rw [forcedTest_idle (forcedHolds_low (by simpa using hlow))]

theorem held_moveStage_low {st : FrostStage} {s : State} (hlow : s.frost.account < 3200) (hclear : s.frost.stage ≠ .clear) :
    held (moveStage st s) = { held s with frost := { s.frost with stage := st } } := by
  rw [moveStage_low hlow]
  split
  case isTrue h => rw [← h]; rfl
  case isFalse => exact held_setStage_of_ne st hclear

/-- R79: the station begins to contend. -/
theorem held_contend {s : State} (hlow : s.frost.account < 3200) (hclear : s.frost.stage ≠ .clear) :
    held (contend s) = { held s with
      frost := { s.frost with
        stage := .contending, notice := some ⟨.enter, false⟩, contentionStart := some s.now, entryAccount := none
        windowEnd := none }
      line := s.line.steady.request .defrost } := by
  exact (held_moveStage_low (st := .contending) (s := { queueNotice .enter false s with
    frost := { (queueNotice .enter false s).frost with
      contentionStart := some s.now, entryAccount := none, windowEnd := none } }) hlow hclear).trans rfl

/-- R78: what the want test comes to below the forced limit with LINE clear. -/
theorem held_wantTest_clear {s : State} (hwant : wantHolds s = true) (hlow : s.frost.account < 3200)
    (hline : s.line.active = false) :
    held (wantTest s) = if placesInUse s < s.cfg.allowance then { held s with
        frost := { s.frost with
          stage := .contending, notice := some ⟨.enter, false⟩, contentionStart := some s.now, entryAccount := none
          windowEnd := none }
        line := s.line.steady.request .defrost }
      else { held s with frost := { s.frost with stage := .deferred } } := by
  have hclear : s.frost.stage ≠ .clear := by
    rcases ((wantHolds_iff s).mp hwant).2.1 with h | h <;> simp [h]
  unfold wantTest
  rw [if_pos hwant, if_neg (by simp [hline])]
  split
  · exact held_contend hlow hclear
  · exact held_moveStage_low hlow hclear

theorem wantTest_line {s : State} (hwant : wantHolds s = true) (hline : s.line.active = true) :
    wantTest s = orderDefrost s := by rw [wantTest, if_pos hwant, if_pos hline]

theorem placesInUse_of_eq {s x : State} (hl : x.line.active = s.line.active) (hp : x.peers = s.peers) :
    placesInUse x = placesInUse s := by rw [placesInUse, placesInUse, hl, hp]

/-- The want test, made in a state whose frost guard and sequencer are still those of `s`. -/
theorem wantTestMade_of {t : Time} {s x : State} (m : State) (hfrost : x.frost = s.frost) (hseq : x.seq = s.seq)
    (hcfg : x.cfg = s.cfg) (hactive : x.line.active = s.line.active) (hnow : x.now = timeAfter t s) :
    wantTestMade t s (finish m (wantTest x)) := by
  have hplaces : placesInUse (finish m (wantTest x)) = placesInUse x := placesInUse_of_eq (by simp) (by simp)
  have hwants := wantHolds_iff x
  rw [hfrost, hseq] at hwants
  refine ⟨fun hno => ?_, fun hhigh hlow hstage hsettled h1 h2 h3 h4 h5 => ?_⟩
  · have hnot : wantHolds x = false := by
      rw [← Bool.not_eq_true, hwants, ← Bool.not_eq_true, skipsWant_iff]
      rcases hno with h | h | h | h
      · omega
      · tauto
      · tauto
      · tauto
    rw [wantTest_idle hnot]
    simp [hfrost]
  · have hwant : wantHolds x = true := by
      rw [hwants, ← Bool.not_eq_true, skipsWant_iff]
      exact ⟨hhigh, hstage, by tauto, hsettled⟩
    rw [hplaces, ← hactive, ← hcfg]
    refine ⟨fun hline hfree => ?_, fun hline hfull => ?_, fun hline => ?_⟩
    · have hheld : held (finish m (wantTest x)) = _ :=
        (held_finish _ _).trans (held_wantTest_clear hwant (by rw [hfrost]; exact hlow) hline)
      rw [if_pos hfree, hfrost, hnow] at hheld
      refine ⟨congrArg Held.frost hheld, ?_⟩
      have h := congrArg (fun y : Held => y.line.defrostSlot.pending) hheld
      exact h
    · have hheld : held (finish m (wantTest x)) = _ :=
        (held_finish _ _).trans (held_wantTest_clear hwant (by rw [hfrost]; exact hlow) hline)
      rw [if_neg (Nat.not_lt.mpr hfull), hfrost] at hheld
      exact congrArg Held.frost hheld
    · have htakes : x.seq.state.refusesDefrost = false := takesDefrost_of_wants ((wantHolds_iff x).mp hwant).2.2.1
      have h := orderDefrost_frost htakes
      rw [← wantTest_line hwant hline, hnow] at h
      rw [show (finish m (wantTest x)).frost = (wantTest x).frost by simp]
      exact ⟨congrArg FrostRec.stage h, congrArg FrostRec.defrostStart h⟩

end Sys2Proof.Proofs

/-! The contention for a place: its decision, the line's faults, and the peers' ageing. -/

namespace Sys2Proof.Proofs

open Sys2Proof.Machine

/-! ## The order, by the sequencer's state -/

theorem takeDefrostOrder_direct {s : State}
    (h : s.seq.state = .extract ∨ (s.seq.state = .through ∧ s.lane = .B)) :
    takeDefrostOrder s = enterDirect .defrost s := by
  rcases h with h | ⟨h, hl⟩ <;> simp [takeDefrostOrder, *, summerDirection]

theorem takeDefrostOrder_reversal {s : State}
    (h : s.seq.state = .supply ∨ (s.seq.state = .through ∧ s.lane = .A)) :
    takeDefrostOrder s = beginReversing .defrost s := by
  rcases h with h | ⟨h, hl⟩ <;> simp [takeDefrostOrder, *, summerDirection]

theorem takeDefrostOrder_retarget {s : State} (h : s.seq.state = .reversing) :
    takeDefrostOrder s = retarget .defrost s := by simp [takeDefrostOrder, h]

theorem takeDefrostOrder_paused {s : State} (h : s.seq.state = .paused) :
    takeDefrostOrder s = { s with seq := { s.seq with defrostResume := true } } := by simp [takeDefrostOrder, h]

/-- A defrost entered at once begins its first melt step. -/
theorem enterDirect_melt {s : State} (hstage : s.frost.stage = .defrosting) (hrest : s.seq.state ≠ .rest)
    (hdefrost : s.seq.state ≠ .defrost) :
    (enterDirect .defrost s).frost.meltStepEnd = some (s.now + seconds 10) := by
  have h : (enterDirect .defrost s).frost = _ := congrArg Held.frost (held_enterDirect (by decide) (by decide) hrest)
  rw [h]
  simp [frostAfterSeq, hstage, hdefrost]

theorem retarget_same {g : Target} {s : State} (ht : s.seq.target = some g) : retarget g s = s := by
  simp [retarget, ht]

/-- A reversal in SPINUP that turns begins RUNDOWN anew, with the drive at 0. -/
theorem retarget_spinup {g h : Target} {s : State} (ht : s.seq.target = some h) (hp : s.seq.phase = some .spinup)
    (hd : g.direction s.lane ≠ h.direction s.lane) : (retarget g s).fan.driveOutput = 0 ∧ (retarget g s).fan.holdEnd = none := by
  have hne : g ≠ h := fun e => hd (by rw [e])
  have hturn : retarget g s = enterRundown g (replaceTarget g s) := by
    unfold retarget
    rw [ht]
    dsimp only
    rw [if_neg hne, if_neg hd, hp]
  rw [hturn]
  unfold enterRundown
  dsimp only
  split <;> exact ⟨rfl, rfl⟩

/-- R26: an order to defrost during a reversal. -/
theorem retarget_defrost {s : State} (hstate : s.seq.state = .reversing) :
    (s.seq.target = some .defrost → retarget .defrost s = s)
    ∧ (s.seq.target = some .extract ∨ (s.seq.target = some .through ∧ s.lane = .B) →
      (retarget .defrost s).seq = { s.seq with target := some .defrost }
      ∧ (retarget .defrost s).fan.direction = s.fan.direction)
    ∧ (s.seq.target = some .supply ∨ (s.seq.target = some .through ∧ s.lane = .A) →
      (s.seq.phase = some .rundown →
        (retarget .defrost s).seq = { s.seq with target := some .defrost }
        ∧ (retarget .defrost s).fan.direction = s.fan.direction)
      ∧ (s.seq.phase = some .switch →
        (retarget .defrost s).seq = { s.seq with target := some .defrost, phaseStart := some s.now }
        ∧ (retarget .defrost s).fan.direction = .extract)
      ∧ (s.seq.phase = some .spinup →
        (retarget .defrost s).seq = { s.seq with
          target := some .defrost, phase := some (firstPhase s.fan.speed), phaseStart := some s.now }
        ∧ (retarget .defrost s).fan.driveOutput = 0 ∧ (retarget .defrost s).fan.holdEnd = none
        ∧ (retarget .defrost s).fan.direction = (if s.fan.speed < 300 then .extract else s.fan.direction))) := by
  have hfan {h : Target} (ht : s.seq.target = some h) : (retarget .defrost s).fan.direction
      = (if Target.direction s.lane .defrost = h.direction s.lane then s.fan.steady
          else turnedToward s.seq.phase (Target.direction s.lane .defrost) s.fan.steady).direction :=
    congrArg (fun y : Held => y.fan.direction) (held_retarget hstate ht)
  refine ⟨retarget_same, fun h => ?_, fun h => ?_⟩
  · obtain ⟨g, ht, hd⟩ : ∃ g, s.seq.target = some g ∧ Target.direction s.lane .defrost = g.direction s.lane := by
      rcases h with h | ⟨h, hl⟩
      · exact ⟨_, h, rfl⟩
      · exact ⟨_, h, by rw [hl]; rfl⟩
    have hdirection := hfan ht
    rw [if_pos hd] at hdirection
    exact ⟨by rw [retarget_seq ht, if_pos (.inl hd)], hdirection⟩
  · obtain ⟨g, ht, hd⟩ : ∃ g, s.seq.target = some g ∧ Target.direction s.lane .defrost ≠ g.direction s.lane := by
      rcases h with h | ⟨h, hl⟩
      · exact ⟨_, h, by simp [Target.direction]⟩
      · exact ⟨_, h, by rw [hl]; decide⟩
    have hdirection := hfan ht
    rw [if_neg hd] at hdirection
    refine ⟨fun hp => ?_, fun hp => ?_, fun hp => ?_⟩
    · rw [hp] at hdirection
      exact ⟨by rw [retarget_seq ht, if_pos (.inr (.inr hp))], hdirection⟩
    · rw [hp] at hdirection
      refine ⟨?_, hdirection⟩
      rw [retarget_seq ht, if_neg (by simp [hd, hp]), hp]
      simp [phaseTurned, hp]
    · rw [hp] at hdirection
      obtain ⟨hout, hhold⟩ := retarget_spinup ht hp hd
      refine ⟨?_, hout, hhold, hdirection⟩
      rw [retarget_seq ht, if_neg (by simp [hd, hp]), hp]
      rfl

/-! ## The decision -/

/-- The state in which a contention is decided. -/
def decided (s : State) : State := { s with frost := { s.frost with windowEnd := none } }

theorem decideWindow_eq (s : State) :
    decideWindow s = if s.seq.state.refusesDefrost then withdraw (stageByAccount s.frost.account) (decided s)
      else if precedenceCount s < s.cfg.allowance then orderDefrost (decided s)
      else forcedTest (withdraw .deferred (decided s)) := rfl

/-- The counts of the places, said of the peers one by one. -/
theorem precedenceCount_eq {s : State} {start : Time} {entry : Nat} (hl : s.line.active = false)
    (hs : s.frost.contentionStart = some start) (he : s.frost.entryAccount = some entry) :
    precedenceCount s = s.peers.countP (fun p => match p.defrost with
      | none => false
      | some d => decide (p.fresh = true ∧ (d.standing = .defrosting ∨ (d.standing = .contending
          ∧ (d.forced = true ∨ d.time < start ∨ entry < d.account
            ∨ (d.account = entry ∧ p.number < ownNumber s)))))) := by
  rw [precedenceCount, if_neg (by simp [hl]), ← List.countP_eq_length_filter, hs, he]
  refine List.countP_congr fun p _ => ?_
  cases p.defrost
  case none => simp
  case some d => cases h : d.standing <;> simp [DefrostPart.precedes, h, or_assoc]

theorem placesInUse_eq {s : State} (hl : s.line.active = false) :
    placesInUse s = s.peers.countP (fun p => decide (p.fresh = true
      ∧ (standingOf p.defrost = .contending ∨ standingOf p.defrost = .defrosting))) := by
  rw [placesInUse, if_neg (by simp [hl]), ← List.countP_eq_length_filter]
  refine List.countP_congr fun p _ => ?_
  cases hd : p.defrost
  case none => simp [PeerRec.usesPlace, standingOf, hd]
  case some d => cases h : d.standing <;> simp [PeerRec.usesPlace, standingOf, h, hd]

theorem withdraw_stack (st : FrostStage) (s : State) : (withdraw st s).demand.stack = s.demand.stack := by
  have h := congrArg Held.stack (held_setStage st (clearContention (queueNotice .withdraw false s)))
  exact h

theorem orderDefrost_stack (s : State) : (orderDefrost s).demand.stack = s.demand.stack := by
  cases h : s.seq.state.refusesDefrost
  · exact (orderDefrost_line h).2
  · rw [orderDefrost_refused h, withdraw_stack]

theorem forcedTest_stack (s : State) : (forcedTest s).demand.stack = s.demand.stack := by
  cases h : forcedHolds s
  · rw [forcedTest_idle h]
  · exact (forcedTest_frost h).2.2

theorem decideWindow_stack (s : State) : (decideWindow s).demand.stack = s.demand.stack := by
  rw [decideWindow_eq]
  split
  · exact withdraw_stack _ _
  · split
    · exact orderDefrost_stack _
    · rw [forcedTest_stack, withdraw_stack]
      rfl

/-- Settles O40: the contention is decided by the count of those that precede. -/
theorem contentionIsDecided : Obligations.ContentionIsDecided := by
  refine ⟨fun t e s hr hstage hend hover => ?_, refusesDefrost_iff, fun s => ⟨fun hl => ?_, placesInUse_eq,
    fun start entry => precedenceCount_eq⟩⟩
  · have hdue : windowOver (advance t s) = true := by
      have hreached : reached (advance t s).frost.windowEnd (advance t s).now = true := (reached_iff _ _).mpr ⟨e, hend, hover⟩
      simp only [windowOver, hreached, Bool.and_true, decide_eq_true_eq]
      exact hstage
    have heffect : effectOf (.contentionWindowEnd t) (advance t s) = decideWindow (advance t s) := if_pos hdue
    have hclear : (decided (advance t s)).frost.stage ≠ .clear := by
      have h : (decided (advance t s)).frost.stage = s.frost.stage := rfl
      rw [h, hstage]; decide
    have hcase := decideWindow_eq (advance t s)
    have hcount : precedenceCount (advance t s) = precedenceCount s := rfl
    have hcfg : (advance t s).cfg = s.cfg := rfl
    have hseq : (advance t s).seq = s.seq := rfl
    have hdeferred : held (withdraw .deferred (decided (advance t s))) = _ := held_withdraw .deferred hclear
    rw [hcount, hcfg, hseq] at hcase
    refine ⟨_, exec_eq_finish (c := .contentionWindowEnd t) rfl hr heffect, fun hrefuses => ?_, fun htakes hfull hlow => ?_,
      fun htakes hfull hhigh => ?_, fun htakes hfree => ?_, by simp, by simp, by simp, by simp, by simp, by simp, ?_, by simp,
      by simp⟩
    · rw [if_pos hrefuses] at hcase
      rw [held_finish, hcase, held_withdraw _ hclear]
      rfl
    · rw [if_neg (by simp [htakes]), if_neg (Nat.not_lt.mpr hfull)] at hcase
      rw [held_finish, hcase, forcedTest_idle (forcedHolds_low (by simpa [decided] using hlow)), hdeferred]
      rfl
    · rw [if_neg (by simp [htakes]), if_neg (Nat.not_lt.mpr hfull)] at hcase
      have hxnow : (withdraw .deferred (decided (advance t s))).now = timeAfter t s := by simp [decided]
      generalize withdraw .deferred (decided (advance t s)) = x at hcase hdeferred hxnow
      have hxfrost : x.frost = _ := congrArg Held.frost hdeferred
      have hxstage : x.frost.stage = .deferred := congrArg FrostRec.stage hxfrost
      have hxaccount : x.frost.account = s.frost.account := (congrArg FrostRec.account hxfrost).trans rfl
      have hxseq : x.seq = s.seq := congrArg Held.seq hdeferred
      have hforced : forcedHolds x = true := by
        rw [forcedHolds_iff, hxstage, hxaccount, hxseq]
        exact ⟨hhigh, by decide, by decide, htakes⟩
      obtain ⟨hfrost, hslot, -⟩ := forcedTest_frost hforced
      have hdefrost : (finish (advance t s) (forcedTest x)).frost = (forcedTest x).frost := by simp
      have hpending : (finish (advance t s) (forcedTest x)).line.defrostSlot = (forcedTest x).line.defrostSlot := by
        have h := congrArg LineRec.defrostSlot (finish_line_steady (advance t s) (forcedTest x))
        exact h
      rw [hcase, hdefrost, hpending, ← hxnow, ← hxaccount]
      exact ⟨congrArg FrostRec.stage hfrost, congrArg FrostRec.notice hfrost, hslot, congrArg FrostRec.defrostStart hfrost,
        (congrArg FrostRec.account hfrost).trans rfl⟩
    · rw [if_neg (by simp [htakes]), if_pos hfree] at hcase
      have hmtakes : (decided (advance t s)).seq.state.refusesDefrost = false := htakes
      have hfrost := orderDefrost_frost hmtakes
      rw [hcase, finish_seq]
      have hframe : (finish (advance t s) (orderDefrost (decided (advance t s)))).frost = (orderDefrost (decided (advance t s))).frost := by
        simp
      have hdirection : (finish (advance t s) (orderDefrost (decided (advance t s)))).fan.direction
          = (orderDefrost (decided (advance t s))).fan.direction := by simp
      have hout : (finish (advance t s) (orderDefrost (decided (advance t s)))).fan.driveOutput
          = (orderDefrost (decided (advance t s))).fan.driveOutput := by simp
      have hhold : (finish (advance t s) (orderDefrost (decided (advance t s)))).fan.holdEnd
          = (orderDefrost (decided (advance t s))).fan.holdEnd := by simp
      rw [hframe, hdirection, hout, hhold]
      refine ⟨hfrost, ?_⟩
      rw [orderDefrost_eq hmtakes]
      have hxseq : (ordering (decided (advance t s))).seq = s.seq := by simp [decided]
      have hxstage : (ordering (decided (advance t s))).frost.stage = .defrosting := by rw [ordering_frost]
      have hxnow : (ordering (decided (advance t s))).now = timeAfter t s := by simp [ordering, decided]
      have hxlane : (ordering (decided (advance t s))).lane = s.lane := by simp [ordering, decided]
      have hxspeed : (ordering (decided (advance t s))).fan.speed = s.fan.speed := by simp [ordering, decided]
      have hxdirection : (ordering (decided (advance t s))).fan.direction = s.fan.direction := by simp [ordering, decided]
      generalize ordering (decided (advance t s)) = x at *
      rw [← hxseq, ← hxnow, ← hxlane, ← hxspeed, ← hxdirection]
      refine ⟨fun h => ?_, fun h => ?_, fun h hl => ?_, fun h hl => ?_, fun h => ?_, fun h => ?_⟩
      · rw [takeDefrostOrder_direct (.inl h)]
        exact ⟨enterDirect_seq _ _, enterDirect_melt hxstage (by simp [h]) (by simp [h])⟩
      · rw [takeDefrostOrder_reversal (.inl h)]
        exact ⟨by simp [beginReversing_seq], by simp [beginReversing_seq], by simp⟩
      · rw [takeDefrostOrder_direct (.inr ⟨h, hl⟩)]
        exact ⟨enterDirect_seq _ _, enterDirect_melt hxstage (by simp [h]) (by simp [h])⟩
      · rw [takeDefrostOrder_reversal (.inr ⟨h, hl⟩)]
        exact ⟨by simp [beginReversing_seq], by simp⟩
      · rw [takeDefrostOrder_retarget h]
        obtain ⟨hsame, halong, hacross⟩ := retarget_defrost h
        exact ⟨fun ht => by rw [hsame ht]; exact ⟨rfl, rfl⟩, halong, hacross⟩
      · rw [takeDefrostOrder_paused h]
    · rw [show (finish (advance t s) (decideWindow (advance t s))).demand.stack = (decideWindow (advance t s)).demand.stack by simp]
      exact decideWindow_stack _
  · simp [precedenceCount, placesInUse, hl]

end Sys2Proof.Proofs

/-! The peers' ageing. -/

namespace Sys2Proof.Proofs

open Sys2Proof.Machine

/-! ## The reference -/

/-- R1, R10: the reference identity once it has been formed again. -/
theorem reformReference_reference_eq (s : State) :
    (reformReference s).clock.reference = if s.seq.state = .starting then s.clock.reference else timingReference s := by
  by_cases h : s.seq.state = .starting
  · rw [if_pos h]
    rcases reformReference_clock_cases s with hk | ⟨hn, -⟩
    · rw [hk]
    · exact absurd h hn
  · rw [if_neg h]
    exact reformReference_reference h

/-- What the forming of the reference leaves of the clock. -/
theorem reformReference_rest (s : State) :
    { (reformReference s).clock with reference := none, heardLength := none }
      = { s.clock with reference := none, heardLength := none } := by
  rcases reformReference_clock_cases s with h | ⟨-, h⟩ <;> rw [h]

theorem timingReference_finish (m x : State) : timingReference (finish m x) = timingReference x :=
  timingReference_of_eq (by simp) (by simp) (by simp) (by simp)

/-! ## The stack after a want test -/

theorem moveStage_stack (st : FrostStage) (s : State) : (moveStage st s).demand.stack = s.demand.stack := by
  unfold moveStage
  split
  · rfl
  · rw [forcedTest_stack]
    exact congrArg Held.stack (held_setStage st s)

theorem wantTest_stack (s : State) : (wantTest s).demand.stack = s.demand.stack := by
  unfold wantTest
  split
  · split
    · exact orderDefrost_stack s
    · split
      · rw [contend, moveStage_stack]
        rfl
      · exact moveStage_stack _ s
  · rfl

theorem reportPlace_stack (freed : Bool) (s : State) : (reportPlace freed s).demand.stack = s.demand.stack := by
  unfold reportPlace
  split
  · exact wantTest_stack s
  · rfl

/-! ## The peers -/

/-- In a table in order the number finds its record. -/
theorem findPeer_of_mem {ps : List PeerRec} {p : PeerRec} (hordered : (ps.map (·.number)).Pairwise (· < ·)) (hp : p ∈ ps) :
    findPeer ps p.number = some p := by
  induction ps with
  | nil => cases hp
  | cons q qs ih =>
    rw [List.map_cons, List.pairwise_cons] at hordered
    rcases List.mem_cons.mp hp with rfl | hmem
    · simp [findPeer]
    · have hless : q.number < p.number := hordered.1 _ (List.mem_map_of_mem hmem)
      have hne : decide (q.number = p.number) = false := decide_eq_false hless.ne
      rw [findPeer, List.find?_cons, hne]
      exact ih hordered.2 hmem

/-- What is due of a record in the table is done with it. -/
theorem ageingEvent_of_mem {due : PeerRec → Time → Bool} {f : PeerRec → State → State} {m : State} {p : PeerRec}
    (hordered : (m.peers.map (·.number)).Pairwise (· < ·)) (hp : p ∈ m.peers) (hdue : due p m.now = true) :
    ageingEvent due f p.number m = f p m := by
  unfold ageingEvent
  rw [findPeer_of_mem hordered hp]
  exact if_pos hdue

/-- A report of a place from a state whose frost guard and sequencer are still those of `s`. -/
theorem reportPlace_made {t : Time} {s x : State} {freed : Bool} (m : State) (hfrost : x.frost = s.frost) (hseq : x.seq = s.seq)
    (hcfg : x.cfg = s.cfg) (hactive : x.line.active = s.line.active) (hnow : x.now = timeAfter t s) :
    (freed = false → (finish m (reportPlace freed x)).frost = s.frost ∧ (finish m (reportPlace freed x)).seq = s.seq)
    ∧ (freed = true → wantTestMade t s (finish m (reportPlace freed x))) := by
  refine ⟨fun h => ?_, fun h => ?_⟩
  · rw [h, reportPlace]
    simp [hfrost, hseq]
  · rw [h, reportPlace, if_pos rfl]
    exact wantTestMade_of m hfrost hseq hcfg hactive hnow

theorem timingReference_reportPlace (m x : State) (freed : Bool) :
    timingReference (finish m (reportPlace freed x)) = timingReference x := by
  rw [timingReference_finish]
  exact timingReference_of_eq (by simp) (by simp) (by simp) (by simp)

/-- Settles O52: a record ages, its place is reported, and the reference is formed again. -/
theorem peersAge : Obligations.PeersAge := by
  intro t s p hr hinv hp
  have hfreed : (decide (standingOf p.defrost ≠ .none) = false ↔ standingOf p.defrost = .none)
      ∧ (decide (standingOf p.defrost ≠ .none) = true ↔ standingOf p.defrost ≠ .none) := by simp
  refine ⟨fun hfresh hold => ?_, fun hold => ?_, fun d hd hstanding hold => ?_⟩
  · have heffect : effectOf (.peerStale p.number t) (advance t s) = makeStale p (advance t s) :=
      ageingEvent_of_mem (m := advance t s) hinv.1 hp (by
        rw [PeerRec.staleDue, hfresh, PeerRec.olderThan, Bool.true_and]
        exact decide_eq_true hold)
    generalize hy : updatePeer p.number (fun x => { x with fresh := false }) (advance t s) = y at *
    have hmade : makeStale p (advance t s) = reportPlace (standingOf p.defrost ≠ .none) (reformReference y) := by rw [← hy]; rfl
    have hpeers : y.peers = s.peers.map (fun x => if x.number = p.number then { x with fresh := false } else x) := by
      rw [← hy]; rfl
    obtain ⟨hkept, hwant⟩ := reportPlace_made (t := t) (s := s) (x := reformReference y)
      (freed := decide (standingOf p.defrost ≠ .none)) (advance t s) (by simp [← hy]) (by simp [← hy]) (by simp [← hy])
      (by simp [← hy]) (by simp [← hy])
    rw [hfreed.1] at hkept
    rw [hfreed.2] at hwant
    refine ⟨_, exec_eq_finish (c := .peerStale p.number t) rfl hr (heffect.trans hmade), ?_, ?_, ?_, hkept, hwant, ?_, ?_,
      ?_, ?_, ?_⟩
    · simp [hpeers]
    · rw [timingReference_reportPlace, timingReference_reformReference]
      simpa [← hy] using reformReference_reference_eq y
    · simp [reportPlace_stack, ← hy]
    · simpa [← hy] using reformReference_rest y
    all_goals simp [← hy]
  · have heffect : effectOf (.peerRemoved p.number t) (advance t s) = removePeer p (advance t s) :=
      ageingEvent_of_mem (m := advance t s) hinv.1 hp (decide_eq_true hold)
    generalize hy : ({ advance t s with peers := (advance t s).peers.filter (fun x => x.number ≠ p.number) } : State) = y
    generalize hx : removeEntry .houseBoost p.number (reformReference y) = x
    have hmade : removePeer p (advance t s) = reportPlace (standingOf p.defrost ≠ .none) x := by rw [← hx, ← hy]; rfl
    have hpeers : x.peers = s.peers.filter (fun x => x.number ≠ p.number) := by rw [← hx, ← hy]; simp
    have hclock : x.clock = (reformReference y).clock := by rw [← hx]; simp
    have hstack : x.demand.stack = without .houseBoost p.number s.demand.stack := by
      rw [← hx, removeEntry_stack, ← hy]; simp
    have htiming : timingReference x = timingReference y := by
      rw [← timingReference_reformReference y, ← hx]
      exact timingReference_of_eq (by simp) (by simp) (by simp) (by simp)
    obtain ⟨hkept, hwant⟩ := reportPlace_made (t := t) (s := s) (x := x) (freed := decide (standingOf p.defrost ≠ .none))
      (advance t s) (by simp [← hx, ← hy]) (by simp [← hx, ← hy]) (by simp [← hx, ← hy]) (by simp [← hx, ← hy])
      (by simp [← hx, ← hy])
    rw [hfreed.1] at hkept
    rw [hfreed.2] at hwant
    refine ⟨_, exec_eq_finish (c := .peerRemoved p.number t) rfl hr (heffect.trans hmade), ?_, ?_, hkept, hwant, ?_, ?_, ?_,
      ?_, ?_, ?_⟩
    · simp [hpeers]
    · simp [reportPlace_stack, hstack]
    · rw [timingReference_reportPlace, htiming]
      simpa [hclock, ← hy] using reformReference_reference_eq y
    · simpa [hclock, ← hy] using reformReference_rest y
    all_goals simp [← hx, ← hy]
  · have heffect : effectOf (.contendingFallback p.number t) (advance t s) = fallBack p (advance t s) :=
      ageingEvent_of_mem (m := advance t s) hinv.1 hp (by
        rw [PeerRec.fallbackDue, hd, Option.any_some, hstanding, decide_eq_true rfl, Bool.true_and]
        exact decide_eq_true hold)
    generalize hy : updatePeer p.number
      (fun x => { x with defrost := x.defrost.map (fun d => { d with standing := .none }) }) (advance t s) = y
    have hmade : fallBack p (advance t s) = reportPlace p.fresh y := by rw [← hy]; rfl
    have hpeers : y.peers = s.peers.map (fun x =>
        if x.number = p.number then { x with defrost := some { d with standing := .none } } else x) := by
      rw [← hy]
      refine List.map_congr_left fun q hq => ?_
      by_cases hn : q.number = p.number
      · have hsame : some q = some p := by
          rw [← findPeer_of_mem hinv.1 hq, ← findPeer_of_mem hinv.1 hp, hn]
        rw [if_pos hn, if_pos hn, Option.some.inj hsame]
        dsimp only
        rw [hd]
        rfl
      · rw [if_neg hn, if_neg hn]
    obtain ⟨hkept, hwant⟩ := reportPlace_made (t := t) (s := s) (x := y) (freed := p.fresh)
      (advance t s) (by simp [← hy]) (by simp [← hy]) (by simp [← hy]) (by simp [← hy]) (by simp [← hy])
    refine ⟨_, exec_eq_finish (c := .contendingFallback p.number t) rfl hr (heffect.trans hmade), ?_, hkept, hwant, ?_, ?_, ?_,
      ?_, ?_, ?_⟩
    · simp [hpeers]
    case refine_6 => simp [reportPlace_stack, ← hy]
    all_goals simp [← hy]

end Sys2Proof.Proofs

/-! What a command shows and announces on its way. The lamps follow every change of the sequencer's state and of the frost
stage within a command; that they end as if only the ends were compared rests on one fact: on the way, whatever a lamp's
list reads is as it was or as it will be. The STATUS slot is asked for in the same places. -/

namespace Sys2Proof.Proofs

open Sys2Proof.Machine

/-! ## What the lists of the lamps read -/

/-- What the GREEN lamp's list tells apart of the sequencer's states. -/
inductive LampState where
  | waking | running | rest | stopped

def lampStateOf : SeqState → LampState
  | .starting | .listen => .waking
  | .rest => .rest
  | .stopped => .stopped
  | _ => .running

/-- What the lists of R165 read. -/
structure View where
  lamp : LampState
  defrosts : Bool
  stackEmpty : Bool
  faulty : Bool
  filter : FilterState

def viewOf (i : LampInputs) : View :=
  ⟨lampStateOf i.state, i.stage = .defrosting, i.stackEmpty, i.faults.any, i.filter⟩

def view (s : State) : View := viewOf (lampInputs s)

def amberOf (v : View) : Pattern :=
  match v.lamp with
  | .stopped => .steady
  | _ => if v.faulty then .blink
    else match v.filter with
      | .blocked => .doubleBlink
      | .due => .slowBlink
      | .clean => .off

def greenOf (v : View) : Pattern :=
  match v.lamp with
  | .rest | .stopped => .off
  | .waking => .flicker
  | .running => if v.defrosts then .slowBlink else if v.stackEmpty then .steady else .blink

theorem amberPattern_eq (i : LampInputs) : amberPattern i = amberOf (viewOf i) := by
  unfold amberPattern amberOf viewOf
  cases i.state <;> rfl

theorem greenPattern_eq (i : LampInputs) : greenPattern i = greenOf (viewOf i) := by
  unfold greenPattern greenOf viewOf
  cases i.state <;> cases i.stackEmpty <;> simp [lampStateOf]

/-- On the way from `a` to `c` every part is as it was or as it will be. -/
def Between (a b c : View) : Prop :=
  (b.lamp = a.lamp ∨ b.lamp = c.lamp) ∧ (b.defrosts = a.defrosts ∨ b.defrosts = c.defrosts)
    ∧ (b.stackEmpty = a.stackEmpty ∨ b.stackEmpty = c.stackEmpty) ∧ (b.faulty = a.faulty ∨ b.faulty = c.faulty)
    ∧ (b.filter = a.filter ∨ b.filter = c.filter)

theorem between_left (a c : View) : Between a a c := ⟨.inl rfl, .inl rfl, .inl rfl, .inl rfl, .inl rfl⟩

theorem between_right (a c : View) : Between a c c := ⟨.inr rfl, .inr rfl, .inr rfl, .inr rfl, .inr rfl⟩

theorem between_early {a i b c : View} (hi : Between a i b) (hb : Between a b c) : Between a i c := by
  obtain ⟨i1, i2, i3, i4, i5⟩ := hi
  obtain ⟨b1, b2, b3, b4, b5⟩ := hb
  refine ⟨?_, ?_, ?_, ?_, ?_⟩
  · rcases i1 with h | h <;> simp [h, b1]
  · rcases i2 with h | h <;> simp [h, b2]
  · rcases i3 with h | h <;> simp [h, b3]
  · rcases i4 with h | h <;> simp [h, b4]
  · rcases i5 with h | h <;> simp [h, b5]

theorem between_late {a i b c : View} (hi : Between b i c) (hb : Between a b c) : Between a i c := by
  obtain ⟨i1, i2, i3, i4, i5⟩ := hi
  obtain ⟨b1, b2, b3, b4, b5⟩ := hb
  refine ⟨?_, ?_, ?_, ?_, ?_⟩
  · rcases i1 with h | h <;> simp [h, b1]
  · rcases i2 with h | h <;> simp [h, b2]
  · rcases i3 with h | h <;> simp [h, b3]
  · rcases i4 with h | h <;> simp [h, b4]
  · rcases i5 with h | h <;> simp [h, b5]

/-- A pattern of a lamp does not leave and come back on such a way. -/
theorem amberOf_between {a b c : View} (h : Between a b c) (hsame : amberOf c = amberOf a) : amberOf b = amberOf a := by
  obtain ⟨l1, d1, s1, f1, k1⟩ := a
  obtain ⟨l2, d2, s2, f2, k2⟩ := b
  obtain ⟨l3, d3, s3, f3, k3⟩ := c
  obtain ⟨h1, -, -, h4, h5⟩ := h
  dsimp only at h1 h4 h5
  cases l1 <;> cases l3 <;> cases f1 <;> cases f3 <;> cases k1 <;> cases k3 <;> simp_all [amberOf] <;>
    rcases h1 with rfl | rfl <;> simp

theorem greenOf_between {a b c : View} (h : Between a b c) (hsame : greenOf c = greenOf a) : greenOf b = greenOf a := by
  obtain ⟨l1, d1, s1, f1, k1⟩ := a
  obtain ⟨l2, d2, s2, f2, k2⟩ := b
  obtain ⟨l3, d3, s3, f3, k3⟩ := c
  obtain ⟨h1, h2, h3, -, -⟩ := h
  dsimp only at h1 h2 h3
  cases l1 <;> cases l3 <;> cases d1 <;> cases d3 <;> cases s1 <;> cases s3 <;> simp_all [greenOf] <;>
    rcases h1 with rfl | rfl <;> simp

/-! ## The lamps on the way -/

/-- A lamp that has shown one view after another at the time `n`. -/
def lampShown (pat : View → Pattern) (n : Time) (l : Lamp) (vs : List View) : Lamp :=
  vs.foldl (fun l v => l.show (pat v) n) l

theorem shown_append (pat : View → Pattern) (n : Time) (l : Lamp) (vs ws : List View) :
    lampShown pat n l (vs ++ ws) = lampShown pat n (lampShown pat n l vs) ws := List.foldl_append

/-- Where every view shown has the lamp's pattern, the lamp stays. -/
theorem shown_same {pat : View → Pattern} {n : Time} {l : Lamp} {vs : List View} (h : ∀ v ∈ vs, pat v = l.pattern) :
    lampShown pat n l vs = l := by
  induction vs with
  | nil => rfl
  | cons v vs ih =>
    have hv : l.show (pat v) n = l := if_pos (h v List.mem_cons_self).symm
    rw [lampShown, List.foldl_cons, hv]
    exact ih fun w hw => h w (List.mem_cons_of_mem _ hw)

theorem show_phase {l l' : Lamp} {p : Pattern} {n : Time} (h : l' = l ∨ l'.phaseStart = n) :
    l'.show p n = l ∨ (l'.show p n).phaseStart = n := by
  unfold Lamp.show
  split
  · exact h
  · exact .inr rfl

/-- A lamp that has shown another pattern began its present one now. -/
theorem shown_phase (pat : View → Pattern) (n : Time) (l : Lamp) (vs : List View) :
    lampShown pat n l vs = l ∨ (lampShown pat n l vs).phaseStart = n := by
  have hall : ∀ l', (l' = l ∨ l'.phaseStart = n) → lampShown pat n l' vs = l ∨ (lampShown pat n l' vs).phaseStart = n := by
    induction vs with
    | nil => exact fun _ h => h
    | cons v vs ih => exact fun l' h => ih _ (show_phase h)
  exact hall l (.inl rfl)

/-- What a command shows on its way: the lamps have shown some views, each between the first and the last. -/
structure Lit (s y : State) : Prop where
  now : y.now = s.now
  lamps : ∃ vs : List View, (∀ v ∈ vs, Between (view s) v (view y))
    ∧ y.ctl.amber = lampShown amberOf s.now s.ctl.amber vs ∧ y.ctl.green = lampShown greenOf s.now s.ctl.green vs

theorem Lit.refl (s : State) : Lit s s := ⟨rfl, [], by simp, rfl, rfl⟩

/-- An update that leaves the lamps. -/
theorem Lit.plain {s y : State} (hnow : y.now = s.now) (ha : y.ctl.amber = s.ctl.amber) (hg : y.ctl.green = s.ctl.green) :
    Lit s y := ⟨hnow, [], by simp, ha, hg⟩

theorem Lit.trans {a b c : State} (hab : Lit a b) (hbc : Lit b c) (h : Between (view a) (view b) (view c)) : Lit a c := by
  obtain ⟨hnow, vs, hvs, ha, hg⟩ := hab
  obtain ⟨hnow', ws, hws, ha', hg'⟩ := hbc
  rw [hnow] at ha' hg'
  refine ⟨hnow'.trans hnow, vs ++ ws, fun v hv => ?_, ?_, ?_⟩
  · rcases List.mem_append.mp hv with hv | hv
    · exact between_early (hvs v hv) h
    · exact between_late (hws v hv) h
  · rw [shown_append, ← ha, ha']
  · rw [shown_append, ← hg, hg']

theorem trackAnnounced_lamps (m y : State) :
    (trackAnnounced m y).ctl = y.ctl ∧ lampInputs (trackAnnounced m y) = lampInputs y
      ∧ (trackAnnounced m y).now = y.now := by
  unfold trackAnnounced
  split <;> exact ⟨rfl, rfl, rfl⟩

theorem trackLamps_lamps (m y : State) :
    (trackLamps m y).ctl.amber
        = (if lampInputs m = lampInputs y then y.ctl.amber else y.ctl.amber.show (amberPattern (lampInputs y)) y.now)
    ∧ (trackLamps m y).ctl.green
        = (if lampInputs m = lampInputs y then y.ctl.green else y.ctl.green.show (greenPattern (lampInputs y)) y.now)
    ∧ lampInputs (trackLamps m y) = lampInputs y := by
  unfold trackLamps
  split <;> exact ⟨rfl, rfl, rfl⟩

theorem showChange_lamps (m y : State) :
    (showChange m y).ctl.amber
        = (if lampInputs m = lampInputs y then y.ctl.amber else y.ctl.amber.show (amberPattern (lampInputs y)) y.now)
    ∧ (showChange m y).ctl.green
        = (if lampInputs m = lampInputs y then y.ctl.green else y.ctl.green.show (greenPattern (lampInputs y)) y.now)
    ∧ lampInputs (showChange m y) = lampInputs y := by
  obtain ⟨hctl, hin, hnow⟩ := trackAnnounced_lamps m y
  have h := trackLamps_lamps m (trackAnnounced m y)
  rw [hctl, hin, hnow] at h
  exact h

/-- A change of the sequencer's state or of the frost stage is shown. -/
theorem lit_showChange (m y : State) : Lit y (showChange m y) := by
  obtain ⟨ha, hg, hin⟩ := showChange_lamps m y
  have hview : view (showChange m y) = view y := congrArg viewOf hin
  refine ⟨by simp, if lampInputs m = lampInputs y then [] else [view y], ?_, ?_, ?_⟩
  · rw [hview]
    split
    · simp
    · simpa using between_left _ _
  · rw [ha, amberPattern_eq]
    split <;> rfl
  · rw [hg, greenPattern_eq]
    split <;> rfl

/-- The lamps at the end of a command, from a state in which they show their lists. -/
theorem lamp_of_shown {pat : View → Pattern} (hpat : ∀ a b c, Between a b c → pat c = pat a → pat b = pat a) {l : Lamp}
    {a c : View} {vs : List View} {n : Time} (hl : l.pattern = pat a) (hvs : ∀ v ∈ vs, Between a v c) :
    (pat c = pat a → lampShown pat n l vs = l)
    ∧ (pat c ≠ pat a → (lampShown pat n l vs).show (pat c) n = ⟨pat c, n⟩) := by
  refine ⟨fun h => shown_same fun v hv => (hpat a v c (hvs v hv) h).trans hl.symm, fun h => ?_⟩
  rcases shown_phase pat n l vs with hsame | hphase
  · rw [hsame, Lamp.show, if_neg (by rw [hl]; exact Ne.symm h)]
  · generalize lampShown pat n l vs = l' at hphase
    unfold Lamp.show
    split
    case isTrue hp => rw [← hp, ← hphase]
    case isFalse => rfl

end Sys2Proof.Proofs

/-! What the motions of the sequencer and the frost guard show and announce on their way. -/

namespace Sys2Proof.Proofs

open Sys2Proof.Machine

/-- The sequencer's state and the frost stage: a change of either is announced and shown within a command. -/
def place (s : State) : SeqState × FrostStage := (s.seq.state, s.frost.stage)

/-- The STATUS slot once a STATUS has been asked for (R152). -/
def askedSlot (l : LineRec) : Slot := ⟨true, l.statusSlot.reRequest || l.sending .status⟩

/-- What a command asks of the line on its way: at most a STATUS without the mark, and none where sequencer and frost stage
end where they began. -/
structure Asks (s y : State) : Prop where
  sending : y.line.sending .status = s.line.sending .status
  mark : y.line.statusMark = s.line.statusMark
  slot : y.line.statusSlot = s.line.statusSlot ∨ y.line.statusSlot = askedSlot s.line
  still : place y = place s → y.line.statusSlot = s.line.statusSlot

/-- What a command shows and announces on its way. -/
structure Tells (s y : State) : Prop where
  lit : Lit s y
  asks : Asks s y

theorem Asks.trans {a b c : State} (hab : Asks a b) (hbc : Asks b c) (h : place c = place a → place b = place a) : Asks a c := by
  refine ⟨hbc.sending.trans hab.sending, hbc.mark.trans hab.mark, ?_, fun hp => ?_⟩
  · rcases hbc.slot with hs | hs
    · rw [hs]
      exact hab.slot
    · right
      rw [hs, askedSlot, hab.sending]
      rcases hab.slot with hs' | hs' <;> rw [hs']
      · rfl
      · simp [askedSlot]
  · have hb := h hp
    exact (hbc.still (hp.trans hb.symm)).trans (hab.still hb)

theorem Tells.trans {a b c : State} (hab : Tells a b) (hbc : Tells b c) (hview : Between (view a) (view b) (view c))
    (hplace : place c = place a → place b = place a) : Tells a c :=
  ⟨hab.lit.trans hbc.lit hview, hab.asks.trans hbc.asks hplace⟩

/-- Two acts of which the second moves nothing that is shown. -/
theorem Tells.then_same {a b c : State} (hab : Tells a b) (hbc : Tells b c) (hview : view c = view b)
    (hplace : place c = place b) : Tells a c :=
  hab.trans hbc (hview ▸ between_right _ _) fun h => hplace ▸ h

/-- Two acts of which the first moves nothing that is shown. -/
theorem Tells.after_same {a b c : State} (hab : Tells a b) (hbc : Tells b c) (hview : view b = view a)
    (hplace : place b = place a) : Tells a c :=
  hab.trans hbc (hview ▸ between_left _ _) fun _ => hplace

/-- An update that leaves the lamps and the STATUS slot. -/
theorem Tells.plain {s y : State} (hnow : y.now = s.now) (hamber : y.ctl.amber = s.ctl.amber)
    (hgreen : y.ctl.green = s.ctl.green) (hslot : y.line.statusSlot = s.line.statusSlot)
    (hmark : y.line.statusMark = s.line.statusMark) (hsending : y.line.transmission = s.line.transmission) : Tells s y :=
  ⟨.plain hnow hamber hgreen, ⟨by rw [LineRec.sending, LineRec.sending, hsending], hmark, .inl hslot, fun _ => hslot⟩⟩

/-- An update outside the line interface and the local controls. -/
theorem Tells.off {s y : State} (hnow : y.now = s.now) (hline : y.line = s.line) (hctl : y.ctl = s.ctl) : Tells s y :=
  .plain hnow (by rw [hctl]) (by rw [hctl]) (by rw [hline]) (by rw [hline]) (by rw [hline])

theorem Tells.refl (s : State) : Tells s s := .off rfl rfl rfl

/-! ## What is between -/

theorem view_eq {s y : State} (hstate : lampStateOf y.seq.state = lampStateOf s.seq.state)
    (hstage : y.frost.stage = s.frost.stage) (hstack : y.demand.stack = s.demand.stack) (hfaults : faultSet y = faultSet s)
    (hfilter : y.filter.state = s.filter.state) : view y = view s := by
  unfold view viewOf lampInputs
  rw [hstage, hstack, hfaults, hfilter]
  dsimp only
  rw [hstate]

theorem between_of {a b c : State}
    (hstate : lampStateOf b.seq.state = lampStateOf a.seq.state ∨ lampStateOf b.seq.state = lampStateOf c.seq.state)
    (hstage : b.frost.stage = a.frost.stage ∨ b.frost.stage = c.frost.stage)
    (hstack : b.demand.stack = a.demand.stack ∨ b.demand.stack = c.demand.stack)
    (hfaults : faultSet b = faultSet a ∨ faultSet b = faultSet c)
    (hfilter : b.filter.state = a.filter.state ∨ b.filter.state = c.filter.state) : Between (view a) (view b) (view c) := by
  have hdefrosts {x y : State} (h : x.frost.stage = y.frost.stage) : (view x).defrosts = (view y).defrosts :=
    congrArg (fun st => decide (st = FrostStage.defrosting)) h
  have hempty {x y : State} (h : x.demand.stack = y.demand.stack) : (view x).stackEmpty = (view y).stackEmpty :=
    congrArg List.isEmpty h
  have hfaulty {x y : State} (h : faultSet x = faultSet y) : (view x).faulty = (view y).faulty := congrArg FaultSet.any h
  exact ⟨hstate, hstage.imp hdefrosts hdefrosts, hstack.imp hempty hempty, hfaults.imp hfaulty hfaulty, hfilter⟩

theorem faultSet_of_channels {s y : State} (hctl : y.ctl.steady = s.ctl.steady)
    (hclimate : (y.climate.inner, y.climate.outer, y.climate.humidity)
      = (s.climate.inner, s.climate.outer, s.climate.humidity))
    (hactive : y.line.active = s.line.active) : faultSet y = faultSet s := by
  have h (f : ControlRec → Bool) (hf : ∀ c : ControlRec, f c.steady = f c) : f y.ctl = f s.ctl := by
    rw [← hf, ← hf s.ctl, hctl]
  simp only [Prod.mk.injEq] at hclimate
  obtain ⟨hi, ho, hh⟩ := hclimate
  simp only [faultSet, hi, ho, hh, hactive, h ControlRec.stall fun _ => rfl, h ControlRec.duplicate fun _ => rfl,
    h ControlRec.config fun _ => rfl, h ControlRec.memory fun _ => rfl]

theorem faultSet_eq {s y : State} (hctl : y.ctl.steady = s.ctl.steady) (hclimate : y.climate = s.climate)
    (hactive : y.line.active = s.line.active) : faultSet y = faultSet s :=
  faultSet_of_channels hctl (by rw [hclimate]) hactive

/-- The fault set is one of the held part. -/
theorem faultSet_of_held {s : State} {h : Held} {y : State} (hy : held y = h) (hctl : h.ctl = s.ctl.steady)
    (hclimate : (h.climate.inner, h.climate.outer, h.climate.humidity)
      = (s.climate.inner, s.climate.outer, s.climate.humidity))
    (hactive : h.line.active = s.line.active) : faultSet y = faultSet s := by
  subst hy
  exact faultSet_of_channels hctl hclimate hactive

/-! ## The frost stage -/

theorem announced_seq {q : SeqRec} {s : State} (hstate : q.state = s.seq.state) (hsettling : q.settling = s.seq.settling) :
    announced { s with seq := q } = announced s := by
  have hdemand : preferredRow { s with seq := q } = preferredRow s := rfl
  unfold announced statusBody
  dsimp only
  rw [hstate, hsettling, hdemand]
  rfl

/-- A change of the sequencer's state or of the frost stage is shown and announced. -/
theorem tells_showChange {m y : State} (hnow : y.now = m.now) (hctl : y.ctl = m.ctl) (hline : y.line = m.line)
    (h : place y = place m → announced y = announced m) : Tells m (showChange m y) := by
  have hview : view (showChange m y) = view y := congrArg viewOf (showChange_lamps m y).2.2
  have hplain : Lit m y := .plain hnow (by rw [hctl]) (by rw [hctl])
  refine ⟨hplain.trans (lit_showChange m y) (by rw [hview]; exact between_right _ _), ?_⟩
  have hshown : (showChange m y).line = (trackAnnounced m y).line := by unfold showChange trackLamps; split <;> rfl
  have hplace : place (showChange m y) = place y := by simp [place]
  by_cases hsame : announced m = announced y
  · have hl : (showChange m y).line = m.line := by rw [hshown, trackAnnounced, if_pos hsame, hline]
    exact ⟨by rw [hl], by rw [hl], .inl (by rw [hl]), fun _ => by rw [hl]⟩
  · have hl : (showChange m y).line = (requestStatus false y).line := by rw [hshown, trackAnnounced, if_neg hsame]
    have hslot : (showChange m y).line.statusSlot = askedSlot m.line := by rw [hl, ← hline]; rfl
    have hmark : (showChange m y).line.statusMark = m.line.statusMark := by
      rw [hl, ← hline]
      exact Bool.or_false _
    refine ⟨by rw [hl, ← hline]; rfl, hmark, .inr hslot, fun hp => ?_⟩
    exact absurd (h (hplace.symm.trans hp)).symm hsame

@[simp] theorem abandoned_state (n : Time) (f : FilterRec) : (abandoned n f).state = f.state := by
  unfold abandoned
  split <;> rfl

theorem tells_abandonProbe (s : State) : Tells s (abandonProbe s) := .off (by simp) (by simp) (by simp)

theorem setStage_view (st : FrostStage) (s : State) :
    (setStage st s).demand.stack = s.demand.stack ∧ faultSet (setStage st s) = faultSet s
      ∧ (setStage st s).filter.state = s.filter.state :=
  ⟨congrArg Held.stack (held_setStage st s), faultSet_eq (by simp) (by simp) (by simp), by simp⟩

theorem tells_setStage (st : FrostStage) (s : State) : Tells s (setStage st s) := by
  have hshown : Tells s (showChange s { s with frost := { s.frost with stage := st } }) := by
    refine tells_showChange rfl rfl rfl fun h => ?_
    have hst : st = s.frost.stage := congrArg Prod.snd h
    rw [hst]
  unfold setStage
  dsimp only
  split
  · exact hshown.then_same (tells_abandonProbe _) (view_eq (by simp) (by simp) (by simp) (faultSet_eq (by simp) (by simp) (by simp)) (by simp))
      (by simp [place])
  · exact hshown

/-- A stage set after an update that is not shown. -/
theorem tells_staged {s y : State} (st : FrostStage) (h : Tells s y) (hview : view y = view s) (hplace : place y = place s) :
    Tells s (setStage st y) := h.after_same (tells_setStage st y) hview hplace

theorem tells_withdraw (st : FrostStage) (s : State) : Tells s (withdraw st s) :=
  tells_staged (y := clearContention (queueNotice .withdraw false s)) st (.plain rfl rfl rfl rfl rfl rfl)
    (view_eq rfl rfl rfl rfl rfl) rfl

theorem tells_frostOnStopped (s : State) : Tells s (frostOnStopped s) := by
  unfold frostOnStopped
  split
  · exact tells_withdraw _ s
  · exact tells_staged (y := startLockout (leaveDefrost s)) .lockout (.plain rfl rfl rfl rfl rfl rfl)
      (view_eq rfl rfl rfl rfl rfl) rfl
  · split
    · exact .plain rfl rfl rfl rfl rfl rfl
    · exact .refl s
  · exact .refl s

theorem tells_defrostOnSequencer (old : SeqState) (s : State) : Tells s (defrostOnSequencer old s) := by
  unfold defrostOnSequencer
  split
  · exact .off rfl rfl rfl
  · split
    · exact tells_staged (y := leaveDefrost s) _ (.plain rfl rfl rfl rfl rfl rfl) (view_eq rfl rfl rfl rfl rfl) rfl
    · split
      · exact .off rfl rfl rfl
      · exact .refl s

theorem tells_frostOnSequencer (old : SeqState) (s : State) : Tells s (frostOnSequencer old s) := by
  unfold frostOnSequencer
  split
  · exact tells_frostOnStopped s
  · split
    · exact tells_defrostOnSequencer old s
    · exact .refl s

theorem frostOnSequencer_view (old : SeqState) (s : State) :
    (frostOnSequencer old s).seq = s.seq ∧ (frostOnSequencer old s).demand.stack = s.demand.stack
      ∧ faultSet (frostOnSequencer old s) = faultSet s ∧ (frostOnSequencer old s).filter.state = s.filter.state := by
  have h := held_frostOnSequencer old s
  exact ⟨congrArg Held.seq h, congrArg Held.stack h, faultSet_of_held h rfl rfl (by dsimp only; split <;> rfl),
    congrArg (fun y : Held => y.filter.state) h⟩

/-! ## A change of the sequencer's state -/

/-- What a change of the sequencer's state leaves of what the lamps show. -/
theorem changeSeq_view (q : SeqRec) (s : State) :
    faultSet (changeSeq q s) = faultSet s ∧ (changeSeq q s).filter.state = s.filter.state
      ∧ (changeSeq q s).frost.stage = (frostAfterSeq q.state s.seq.state s.now s.frost).stage
      ∧ (boostLost q.state s.seq.state s.humid = false → (changeSeq q s).demand.stack = s.demand.stack) := by
  have h := held_changeSeq q s
  refine ⟨faultSet_eq (by simp) (by simp) (by simp), by simp, congrArg (fun y : Held => y.frost.stage) h, fun hlost => ?_⟩
  have hstack := congrArg Held.stack h
  rw [hlost] at hstack
  exact hstack

/-- A change of the sequencer's record is shown and announced, and so are the frost guard's answers. -/
theorem tells_changeSeq {q : SeqRec} {s : State} (h : q.state = s.seq.state → q.settling = s.seq.settling) :
    Tells s (changeSeq q s) := by
  have hshown : Tells s (showChange s { s with seq := q }) :=
    tells_showChange rfl rfl rfl fun hp => announced_seq (congrArg Prod.fst hp) (h (congrArg Prod.fst hp))
  have hheld : held (showChange s { s with seq := q }) = { held s with seq := q } := held_showChange _ _
  generalize hx : showChange s { s with seq := q } = x at hshown hheld
  have hxseq : x.seq = q := congrArg Held.seq hheld
  have hxstage : x.frost.stage = s.frost.stage := congrArg (fun y : Held => y.frost.stage) hheld
  have hxstack : x.demand.stack = s.demand.stack := congrArg Held.stack hheld
  have hxfilter : x.filter.state = s.filter.state := congrArg (fun y : Held => y.filter.state) hheld
  have hxfaults : faultSet x = faultSet s := faultSet_of_held hheld rfl rfl rfl
  obtain ⟨hseq, hstack, hfaults, hfilter⟩ := frostOnSequencer_view s.seq.state x
  have hfrost : Tells s (frostOnSequencer s.seq.state x) := by
    refine hshown.trans (tells_frostOnSequencer _ x) (between_of (.inr (by rw [hseq])) (.inl hxstage) (.inl hxstack)
      (.inl hxfaults) (.inl hxfilter)) fun hp => ?_
    have hstate : x.seq.state = s.seq.state := by rw [← hseq]; exact congrArg Prod.fst hp
    rw [place, place, hstate, hxstage]
  have hkept : Tells (frostOnSequencer s.seq.state x)
      (humidOnSequencer s.seq.state (filterOnSequencer (frostOnSequencer s.seq.state x))) :=
    .off (by simp) (by simp) (by simp)
  have hresult : changeSeq q s = humidOnSequencer s.seq.state (filterOnSequencer (frostOnSequencer s.seq.state x)) := by
    rw [← hx]; rfl
  rw [hresult]
  have hfaults' : faultSet (humidOnSequencer s.seq.state (filterOnSequencer (frostOnSequencer s.seq.state x)))
      = faultSet (frostOnSequencer s.seq.state x) := faultSet_eq (by simp) (by simp) (by simp)
  refine hfrost.trans hkept (between_of (.inr (by simp)) (.inr (by simp)) (.inl (hstack.trans hxstack))
    (.inr hfaults'.symm) (.inr (by simp))) fun hp => ?_
  rw [← hp]
  simp [place]

end Sys2Proof.Proofs

/-! What the motions of the sequencer show and announce on their way. -/

namespace Sys2Proof.Proofs

open Sys2Proof.Machine

/-! ## The motions of the sequencer -/

theorem tells_enterRundown (g : Target) (s : State) : Tells s (enterRundown g s) := .off (by simp) (by simp) (by simp)

theorem enterRundown_view (g : Target) (s : State) :
    view (enterRundown g s) = view s ∧ place (enterRundown g s) = place s :=
  ⟨view_eq (by simp [enterRundown_seq]) (by simp) (by simp) (faultSet_eq (by simp) (by simp) (by simp)) (by simp),
    by simp [place, enterRundown_seq]⟩

theorem tells_beginReversing (g : Target) {s : State} (h : s.seq.state ≠ .reversing) : Tells s (beginReversing g s) := by
  obtain ⟨hview, hplace⟩ := enterRundown_view g
    (changeSeq { s.seq with state := .reversing, phase := none, target := some g, phaseStart := none } s)
  exact (tells_changeSeq fun e => absurd e.symm h).then_same (tells_enterRundown g _) hview hplace

theorem tells_enterDirect (st : SeqState) (s : State) : Tells s (enterDirect st s) := tells_changeSeq fun _ => rfl

theorem tells_zeroDrive (s : State) : Tells s (zeroDrive s) := .off rfl rfl rfl

theorem zeroDrive_view (s : State) : view (zeroDrive s) = view s := view_eq rfl rfl rfl rfl rfl

theorem tells_enterRest {s : State} (h : s.seq.state ≠ .rest) : Tells s (enterRest s) :=
  (tells_zeroDrive s).after_same (tells_changeSeq fun e => absurd e.symm h) (zeroDrive_view s) rfl

theorem tells_retarget (g : Target) (s : State) : Tells s (retarget g s) := by
  have hnew : Tells s (replaceTarget g s) := tells_changeSeq fun _ => rfl
  unfold retarget
  generalize replaceTarget g s = x at hnew ⊢
  split
  · exact .refl s
  · split
    · exact .refl s
    · dsimp only
      split
      · exact hnew
      · split
        · exact hnew.then_same (.off rfl rfl rfl) (view_eq rfl rfl rfl rfl rfl) rfl
        · exact hnew.then_same (tells_enterRundown g _) (enterRundown_view g _).1 (enterRundown_view g _).2
        · exact hnew

theorem tells_endHold (s : State) : Tells s (endHold s) := .off (by simp) (by simp) (by simp)

theorem endHold_view (s : State) : view (endHold s) = view s ∧ place (endHold s) = place s :=
  ⟨view_eq (by simp) (by simp) (by simp) (faultSet_eq (by simp) (by simp) (by simp)) (by simp), by simp [place]⟩

/-- A rest entered after another change out of a running state, which moved nothing else that is shown. -/
theorem tells_then_rest {a b : State} (hab : Tells a b) (ha : lampStateOf a.seq.state = .running)
    (hb : lampStateOf b.seq.state = .running) (hstage : b.frost.stage = a.frost.stage)
    (hstack : b.demand.stack = a.demand.stack) (hfaults : faultSet b = faultSet a)
    (hfilter : b.filter.state = a.filter.state) : Tells a (enterRest b) := by
  have hrest : b.seq.state ≠ .rest := by intro h; simp [h, lampStateOf] at hb
  have hnot : a.seq.state ≠ .rest := by intro h; simp [h, lampStateOf] at ha
  refine hab.trans (tells_enterRest hrest) (between_of (.inl (hb.trans ha.symm)) (.inl hstage) (.inl hstack) (.inl hfaults)
    (.inl hfilter)) fun hp => ?_
  have hstate : (enterRest b).seq.state = a.seq.state := congrArg Prod.fst hp
  exact absurd (hstate.symm.trans (by simp [enterRest_seq])) hnot

/-- A change to a running state leaves the frost stage. -/
theorem frostAfterSeq_stage {new old : SeqState} {n : Time} {f : FrostRec} (hrest : new ≠ .rest) (hstop : new ≠ .stopped) :
    (frostAfterSeq new old n f).stage = f.stage := by rw [frostAfterSeq_melt hrest hstop]

/-- A change to a running state moves nothing of what is shown but the state. -/
theorem changeSeq_running_view {q : SeqRec} {s : State} (hrest : q.state ≠ .rest) (hstop : q.state ≠ .stopped) :
    (changeSeq q s).frost.stage = s.frost.stage ∧ (changeSeq q s).demand.stack = s.demand.stack
      ∧ faultSet (changeSeq q s) = faultSet s ∧ (changeSeq q s).filter.state = s.filter.state := by
  obtain ⟨hfaults, hfilter, hstage, hstack⟩ := changeSeq_view q s
  exact ⟨hstage.trans (frostAfterSeq_stage hrest hstop), hstack (by simp [boostLost, hrest, hstop]), hfaults, hfilter⟩

theorem lampStateOf_target (g : Target) : lampStateOf g.state = .running := by cases g <;> rfl

@[simp] theorem completedProbe_state (g : Target) (n : Time) (f : FilterRec) : (completedProbe g n f).state = f.state := by
  unfold completedProbe
  split
  · split
    · rfl
    · exact abandoned_state n f
  · rfl

/-- The end of a reversal, before a held rest is taken. -/
theorem tells_completed (g : Target) (s : State) : Tells s (completed g s) := by
  have hchanged : Tells s (changeSeq { s.seq with state := g.state, phase := none, target := none, phaseStart := none }
      (endHold s)) :=
    (tells_endHold s).after_same (tells_changeSeq fun _ => by simp) (endHold_view s).1 (endHold_view s).2
  unfold completed
  generalize changeSeq { s.seq with state := g.state, phase := none, target := none, phaseStart := none } (endHold s) = x
    at hchanged ⊢
  dsimp only
  rw [filterOnCompletion_eq]
  exact hchanged.then_same (.off rfl rfl rfl) (view_eq rfl rfl rfl rfl (completedProbe_state _ _ _)) rfl

theorem tells_completeReversal (g : Target) {s : State} (h : s.seq.state = .reversing) : Tells s (completeReversal g s) := by
  have hheld := held_completed g h
  rw [completeReversal_eq]
  split
  · refine tells_then_rest (tells_completed g s) (by rw [h]; rfl) ?_ ?_ (congrArg Held.stack hheld)
      (faultSet_of_held hheld rfl rfl rfl) ?_
    · exact (congrArg (fun y : Held => lampStateOf y.seq.state) hheld).trans (lampStateOf_target g)
    · exact (congrArg (fun y : Held => y.frost.stage) hheld).trans
        (frostAfterSeq_stage (by cases g <;> simp [Target.state]) (by cases g <;> simp [Target.state]))
    · exact (congrArg (fun y : Held => y.filter.state) hheld).trans (completedProbe_state _ _ _)
  · exact tells_completed g s

theorem tells_completeAtSpeed (s : State) : Tells s (completeAtSpeed s) := by
  unfold completeAtSpeed
  split
  case h_1 hstate _ _ =>
    split
    · exact tells_completeReversal _ hstate
    · exact .refl s
  case h_2 => exact .refl s

theorem tells_endRundown (s : State) : Tells s (endRundown s) := by
  unfold endRundown
  split
  · split
    · exact .off rfl rfl rfl
    · exact .refl s
  · exact .refl s

theorem endRundown_view (s : State) : view (endRundown s) = view s ∧ place (endRundown s) = place s := by
  unfold endRundown
  split
  · split
    · exact ⟨view_eq rfl rfl rfl rfl rfl, rfl⟩
    · exact ⟨rfl, rfl⟩
  · exact ⟨rfl, rfl⟩

theorem tells_reversalOnSpeed (s : State) : Tells s (reversalOnSpeed s) :=
  (tells_endRundown s).after_same (tells_completeAtSpeed _) (endRundown_view s).1 (endRundown_view s).2

theorem tells_enterListen (s : State) : Tells s (enterListen s) := by
  have hchanged : Tells s (changeSeq { s.seq with state := .listen } s) := tells_changeSeq fun _ => rfl
  unfold enterListen
  generalize changeSeq { s.seq with state := .listen } s = x at hchanged ⊢
  exact hchanged.then_same (.off rfl rfl rfl) (view_eq rfl rfl rfl rfl rfl) rfl

theorem running_of_moving {q : SeqRec} (h : q.moving = true) :
    lampStateOf q.state = .running ∧ q.state ≠ .rest ∧ q.state ≠ .stopped ∧ q.state ≠ .paused := by
  unfold SeqRec.moving at h
  cases hq : q.state <;> simp_all [lampStateOf]

/-- A stall in motion pauses the station, or the rest held is taken at once. -/
theorem tells_enterPaused (resume : Bool) {s : State} (h : s.seq.moving = true) : Tells s (enterPaused resume s) := by
  obtain ⟨hrun, hrest, hstop, hpaused⟩ := running_of_moving h
  have htold : Tells s (paused resume s) :=
    (tells_zeroDrive s).after_same (tells_changeSeq fun e => absurd e.symm hpaused) (zeroDrive_view s) rfl
  have hheld := held_paused resume hrest
  rw [enterPaused_eq]
  split
  · refine tells_then_rest htold hrun ?_ ?_ (congrArg Held.stack hheld) (faultSet_of_held hheld rfl rfl rfl) ?_
    · exact congrArg (fun y : Held => lampStateOf y.seq.state) hheld
    · exact (congrArg (fun y : Held => y.frost.stage) hheld).trans (frostAfterSeq_stage (by decide) (by decide))
    · exact (congrArg (fun y : Held => y.filter.state) hheld).trans (abandoned_state _ _)
  · exact htold

/-- The third stall stops it: the state is shown, then STALL is raised. -/
theorem tells_enterStopped {s : State} (h : s.seq.state ≠ .stopped) : Tells s (enterStopped s) := by
  have htold : Tells s (stoppedSeq s) :=
    (tells_zeroDrive s).after_same (tells_changeSeq fun e => absurd e.symm h) (zeroDrive_view s) rfl
  have hform : enterStopped s = closeCollection (stopClock (stalled (stoppedSeq s))) := rfl
  obtain ⟨hfaults, hfilter, -, -⟩ := changeSeq_view { s.seq with
      state := .stopped, phase := none, target := none, phaseStart := none
      restHeld := false, rejoin := none, defrostResume := false, pauseEnd := none, restStart := none
      settling := 0 } (zeroDrive s)
  have hlast : Tells (stoppedSeq s) (enterStopped s) := by
    rw [hform]
    exact .plain (by simp [stalled]) (by simp [stalled]) (by simp [stalled]) (by simp [stalled]) (by simp [stalled])
      (by simp [stalled])
  refine htold.trans hlast (between_of (.inr (by rw [hform]; simp [stalled])) (.inr (by rw [hform]; simp [stalled]))
    (.inr (by rw [hform]; simp [stalled])) (.inl (hfaults.trans rfl)) (.inl (hfilter.trans rfl))) fun hp => ?_
  have hstate : (enterStopped s).seq.state = s.seq.state := congrArg Prod.fst hp
  rw [enterStopped_seq] at hstate
  exact absurd hstate.symm h

theorem tells_takeStall {s : State} (h : s.seq.moving = true) : Tells s (takeStall s) := by
  have hmoving : (withHistory s).seq.moving = true := h
  unfold takeStall
  dsimp only
  have hsame : Tells s (withHistory s) := .off rfl rfl rfl
  have hview : view (withHistory s) = view s := view_eq rfl rfl rfl rfl rfl
  split
  · exact hsame.after_same (tells_enterStopped (running_of_moving hmoving).2.2.1) hview rfl
  · exact hsame.after_same (tells_enterPaused _ hmoving) hview rfl

theorem tells_takeDefrostOrder (s : State) : Tells s (takeDefrostOrder s) := by
  unfold takeDefrostOrder
  split
  case h_1 => exact tells_enterDirect _ s
  case h_2 h => exact tells_beginReversing _ (by simp [h])
  case h_3 h =>
    split
    · exact tells_enterDirect _ s
    · exact tells_beginReversing _ (by simp [h])
  case h_4 => exact tells_retarget _ s
  case h_5 => exact .off rfl rfl rfl
  case h_6 => exact .refl s

theorem tells_takeDefrostEnd (s : State) : Tells s (takeDefrostEnd s) := by
  unfold takeDefrostEnd
  split
  case h_1 h =>
    split
    · exact tells_enterRest (by simp [h])
    · split
      · exact tells_enterDirect _ s
      · exact tells_beginReversing _ (by simp [h])
  case h_2 =>
    split
    · exact tells_retarget _ s
    · exact .refl s
  case h_3 => exact .off rfl rfl rfl
  case h_4 => exact .refl s

theorem tells_restExit (s : State) : Tells s (restExit s) := by
  unfold restExit
  split
  · exact .off rfl rfl rfl
  · exact .refl s

theorem tells_offToggle (s : State) : Tells s (offToggle s) := by
  unfold offToggle
  split
  · split
    · exact tells_restExit s
    · exact .off rfl rfl rfl
  · exact .refl s
  · split
    · exact .off rfl rfl rfl
    · split
      case h_5 => exact .off rfl rfl rfl
      all_goals exact tells_enterRest (by simp [*])

theorem tells_release (s : State) : Tells s (release s) := by
  unfold release
  split
  case isTrue h =>
    generalize hy : ({ s with seq := { s.seq with stallHistory := [] }, ctl := { s.ctl with stall := false } } : State) = y
    have hsame : Tells s y := by rw [← hy]; exact .plain rfl rfl rfl rfl rfl rfl
    have hlisten := held_enterListen (s := y) (by rw [← hy]; simp [h]) (by rw [← hy]; simp [h])
    refine hsame.trans (tells_enterListen y) (between_of (.inl (by rw [← hy])) (.inl (by rw [← hy])) (.inl (by rw [← hy]))
      (.inr (faultSet_of_held hlisten rfl rfl rfl).symm) (.inl (by rw [← hy]))) fun hp => ?_
    rw [← hy]
    rfl
  case isFalse => exact .refl s

theorem tells_sequencerOnNotice (d : Dir) (s : State) : Tells s (sequencerOnNotice d s) := by
  unfold sequencerOnNotice
  split
  case h_1 h => exact tells_beginReversing _ (by simp [h])
  case h_2 h => exact tells_beginReversing _ (by simp [h])
  case h_3 =>
    split
    · exact tells_retarget _ s
    · exact tells_retarget _ s
    · exact .refl s
  case h_4 => exact .refl s

end Sys2Proof.Proofs

/-! What the frost guard's tests and ends show and announce on their way. -/

namespace Sys2Proof.Proofs

open Sys2Proof.Machine

/-! ## What is shown only rises to a defrost -/

/-- Of what the lamps show, at most a defrost has begun. -/
def Rises (s y : State) : Prop := view y = view s ∨ view y = { view s with defrosts := true }

theorem Rises.refl (s : State) : Rises s s := .inl rfl

theorem Rises.trans {a b c : State} (hab : Rises a b) (hbc : Rises b c) : Rises a c := by
  rcases hab with h | h <;> rcases hbc with h' | h' <;> rw [Rises, h', h]
  · exact .inl rfl
  · exact .inr rfl
  · exact .inr rfl
  · exact .inr rfl

theorem between_of_rises {a b c : State} (hab : Rises a b) (hbc : Rises b c) : Between (view a) (view b) (view c) := by
  rcases hab with h | h
  · exact h ▸ between_left _ _
  · have hsame : view c = view b := by
      rcases hbc with h' | h'
      · exact h'
      · rw [h', h]
    exact hsame ▸ between_right _ _

theorem Tells.rises {a b c : State} (hab : Tells a b) (hbc : Tells b c) (h : Rises a b) (h' : Rises b c)
    (hplace : place c = place a → place b = place a) : Tells a c := hab.trans hbc (between_of_rises h h') hplace

/-! ## The order -/

/-- As `view_eq`, with the stage read only for a defrost. -/
theorem view_eq_of_defrosts {s y : State} (hstate : lampStateOf y.seq.state = lampStateOf s.seq.state)
    (hstage : y.frost.stage = .defrosting ↔ s.frost.stage = .defrosting) (hstack : y.demand.stack = s.demand.stack)
    (hfaults : faultSet y = faultSet s) (hfilter : y.filter.state = s.filter.state) : view y = view s := by
  have hdefrosts : decide (y.frost.stage = .defrosting) = decide (s.frost.stage = .defrosting) :=
    decide_eq_decide.mpr hstage
  show View.mk _ _ _ _ _ = View.mk _ _ _ _ _
  rw [View.mk.injEq]
  exact ⟨hstate, hdefrosts, congrArg List.isEmpty hstack, congrArg FaultSet.any hfaults, hfilter⟩

theorem withdraw_view {st : FrostStage} {s : State} (hst : st ≠ .defrosting) (hs : s.frost.stage ≠ .defrosting) :
    view (withdraw st s) = view s ∧ (withdraw st s).frost.stage = st ∧ (withdraw st s).seq = s.seq := by
  obtain ⟨hstack, hfaults, hfilter⟩ := setStage_view st (clearContention (queueNotice .withdraw false s))
  have hstage : (withdraw st s).frost.stage = st := setStage_stage st _
  exact ⟨view_eq_of_defrosts (by simp) (by simp [hstage, hst, hs]) hstack (hfaults.trans rfl) hfilter, hstage, by simp⟩

theorem stageByAccount_ne (a : Nat) : stageByAccount a ≠ .defrosting := by unfold stageByAccount; split <;> decide

/-- An order to defrost leaves what the lamps show of the sequencer. -/
theorem takeDefrostOrder_view (s : State) : view (takeDefrostOrder s) = view s := by
  refine view_eq ?_ (by rw [(ordered_takeDefrostOrder s).frost]) (ordered_takeDefrostOrder s).stack
    (faultSet_eq (by simp) (by simp) (by simp)) (by simp)
  unfold takeDefrostOrder
  split
  case h_1 h => simp [enterDirect_seq, h, lampStateOf]
  case h_2 h => simp [beginReversing_seq, h, lampStateOf]
  case h_3 h =>
    split
    · simp [enterDirect_seq, h, lampStateOf]
    · simp [beginReversing_seq, h, lampStateOf]
  case h_4 h =>
    cases ht : s.seq.target
    case none => rw [retarget, ht]
    case some g =>
      rw [retarget_seq ht]
      split <;> rfl
  case h_5 => rfl
  case h_6 => rfl

theorem tells_ordering (s : State) : Tells s (ordering s) :=
  (tells_setStage .defrosting s).then_same (c := ordering s) (.off rfl rfl rfl) (view_eq rfl rfl rfl rfl rfl) rfl

theorem ordering_view (s : State) : view (ordering s) = { view s with defrosts := true } := by
  obtain ⟨hstack, hfaults, hfilter⟩ := setStage_view .defrosting s
  have hseq : (ordering s).seq = s.seq := by simp
  have hstage : (ordering s).frost.stage = .defrosting := by rw [ordering_frost]
  unfold view viewOf lampInputs
  rw [hseq, hstage, show faultSet (ordering s) = faultSet s from hfaults,
    show (ordering s).filter.state = s.filter.state from hfilter,
    show (ordering s).demand.stack = s.demand.stack from hstack]
  rfl

/-- An order that the sequencer takes. -/
theorem orderDefrost_taken {s : State} (h : s.seq.state.refusesDefrost = false) :
    Tells s (orderDefrost s) ∧ view (orderDefrost s) = { view s with defrosts := true }
      ∧ (orderDefrost s).frost.stage = .defrosting := by
  have hstage : (orderDefrost s).frost.stage = .defrosting := by rw [orderDefrost_frost h]
  refine ⟨?_, ?_, hstage⟩
  · have hplace (hp : place (orderDefrost s) = place s) : place (ordering s) = place s := by
      have hdefrosts : (orderDefrost s).frost.stage = s.frost.stage := congrArg Prod.snd hp
      have hordering : (ordering s).frost.stage = .defrosting := by rw [ordering_frost]
      rw [place, place, ordering_seq, hordering, ← hstage, hdefrosts]
    have hview : view (takeDefrostOrder (ordering s)) = view (ordering s) := takeDefrostOrder_view _
    rw [orderDefrost_eq h] at hplace ⊢
    exact (tells_ordering s).trans (tells_takeDefrostOrder _) (hview ▸ between_right _ _) hplace
  · rw [orderDefrost_eq h, takeDefrostOrder_view, ordering_view]

theorem orderDefrost_not_taken {s : State} (h : s.seq.state.refusesDefrost = true) (hs : s.frost.stage ≠ .defrosting) :
    Tells s (orderDefrost s) ∧ view (orderDefrost s) = view s
      ∧ (orderDefrost s).frost.stage = stageByAccount s.frost.account ∧ (orderDefrost s).seq = s.seq := by
  rw [orderDefrost_refused h]
  exact ⟨tells_withdraw _ s, withdraw_view (stageByAccount_ne _) hs⟩

theorem tells_orderDefrost {s : State} (hs : s.frost.stage ≠ .defrosting) : Tells s (orderDefrost s) ∧ Rises s (orderDefrost s) := by
  cases h : s.seq.state.refusesDefrost
  · obtain ⟨htold, hview, -⟩ := orderDefrost_taken h
    exact ⟨htold, .inr hview⟩
  · obtain ⟨htold, hview, -⟩ := orderDefrost_not_taken h hs
    exact ⟨htold, .inl hview⟩

/-! ## The forced test and the want test -/

theorem forced_view (s : State) : view (forced s) = view s := view_eq rfl rfl rfl rfl rfl

theorem tells_forcedTest (s : State) :
    Tells s (forcedTest s) ∧ Rises s (forcedTest s)
      ∧ (forcedTest s = s ∨ (s.frost.stage ≠ .defrosting ∧ (forcedTest s).frost.stage = .defrosting)) := by
  cases h : forcedHolds s
  · rw [forcedTest_idle h]
    exact ⟨.refl s, .refl s, .inl rfl⟩
  · obtain ⟨-, hstage, -, htakes⟩ := (forcedHolds_iff s).mp h
    obtain ⟨htold, hview, hdefrosts⟩ := orderDefrost_taken (s := forced s) htakes
    have hforced : Tells s (forced s) := .plain rfl rfl rfl rfl rfl rfl
    rw [forcedTest_forced h]
    refine ⟨hforced.after_same htold (forced_view s) rfl, .inr (hview.trans ?_), .inr ⟨hstage, hdefrosts⟩⟩
    rw [forced_view]

theorem setStage_view_eq {st : FrostStage} {s : State} (hst : st ≠ .defrosting) (hs : s.frost.stage ≠ .defrosting) :
    view (setStage st s) = view s := by
  obtain ⟨hstack, hfaults, hfilter⟩ := setStage_view st s
  exact view_eq_of_defrosts (by simp) (by simp [hst, hs]) hstack hfaults hfilter

/-- A move to a stage other than DEFROSTING, and the forced test after it. -/
theorem tells_moveStage {st : FrostStage} {s : State} (hst : st ≠ .defrosting) (hs : s.frost.stage ≠ .defrosting) :
    Tells s (moveStage st s) ∧ Rises s (moveStage st s)
      ∧ ((moveStage st s).frost.stage = .defrosting ∨ ((moveStage st s).frost.stage = st ∧ (moveStage st s).seq = s.seq)) := by
  unfold moveStage
  split
  case isTrue h => exact ⟨.refl s, .refl s, .inr ⟨h, rfl⟩⟩
  case isFalse h =>
    have hrises : Rises s (setStage st s) := .inl (setStage_view_eq hst hs)
    obtain ⟨htold, hforced, hcases⟩ := tells_forcedTest (setStage st s)
    refine ⟨(tells_setStage st s).rises htold hrises hforced fun hp => ?_, hrises.trans hforced, ?_⟩
    · rcases hcases with hidle | ⟨-, hdefrosts⟩
      · rw [← hp, hidle]
      · have hstage : (forcedTest (setStage st s)).frost.stage = s.frost.stage := congrArg Prod.snd hp
        exact absurd (hstage.symm.trans hdefrosts) hs
    · rcases hcases with hidle | ⟨-, hdefrosts⟩
      · rw [hidle]
        exact .inr ⟨setStage_stage st s, by simp⟩
      · exact .inl hdefrosts

/-- The want test: nothing, or one change of the stage. -/
theorem tells_wantTest (s : State) :
    Tells s (wantTest s) ∧ Rises s (wantTest s)
      ∧ (wantTest s = s ∨ ((s.frost.stage = .limiting ∨ s.frost.stage = .deferred)
          ∧ ((wantTest s).frost.stage = .defrosting ∨ (wantTest s).frost.stage = .contending
            ∨ (wantTest s).frost.stage = .deferred))) := by
  cases hwant : wantHolds s
  · rw [wantTest_idle hwant]
    exact ⟨.refl s, .refl s, .inl rfl⟩
  · obtain ⟨-, hstage, hskips, -⟩ := (wantHolds_iff s).mp hwant
    have hs : s.frost.stage ≠ .defrosting := by rcases hstage with h | h <;> simp [h]
    unfold wantTest
    rw [if_pos hwant]
    split
    · obtain ⟨htold, hview, hdefrosts⟩ := orderDefrost_taken (takesDefrost_of_wants hskips)
      exact ⟨htold, .inr hview, .inr ⟨hstage, .inl hdefrosts⟩⟩
    · split
      · generalize hy : ({ queueNotice .enter false s with
          frost := { (queueNotice .enter false s).frost with
            contentionStart := some s.now, entryAccount := none, windowEnd := none } } : State) = y
        have hcontend : contend s = moveStage .contending y := by rw [← hy]; rfl
        have hsame : Tells s y := by rw [← hy]; exact .plain rfl rfl rfl rfl rfl rfl
        have hview : view y = view s := by rw [← hy]; exact view_eq rfl rfl rfl rfl rfl
        have hplace : place y = place s := by rw [← hy]; rfl
        obtain ⟨htold, hrises, hmoved⟩ := tells_moveStage (st := .contending) (s := y) (by decide)
          (by rw [← hy]; exact hs)
        rw [hcontend]
        refine ⟨hsame.after_same htold hview hplace, Rises.trans (.inl hview) hrises, .inr ⟨hstage, ?_⟩⟩
        rcases hmoved with h | ⟨h, -⟩
        · exact .inl h
        · exact .inr (.inl h)
      · obtain ⟨htold, hrises, hmoved⟩ := tells_moveStage (st := .deferred) (by decide) hs
        refine ⟨htold, hrises, .inr ⟨hstage, ?_⟩⟩
        rcases hmoved with h | ⟨h, -⟩
        · exact .inl h
        · exact .inr (.inr h)

end Sys2Proof.Proofs

/-! What the ends of a defrost and of its waits show and announce on their way. -/

namespace Sys2Proof.Proofs

open Sys2Proof.Machine

theorem tells_onlyIf {b : Bool} {f : State → State} {m : State} (h : b = true → Tells m (f m)) :
    Tells m (onlyIf b f m) := by
  cases b
  · exact .refl m
  · exact h rfl

/-! ## The end of a defrost at the sequencer -/

/-- Where no defrost runs, a change of the sequencer's state other than a stop leaves the frost guard and its notices. -/
theorem changeSeq_frost_same {q : SeqRec} {s : State} (hstop : q.state ≠ .stopped) (hst : s.frost.stage ≠ .defrosting) :
    (changeSeq q s).frost = s.frost ∧ (changeSeq q s).line.steady = s.line.steady := by
  have h := held_changeSeq q s
  have hnotice : noticeAfterSeq q.state s.seq.state s.frost = false := by simp [noticeAfterSeq, hstop, hst]
  rw [frostAfterSeq_same hstop fun e => absurd e hst, hnotice] at h
  exact ⟨congrArg Held.frost h, congrArg Held.line h⟩

theorem enterRest_frost_same {s : State} (hst : s.frost.stage ≠ .defrosting) :
    (enterRest s).frost = s.frost ∧ (enterRest s).line.steady = s.line.steady :=
  changeSeq_frost_same (s := zeroDrive s) (by simp) hst

theorem beginReversing_frost_same {g : Target} {s : State} (hst : s.frost.stage ≠ .defrosting) :
    (beginReversing g s).frost = s.frost ∧ (beginReversing g s).line.steady = s.line.steady := by
  have h := changeSeq_frost_same
    (q := { s.seq with state := .reversing, phase := none, target := some g, phaseStart := none }) (by simp) hst
  unfold beginReversing
  simpa using h

theorem retarget_frost_same {g : Target} {s : State} (hstate : s.seq.state = .reversing) :
    (retarget g s).frost = s.frost ∧ (retarget g s).line.steady = s.line.steady := by
  cases ht : s.seq.target
  case none => rw [retarget, ht]; exact ⟨rfl, rfl⟩
  case some h => exact ⟨congrArg Held.frost (held_retarget hstate ht), congrArg Held.line (held_retarget hstate ht)⟩

/-- R26 moves nothing of the frost guard, which has already left DEFROSTING. -/
theorem takeDefrostEnd_frost_same {s : State} (hst : s.frost.stage ≠ .defrosting) :
    (takeDefrostEnd s).frost = s.frost ∧ (takeDefrostEnd s).line.steady = s.line.steady := by
  unfold takeDefrostEnd
  split
  case h_1 =>
    split
    · exact enterRest_frost_same hst
    · split
      · exact changeSeq_frost_same (by simp) hst
      · exact beginReversing_frost_same hst
  case h_2 h =>
    split
    · exact retarget_frost_same h
    · exact ⟨rfl, rfl⟩
  case h_3 => exact ⟨rfl, rfl⟩
  case h_4 => exact ⟨rfl, rfl⟩

/-- The state in which the end of a defrost finds the sequencer. -/
def defrostLeft (st : FrostStage) (s : State) : State := takeDefrostEnd (leaveDefrost (setStage st s))

theorem defrostLeft_stage {st : FrostStage} {s : State} (hst : st ≠ .defrosting) : (defrostLeft st s).frost.stage = st := by
  have hstage : (leaveDefrost (setStage st s)).frost.stage = st := setStage_stage st s
  rw [defrostLeft, (takeDefrostEnd_frost_same (by rw [hstage]; exact hst)).1, hstage]

/-- R83: the stage leaves DEFROSTING, and the sequencer follows. -/
theorem tells_defrostLeft {st : FrostStage} {s : State} (hst : st ≠ .defrosting) (hs : s.frost.stage = .defrosting) :
    Tells s (defrostLeft st s) := by
  have hfinal := defrostLeft_stage (s := s) hst
  unfold defrostLeft at hfinal ⊢
  have hleft : Tells s (leaveDefrost (setStage st s)) :=
    (tells_setStage st s).then_same (.plain rfl rfl rfl rfl rfl rfl) (view_eq rfl rfl rfl rfl rfl) rfl
  obtain ⟨hstack, hfaults, hfilter⟩ := setStage_view st s
  have hseq : (setStage st s).seq = s.seq := by simp
  refine hleft.trans (tells_takeDefrostEnd _) (between_of (.inl (congrArg (fun q : SeqRec => lampStateOf q.state) hseq))
    (.inr ((setStage_stage st s).trans hfinal.symm)) (.inl hstack) (.inl hfaults) (.inl hfilter)) fun hp => ?_
  have hstage : (takeDefrostEnd (leaveDefrost (setStage st s))).frost.stage = s.frost.stage := congrArg Prod.snd hp
  exact absurd (hfinal.symm.trans (hstage.trans hs)) hst

theorem defrostLeft_account (st : FrostStage) (s : State) : (defrostLeft st s).frost.account = s.frost.account := by
  unfold defrostLeft
  simp [setStage_frost]

theorem endDefrost_eq (st : FrostStage) (s : State) : endDefrost st s = forcedTest (defrostLeft st s) := rfl

theorem endDefrost_low {st : FrostStage} {s : State} (h : s.frost.account < 3200) : endDefrost st s = defrostLeft st s := by
  rw [endDefrost_eq, forcedTest_idle]
  exact forcedHolds_low (by rwa [defrostLeft_account])

theorem tells_closeStep {s : State} (h : meltStepOver s = true) : Tells s (closeStep s) := by
  have hstage : s.frost.stage = .defrosting := by
    unfold meltStepOver at h
    simp at h
    exact h.1
  unfold closeStep
  split
  case h_1 e _ =>
    unfold closeMeltStep
    dsimp only
    split
    · rw [endDefrost_low (show (setAccount 0 (meltStep e s)).frost.account < 3200 from Nat.zero_lt_succ _)]
      have hplain : Tells s (setAccount 0 (meltStep e s)) := .off rfl rfl rfl
      exact hplain.after_same (tells_defrostLeft (s := setAccount 0 (meltStep e s)) (by decide) hstage)
        (view_eq rfl rfl rfl rfl rfl) rfl
    · exact .off rfl rfl rfl
  case h_2 => exact .refl s

theorem tells_timeOutDefrost {s : State} (h : defrostTimedOut s = true) (hlow : s.frost.account < 3200) :
    Tells s (timeOutDefrost s) := by
  have hstage : s.frost.stage = .defrosting := by
    unfold defrostTimedOut at h
    simp at h
    exact h.1.1
  unfold timeOutDefrost
  rw [endDefrost_low (s := startLockout s) hlow]
  have hplain : Tells s (startLockout s) := .off rfl rfl rfl
  exact hplain.after_same (tells_defrostLeft (s := startLockout s) (by decide) hstage) (view_eq rfl rfl rfl rfl rfl) rfl

theorem tells_endBlindDefrost (s : State) : Tells s (endBlindDefrost s) := by
  have hplain : Tells s (clearBlindDefrost (queueNotice .leave false (setAccount 0 s))) := .plain rfl rfl rfl rfl rfl rfl
  exact hplain.after_same (tells_takeDefrostEnd _) (view_eq rfl rfl rfl rfl rfl) rfl

/-! ## The tests after a stage has ended -/

/-- A want test after the stage has left `old` for good. -/
theorem tells_then_want {old : FrostStage} {s x : State} (hx : Tells s x) (hrises : Rises s x) (hs : s.frost.stage = old)
    (hold : old ≠ .defrosting ∧ old ≠ .contending ∧ old ≠ .deferred) (hleft : x.frost.stage ≠ old) :
    Tells s (wantTest x) ∧ Rises s (wantTest x) := by
  obtain ⟨htold, hup, hcases⟩ := tells_wantTest x
  refine ⟨hx.rises htold hrises hup fun hp => ?_, hrises.trans hup⟩
  have hstage : (wantTest x).frost.stage = old := (congrArg Prod.snd hp).trans hs
  obtain ⟨h1, h2, h3⟩ := hold
  rcases hcases with hidle | ⟨-, h | h | h⟩
  · rw [hidle] at hstage
    exact absurd hstage hleft
  · exact absurd (hstage.symm.trans h) h1
  · exact absurd (hstage.symm.trans h) h2
  · exact absurd (hstage.symm.trans h) h3

theorem stageByAccount_cases (a : Nat) : stageByAccount a = .limiting ∨ stageByAccount a = .clear := by
  unfold stageByAccount
  split <;> simp

theorem tells_endLockout {s : State} (h : s.frost.stage = .lockout) : Tells s (endLockout s) := by
  generalize hy : ({ s with frost := { s.frost with lockoutEnd := none } } : State) = y
  have hplain : Tells s y := by rw [← hy]; exact .off rfl rfl rfl
  have hview : view y = view s := by rw [← hy]; exact view_eq rfl rfl rfl rfl rfl
  have hplace : place y = place s := by rw [← hy]; rfl
  have hystage : y.frost.stage = .lockout := by rw [← hy]; exact h
  obtain ⟨htold, hrises, hmoved⟩ := tells_moveStage (s := y) (stageByAccount_ne s.frost.account) (by simp [hystage])
  have hleft : (moveStage (stageByAccount s.frost.account) y).frost.stage ≠ .lockout := by
    rcases hmoved with h' | ⟨h', -⟩
    · simp [h']
    · rw [h']
      rcases stageByAccount_cases s.frost.account with h'' | h'' <;> simp [h'']
  have hmovedTold := hplain.after_same htold hview hplace
  have heq : endLockout s = (if (moveStage (stageByAccount s.frost.account) y).frost.stage = .limiting then
      wantTest (moveStage (stageByAccount s.frost.account) y) else moveStage (stageByAccount s.frost.account) y) := by
    rw [← hy]; rfl
  rw [heq]
  split
  · exact (tells_then_want hmovedTold (Rises.trans (.inl hview) hrises) h (by decide) hleft).1
  · exact hmovedTold

theorem tells_decideWindow {s : State} (h : windowOver s = true) : Tells s (decideWindow s) := by
  have hstage : s.frost.stage = .contending := by
    unfold windowOver at h
    simp at h
    exact h.1
  generalize hy : ({ s with frost := { s.frost with windowEnd := none } } : State) = y
  have hplain : Tells s y := by rw [← hy]; exact .off rfl rfl rfl
  have hview : view y = view s := by rw [← hy]; exact view_eq rfl rfl rfl rfl rfl
  have hplace : place y = place s := by rw [← hy]; rfl
  have hystage : y.frost.stage ≠ .defrosting := by rw [← hy]; simp [hstage]
  have heq : decideWindow s = (if s.seq.state.refusesDefrost then withdraw (stageByAccount s.frost.account) y
      else if precedenceCount s < s.cfg.allowance then orderDefrost y else forcedTest (withdraw .deferred y)) := by
    rw [← hy]; rfl
  rw [heq]
  split
  · exact hplain.after_same (tells_withdraw _ y) hview hplace
  · split
    · exact hplain.after_same (tells_orderDefrost hystage).1 hview hplace
    · obtain ⟨hwview, hwstage, -⟩ := withdraw_view (st := .deferred) (by decide) hystage
      obtain ⟨htold, hrises, hcases⟩ := tells_forcedTest (withdraw .deferred y)
      refine hplain.after_same ((tells_withdraw _ y).rises htold (.inl hwview) hrises fun hp => ?_) hview hplace
      have hfinal : (forcedTest (withdraw .deferred y)).frost.stage = .contending :=
        (congrArg Prod.snd hp).trans ((congrArg Prod.snd hplace).trans hstage)
      rcases hcases with hidle | ⟨-, hdefrosts⟩
      · rw [hidle, hwstage] at hfinal
        cases hfinal
      · rw [hdefrosts] at hfinal
        cases hfinal

/-! ## BLIND -/

theorem tells_enterBlind (s : State) : Tells s (enterBlind s) := by
  unfold enterBlind
  split
  case h_4 => exact tells_withdraw _ s
  case h_5 =>
    exact tells_staged (y := { s with frost := { s.frost with lockoutEnd := none } }) .blind (.off rfl rfl rfl)
      (view_eq rfl rfl rfl rfl rfl) rfl
  case h_6 =>
    exact tells_staged (y := { s with frost := { s.frost with blindDefrost := true, meltStepEnd := none } }) .blind
      (.off rfl rfl rfl) (view_eq rfl rfl rfl rfl rfl) rfl
  case h_7 => exact .refl s
  all_goals exact tells_setStage _ s

theorem tells_leaveBlind (s : State) : Tells s (leaveBlind s) := by
  unfold leaveBlind
  split
  case isFalse => exact .refl s
  case isTrue h =>
    split
    · have hstaged := tells_staged (s := s) (y := { s with frost := { s.frost with blindDefrost := false } }) .defrosting
        (.off rfl rfl rfl) (view_eq rfl rfl rfl rfl rfl) rfl
      generalize setStage .defrosting { s with frost := { s.frost with blindDefrost := false } } = x at hstaged ⊢
      dsimp only
      split
      · exact hstaged.then_same (.off rfl rfl rfl) (view_eq rfl rfl rfl rfl rfl) rfl
      · exact hstaged
    · have hst : s.frost.stage ≠ stageByAccount s.frost.account := by
        rcases stageByAccount_cases s.frost.account with h' | h' <;> simp [h, h']
      obtain ⟨htold, hrises, hmoved⟩ := tells_moveStage (s := s) (stageByAccount_ne s.frost.account) (by simp [h])
      have heq : moveStage (stageByAccount s.frost.account) s = forcedTest (setStage (stageByAccount s.frost.account) s) :=
        if_neg hst
      rw [← heq]
      dsimp only
      split
      · refine (tells_then_want htold hrises h (by decide) ?_).1
        rcases hmoved with h' | ⟨h', -⟩
        · simp [h']
        · rw [h']
          exact fun e => hst (h.trans e.symm)
      · exact htold

theorem tells_frostOnLineRaised (s : State) : Tells s (frostOnLineRaised s) ∧ Rises s (frostOnLineRaised s) := by
  unfold frostOnLineRaised
  split
  case isTrue h => exact tells_orderDefrost (by simp [h.1])
  case isFalse => exact ⟨.refl s, .refl s⟩

end Sys2Proof.Proofs

/-! What SAMPLE, the end of STARTING and the start of cycling show and announce on their way. -/

namespace Sys2Proof.Proofs

open Sys2Proof.Machine

/-! ## SAMPLE -/

theorem enterBlind_stack (s : State) : (enterBlind s).demand.stack = s.demand.stack := by
  unfold enterBlind
  split
  case h_4 => exact withdraw_stack _ s
  case h_5 => exact (setStage_view .blind { s with frost := { s.frost with lockoutEnd := none } }).1
  case h_6 => exact (setStage_view .blind { s with frost := { s.frost with blindDefrost := true, meltStepEnd := none } }).1
  case h_7 => rfl
  all_goals exact (setStage_view .blind s).1

theorem leaveBlind_stack (s : State) : (leaveBlind s).demand.stack = s.demand.stack := by
  have htested : (forcedTest (setStage (stageByAccount s.frost.account) s)).demand.stack = s.demand.stack :=
    (forcedTest_stack _).trans (setStage_view _ s).1
  unfold leaveBlind
  split
  case isFalse => rfl
  case isTrue =>
    split
    · have hstaged := (setStage_view .defrosting { s with frost := { s.frost with blindDefrost := false } }).1
      dsimp only
      split <;> exact hstaged
    · dsimp only
      split
      · exact (wantTest_stack _).trans htested
      · exact htested

/-- What a change of the OUTER fault does besides the frost guard is not shown. -/
theorem tells_onOuter (x : FaultChange) (s : State) :
    Tells s (onOuter x s) ∧ (onOuter x s).demand.stack = s.demand.stack := by
  cases x
  case kept => exact ⟨.refl s, rfl⟩
  case cleared => exact ⟨tells_leaveBlind s, leaveBlind_stack s⟩
  case raised =>
    generalize hy : ({ spoilRing s with climate := { (spoilRing s).climate with
      ownOutdoor := none, ownOutdoorTime := none, outdoor := none } } : State) = y
    have heq : onOuter .raised s = abandonProbe (enterBlind y) := by rw [← hy]; rfl
    have hplain : Tells s y := by rw [← hy]; exact .off rfl rfl rfl
    have hview : view y = view s := by
      rw [← hy]
      exact view_eq rfl rfl rfl (faultSet_of_channels rfl rfl rfl) rfl
    have hplace : place y = place s := by rw [← hy]; rfl
    have hstack : y.demand.stack = s.demand.stack := by rw [← hy]; rfl
    rw [heq]
    refine ⟨(hplain.after_same (tells_enterBlind y) hview hplace).then_same (tells_abandonProbe _) ?_ (by simp [place]), ?_⟩
    · exact view_eq (by simp) (by simp) (by simp) (faultSet_eq (by simp) (by simp) (by simp)) (by simp)
    · exact (by simp : (abandonProbe (enterBlind y)).demand.stack = (enterBlind y).demand.stack).trans
        ((enterBlind_stack y).trans hstack)

theorem evaluateOutdoor_channels (s : State) :
    ((evaluateOutdoor s).climate.inner, (evaluateOutdoor s).climate.outer, (evaluateOutdoor s).climate.humidity)
      = (s.climate.inner, s.climate.outer, s.climate.humidity) := by
  unfold evaluateOutdoor reformBand
  dsimp only
  split
  · split
    · rfl
    · dsimp only
      split <;> rfl
  · rfl

theorem tells_takeSample (i o h : BitVec 12) (s : State) : Tells s (takeSample i o h s) := by
  unfold takeSample
  dsimp only
  generalize hx : onInner (faultChange s.climate.inner (stepChannels i o h s.climate).inner)
    (recordSample (sampleSet { s with climate := stepChannels i o h s.climate } s.seq.state)
      { s with climate := stepChannels i o h s.climate }) = x
  have hplain : Tells s x := by rw [← hx]; exact .off (by simp) (by simp) (by simp)
  have hplace : place x = place s := by rw [← hx]; simp [place]
  have hstack : x.demand.stack = s.demand.stack := by rw [← hx]; simp
  have hfilter : x.filter.state = s.filter.state := by rw [← hx]; simp
  obtain ⟨houter, hkept⟩ := tells_onOuter (faultChange s.climate.outer (stepChannels i o h s.climate).outer) x
  generalize hw : onOuter (faultChange s.climate.outer (stepChannels i o h s.climate).outer) x = w at houter hkept
  have hwfaults : faultSet w = faultSet x := by
    rw [← hw]
    exact faultSet_of_channels (by simp) (by simp) (by simp)
  have hwfilter : w.filter.state = x.filter.state := by rw [← hw]; simp
  generalize hz : takeSpeedReading (evaluateOutdoor
    (onHumidity (faultChange s.climate.humidity (stepChannels i o h s.climate).humidity) w)) = z
  have hlast : Tells w z := by rw [← hz]; exact .off (by simp) (by simp) (by simp)
  have hzplace : place z = place w := by rw [← hz]; simp [place]
  have hzfaults : faultSet z = faultSet w := by
    rw [← hz]
    refine faultSet_of_channels (by simp) ?_ (by simp)
    have hheard := evaluateOutdoor_channels (onHumidity
      (faultChange s.climate.humidity (stepChannels i o h s.climate).humidity) w)
    simpa using hheard
  have hzfilter : z.filter.state = w.filter.state := by rw [← hz]; simp
  have hstate {a b : State} (h : place a = place b) : lampStateOf a.seq.state = lampStateOf b.seq.state :=
    congrArg (fun p : SeqState × FrostStage => lampStateOf p.1) h
  have hacts : Tells x z := houter.trans hlast (between_of (.inr (hstate hzplace).symm)
    (.inr (congrArg Prod.snd hzplace).symm) (.inl hkept) (.inr hzfaults.symm) (.inr hzfilter.symm)) fun hp => hzplace ▸ hp
  exact hplain.trans hacts (between_of (.inl (hstate hplace)) (.inl (congrArg Prod.snd hplace)) (.inl hstack)
    (.inr (hzfaults.trans hwfaults).symm) (.inl hfilter)) fun _ => hplace

/-! ## The end of STARTING -/

theorem takeLines_flags (raw : LineLevels) (s : State) :
    (takeLines raw s).ctl.stall = s.ctl.stall ∧ (takeLines raw s).ctl.duplicate = s.ctl.duplicate
      ∧ (takeLines raw s).ctl.config = s.ctl.config ∧ (takeLines raw s).ctl.memory = s.ctl.memory := by
  unfold takeLines seedMode
  split <;> simp

theorem tells_endStarting (c : ConfigRecord) (raw : LineLevels) (s : State) : Tells s (endStarting c raw s) := by
  unfold endStarting
  dsimp only
  generalize hx : recompute (startLevels (takeLines raw
    (takeFilterValues (s.loader.filterValues.getD (filterDefaults c)) { s with cfg := c }))) = x
  have hplain : Tells s x := by
    rw [← hx]
    exact .plain (by simp) (by simp [takeLines]) (by simp [takeLines]) (by simp) (by simp) (by simp)
  have hplace : place x = place s := by rw [← hx]; simp [place]
  have hstack : x.demand.stack = s.demand.stack := by rw [← hx]; simp
  have hfaults : faultSet x = faultSet s := by rw [← hx]; simp [faultSet, takeLines_flags]
  have hlisten : Tells x (reformReference (enterListen x)) :=
    (tells_enterListen x).then_same (.off (by simp) (by simp) (by simp))
      (view_eq (by simp) (by simp) (by simp) (faultSet_eq (by simp) (by simp) (by simp)) (by simp)) (by simp [place])
  exact hplain.trans hlisten (between_of (.inl (congrArg (fun p : SeqState × FrostStage => lampStateOf p.1) hplace))
    (.inl (congrArg Prod.snd hplace)) (.inl hstack) (.inl hfaults) (.inr (by simp))) fun _ => hplace

theorem tells_takeFilterRecord (r : Option (List Byte)) (raw : LineLevels) (s : State) :
    Tells s (takeFilterRecord r raw s) := by
  unfold takeFilterRecord
  split
  case h_1 c _ =>
    have hplain : Tells s (takeFilterBytes c r s) := .off (by simp) (by simp) (by simp)
    exact hplain.after_same (tells_endStarting c raw _)
      (view_eq (by simp) (by simp) (by simp) (faultSet_eq (by simp) (by simp) (by simp)) (by simp)) (by simp [place])
  case h_2 => exact .refl s

/-! ## The start of cycling -/

theorem humidOnListenEnd_state (s : State) : (humidOnListenEnd s).humid.state ≠ .boosting := by
  unfold humidOnListenEnd
  split
  case isTrue h => simp [h]
  case isFalse => simp [reseed, leaveBoost]; split <;> simp [endBoost]

theorem clockStarted_line (s : State) :
    (clockStarted s).line = s.line ∧ (clockStarted s).ctl = s.ctl ∧ (clockStarted s).frost = s.frost
      ∧ (clockStarted s).filter = s.filter ∧ (clockStarted s).climate = s.climate
      ∧ (clockStarted s).roomClass = s.roomClass := by
  unfold clockStarted
  split <;> simp

theorem tells_startCycling {s : State} (h : listenOver s = true) : Tells s (startCycling s) := by
  have hstate : s.seq.state = .listen := by
    unfold listenOver at h
    simp at h
    exact h.1
  rw [startCycling_eq]
  generalize hx : openCollection (humidOnListenEnd (clockStarted s)) = x
  have hhumid : x.humid.state ≠ .boosting := by rw [← hx]; exact humidOnListenEnd_state _
  have hxstate : x.seq.state = .listen := by rw [← hx]; simpa using hstate
  have hxline : x.line = s.line ∧ x.ctl = s.ctl ∧ x.frost = s.frost ∧ x.filter = s.filter := by
    rw [← hx]
    simp [clockStarted_line]
  have hxnow : x.now = s.now := by rw [← hx]; simp
  have hxchannels : (x.climate.inner, x.climate.outer, x.climate.humidity)
      = (s.climate.inner, s.climate.outer, s.climate.humidity) := by
    rw [← hx]
    simp [clockStarted_line]
  obtain ⟨hxline, hxctl, hxfrost, hxfilter⟩ := hxline
  obtain ⟨y, hy⟩ : ∃ y, y = ({ x with seq := { x.seq with settling := 2 } } : State) := ⟨_, rfl⟩
  have hcycling : beginCycling x = if y.seq.restHeld then enterRest y else beginReversing (laneDirectionNow y).target y := by
    rw [hy]; rfl
  have hplain : Tells s y := by rw [hy]; exact .off hxnow hxline hxctl
  have hplace : place y = place s := by
    rw [hy, place, place, hstate, ← hxfrost, ← hxstate]
  have hfaults : faultSet y = faultSet s := by
    rw [hy]
    exact faultSet_of_channels (congrArg ControlRec.steady hxctl) hxchannels (congrArg LineRec.active hxline)
  rw [hcycling]
  have hyhumid : y.humid.state ≠ .boosting := by rw [hy]; exact hhumid
  have hystate : y.seq.state = .listen := by rw [hy]; exact hxstate
  have hyfilter : y.filter.state = s.filter.state := by rw [hy]; exact congrArg FilterRec.state hxfilter
  have hway {z : State} (hz : Tells y z) (hstack : z.demand.stack = y.demand.stack) : Tells s z :=
    hplain.trans hz (between_of (.inl (congrArg (fun p : SeqState × FrostStage => lampStateOf p.1) hplace))
      (.inl (congrArg Prod.snd hplace)) (.inr hstack.symm) (.inl hfaults) (.inl hyfilter)) fun _ => hplace
  split
  · refine hway (tells_enterRest (by simp [hystate])) ?_
    exact (changeSeq_view _ (zeroDrive y)).2.2.2 (by simp [boostLost, zeroDrive, hyhumid])
  · refine hway (tells_beginReversing _ (by simp [hystate])) ?_
    exact congrArg Held.stack (held_beginReversing _ y)

end Sys2Proof.Proofs

/-! What a half boundary and a received frame show on their way. -/

namespace Sys2Proof.Proofs

open Sys2Proof.Machine

/-! ## Only a rest ends and a defrost begins -/

/-- Of the sequencer and the frost guard at most a rest has ended and a defrost begun; no fault has changed. -/
structure Climbs (s y : State) : Prop where
  lamp : (view y).lamp = (view s).lamp ∨ ((view s).lamp = .rest ∧ (view y).lamp = .running)
  defrosts : (view s).defrosts = true → (view y).defrosts = true
  faulty : (view y).faulty = (view s).faulty

theorem climbs_of_view {s y : State} (h : view y = view s) : Climbs s y := by
  refine ⟨.inl ?_, fun hd => ?_, ?_⟩ <;> rw [h]
  exact hd

theorem Rises.climbs {s y : State} (h : Rises s y) : Climbs s y := by
  rcases h with h | h
  · exact climbs_of_view h
  · exact ⟨.inl (by rw [h]), fun _ => by rw [h], by rw [h]⟩

theorem Climbs.trans {a b c : State} (hab : Climbs a b) (hbc : Climbs b c) : Climbs a c := by
  refine ⟨?_, fun h => hbc.defrosts (hab.defrosts h), hbc.faulty.trans hab.faulty⟩
  rcases hab.lamp with h | ⟨h1, h2⟩
  · rw [← h]
    exact hbc.lamp
  · rcases hbc.lamp with h' | ⟨h', -⟩
    · exact .inr ⟨h1, h'.trans h2⟩
    · rw [h2] at h'
      cases h'

/-- The rest of what the lamps read: the override stack and the filter state. -/
def SameRest (s y : State) : Prop := y.demand.stack = s.demand.stack ∧ y.filter.state = s.filter.state

theorem SameRest.trans {a b c : State} (hab : SameRest a b) (hbc : SameRest b c) : SameRest a c :=
  ⟨hbc.1.trans hab.1, hbc.2.trans hab.2⟩

theorem between_of_climbs {a b c : State} (hab : Climbs a b) (hbc : Climbs b c)
    (hstack : b.demand.stack = a.demand.stack ∨ b.demand.stack = c.demand.stack)
    (hfilter : b.filter.state = a.filter.state ∨ b.filter.state = c.filter.state) : Between (view a) (view b) (view c) := by
  have hempty {x y : State} (h : x.demand.stack = y.demand.stack) : (view x).stackEmpty = (view y).stackEmpty :=
    congrArg List.isEmpty h
  refine ⟨?_, ?_, hstack.imp hempty hempty, .inl hab.faulty, hfilter⟩
  · rcases hab.lamp with h | ⟨-, h⟩
    · exact .inl h
    · rcases hbc.lamp with h' | ⟨h', -⟩
      · exact .inr h'.symm
      · rw [h] at h'
        cases h'
  · cases hb : (view b).defrosts
    · cases ha : (view a).defrosts
      · exact .inl rfl
      · rw [hab.defrosts ha] at hb
        cases hb
    · exact .inr (hbc.defrosts hb).symm

/-- What a boundary or a frame shows on its way. -/
structure Turns (s y : State) : Prop where
  lit : Lit s y
  climbs : Climbs s y

theorem Turns.trans {a b c : State} (hab : Turns a b) (hbc : Turns b c)
    (hstack : b.demand.stack = a.demand.stack ∨ b.demand.stack = c.demand.stack)
    (hfilter : b.filter.state = a.filter.state ∨ b.filter.state = c.filter.state) : Turns a c :=
  ⟨hab.lit.trans hbc.lit (between_of_climbs hab.climbs hbc.climbs hstack hfilter), hab.climbs.trans hbc.climbs⟩

/-- Two turns of which the second leaves stack and filter state. -/
theorem Turns.then_rest {a b c : State} (hab : Turns a b) (hbc : Turns b c) (h : SameRest b c) : Turns a c :=
  hab.trans hbc (.inr h.1.symm) (.inr h.2.symm)

/-- Two turns of which the first leaves stack and filter state. -/
theorem Turns.after_rest {a b c : State} (hab : Turns a b) (hbc : Turns b c) (h : SameRest a b) : Turns a c :=
  hab.trans hbc (.inl h.1) (.inl h.2)

/-- An update that leaves the lamps, the sequencer, the frost stage and the faults. -/
theorem turns_of_place {s y : State} (hnow : y.now = s.now) (hamber : y.ctl.amber = s.ctl.amber)
    (hgreen : y.ctl.green = s.ctl.green) (hplace : place y = place s) (hfaults : faultSet y = faultSet s) : Turns s y := by
  refine ⟨.plain hnow hamber hgreen, .inl ?_, fun h => ?_, congrArg FaultSet.any hfaults⟩
  · exact congrArg (fun p : SeqState × FrostStage => lampStateOf p.1) hplace
  · exact (congrArg (fun p : SeqState × FrostStage => decide (p.2 = .defrosting)) hplace).trans h

theorem turns_off {s y : State} (hnow : y.now = s.now) (hctl : y.ctl = s.ctl) (hplace : place y = place s)
    (hclimate : (y.climate.inner, y.climate.outer, y.climate.humidity)
      = (s.climate.inner, s.climate.outer, s.climate.humidity)) (hactive : y.line.active = s.line.active) : Turns s y :=
  turns_of_place hnow (by rw [hctl]) (by rw [hctl]) hplace (faultSet_of_channels (by rw [hctl]) hclimate hactive)

theorem Turns.refl (s : State) : Turns s s := turns_off rfl rfl rfl rfl rfl

theorem turns_of_rises {s y : State} (h : Tells s y ∧ Rises s y) : Turns s y := ⟨h.1.lit, h.2.climbs⟩

/-! ## The sequencer at a boundary -/

/-- A motion of the sequencer that keeps the lamp and moves nothing else that is shown. -/
structure Steers (s y : State) : Prop where
  turns : Turns s y
  rest : SameRest s y

theorem Steers.refl (s : State) : Steers s s := ⟨.refl s, rfl, rfl⟩

theorem Steers.trans {a b c : State} (hab : Steers a b) (hbc : Steers b c) : Steers a c :=
  ⟨hab.turns.then_rest hbc.turns hbc.rest, hab.rest.trans hbc.rest⟩

theorem steers_of {s y : State} (htold : Tells s y) (hfaults : faultSet y = faultSet s)
    (hstage : y.frost.stage = s.frost.stage)
    (hlamp : lampStateOf y.seq.state = lampStateOf s.seq.state
      ∨ (lampStateOf s.seq.state = .rest ∧ lampStateOf y.seq.state = .running)) (hrest : SameRest s y) : Steers s y :=
  ⟨⟨htold.lit, hlamp, fun h => (congrArg (fun st => decide (st = FrostStage.defrosting)) hstage).trans h,
    congrArg FaultSet.any hfaults⟩, hrest⟩

theorem beginReversing_view (g : Target) (s : State) :
    (beginReversing g s).frost.stage = s.frost.stage ∧ faultSet (beginReversing g s) = faultSet s
      ∧ (beginReversing g s).seq.state = .reversing ∧ SameRest s (beginReversing g s) := by
  have h := held_beginReversing g s
  refine ⟨?_, faultSet_of_held h rfl rfl rfl, congrArg (fun y : Held => y.seq.state) h, congrArg Held.stack h, by simp⟩
  exact (congrArg (fun y : Held => y.frost.stage) h).trans (frostAfterSeq_stage (by decide) (by decide))

theorem steers_beginReversing (g : Target) {s : State} (h : s.seq.state ≠ .reversing)
    (hlamp : lampStateOf s.seq.state = .running ∨ lampStateOf s.seq.state = .rest) : Steers s (beginReversing g s) := by
  obtain ⟨hstage, hfaults, hstate, hrest⟩ := beginReversing_view g s
  refine steers_of (tells_beginReversing g h) hfaults hstage ?_ hrest
  rw [hstate]
  rcases hlamp with h' | h'
  · exact .inl h'.symm
  · exact .inr ⟨h', rfl⟩

theorem steers_enterDirect {st : SeqState} {s : State} (hst : lampStateOf st = .running)
    (h : lampStateOf s.seq.state = .running) : Steers s (enterDirect st s) := by
  obtain ⟨hstage, hstack, hfaults, hfilter⟩ := changeSeq_running_view (q := { s.seq with state := st }) (s := s)
    (by rintro rfl; simp [lampStateOf] at hst) (by rintro rfl; simp [lampStateOf] at hst)
  refine steers_of (tells_enterDirect st s) hfaults hstage (.inl ?_) ⟨hstack, hfilter⟩
  rw [enterDirect_seq, h]
  exact hst

theorem steers_retarget (g : Target) {s : State} (h : s.seq.state = .reversing) : Steers s (retarget g s) := by
  refine steers_of (tells_retarget g s) (faultSet_eq (by simp) (by simp) (by simp))
    (congrArg FrostRec.stage (retarget_frost_same h).1) (.inl ?_) ⟨?_, by simp⟩
  · cases ht : s.seq.target
    case none => rw [retarget, ht]
    case some t => rw [retarget_seq ht, h]; split <;> simp [h]
  · cases ht : s.seq.target
    case none => rw [retarget, ht]
    case some t => exact congrArg Held.stack (held_retarget h ht)

theorem lampStateOf_dir (d : Dir) : lampStateOf d.state = .running := by cases d <;> rfl

theorem steers_cycleAtBoundary {d : Dir} {s : State} (hstate : s.seq.state = d.state) : Steers s (cycleAtBoundary d s) := by
  have hlamp : lampStateOf s.seq.state = .running := by rw [hstate]; exact lampStateOf_dir d
  have hnot : s.seq.state ≠ .reversing := by rw [hstate]; cases d <;> decide
  unfold cycleAtBoundary
  split
  · split
    · exact steers_enterDirect rfl hlamp
    · exact steers_beginReversing _ hnot (.inl hlamp)
  · split
    · exact .refl s
    · exact steers_beginReversing _ hnot (.inl hlamp)

theorem steers_humidOnDeepExit (s : State) : Steers s (humidOnDeepExit s) :=
  ⟨turns_off (by simp) (by simp) (by simp [place]) (by simp) (by simp), by simp, by simp⟩

theorem steers_rejoinAtBoundary {s : State} (hstate : s.seq.state = .rest) : Steers s (rejoinAtBoundary s) := by
  unfold rejoinAtBoundary
  split
  · exact .refl s
  · have hplain : Steers s { s with seq := { s.seq with rejoin := none, restStart := none } } :=
      ⟨turns_off rfl rfl rfl rfl rfl, rfl, rfl⟩
    have hreversed (g : Target) :
        Steers s (beginReversing g { s with seq := { s.seq with rejoin := none, restStart := none } }) :=
      hplain.trans (steers_beginReversing g (by simp [hstate]) (.inr (by simp [hstate, lampStateOf])))
    dsimp only
    split
    · exact (hreversed _).trans (steers_humidOnDeepExit _)
    · exact hreversed _

theorem steers_sequencerAtBoundary (s : State) : Steers s (sequencerAtBoundary s) := by
  unfold sequencerAtBoundary
  split
  case h_1 h => exact steers_cycleAtBoundary (d := .supply) h
  case h_2 h => exact steers_cycleAtBoundary (d := .extract) h
  case h_3 h =>
    split
    · exact steers_retarget _ h
    · exact steers_retarget _ h
    · split
      · exact steers_retarget _ h
      · exact .refl s
    · exact .refl s
  case h_4 h =>
    split
    · split
      · exact steers_enterDirect (lampStateOf_dir _) (by rw [h]; rfl)
      · exact steers_beginReversing _ (by simp [h]) (.inl (by rw [h]; rfl))
    · exact .refl s
  case h_5 h => exact steers_rejoinAtBoundary h
  case h_6 => exact .refl s

theorem steers_sequencerBoundary (s : State) : Steers s (sequencerBoundary s) := by
  have hsettled : Steers s (settleAtBoundary s) := ⟨turns_off rfl rfl rfl rfl rfl, rfl, rfl⟩
  have hprobe (before : SeqState) (y : State) : Steers y (startTestAtBoundary before y) :=
    ⟨turns_off (by simp) (by simp) (by simp [place]) (by simp) (by simp), by simp, by simp⟩
  exact (hsettled.trans (steers_sequencerAtBoundary _)).trans (hprobe _ _)

/-! ## The monitors at a boundary -/

theorem tests_rest (s : State) :
    SameRest s (forcedTest s) ∧ SameRest s (wantTest s) :=
  ⟨⟨forcedTest_stack s, by simp⟩, wantTest_stack s, by simp⟩

theorem stageAfterChange_ne {st : FrostStage} (h : st ≠ .defrosting) (a : Nat) : stageAfterChange st a ≠ .defrosting := by
  unfold stageAfterChange
  split
  · split <;> decide
  · split <;> decide
  · split
    · exact stageByAccount_ne a
    · decide
  · exact h

theorem steers_forcedTest (s : State) : Steers s (forcedTest s) :=
  ⟨turns_of_rises ⟨(tells_forcedTest s).1, (tells_forcedTest s).2.1⟩, (tests_rest s).1⟩

theorem steers_wantTest (s : State) : Steers s (wantTest s) :=
  ⟨turns_of_rises ⟨(tells_wantTest s).1, (tells_wantTest s).2.1⟩, (tests_rest s).2⟩

theorem moveStage_rest (st : FrostStage) (s : State) : SameRest s (moveStage st s) := by
  unfold moveStage
  split
  · exact ⟨rfl, rfl⟩
  · exact SameRest.trans (b := setStage st s) ⟨(setStage_view st s).1, (setStage_view st s).2.2⟩ (tests_rest _).1

theorem steers_moveStage {st : FrostStage} {s : State} (hst : st ≠ .defrosting) (hs : s.frost.stage ≠ .defrosting) :
    Steers s (moveStage st s) :=
  ⟨turns_of_rises ⟨(tells_moveStage hst hs).1, (tells_moveStage hst hs).2.1⟩, moveStage_rest st s⟩

theorem steers_frostTakesRecord (r : HalfRecord) (s : State) : Steers s (frostTakesRecord r s) := by
  unfold frostTakesRecord
  split
  case isFalse => exact .refl s
  case isTrue h =>
    unfold frostRecord
    dsimp only
    split
    · have hset : Steers s (setAccount (accountByRecord s.frost.account r) s) :=
        ⟨turns_off rfl rfl rfl rfl rfl, rfl, rfl⟩
      have hmoved := steers_moveStage (s := setAccount (accountByRecord s.frost.account r) s)
        (stageAfterChange_ne h.2.2.1 (accountByRecord s.frost.account r)) h.2.2.1
      exact ((hset.trans hmoved).trans (steers_forcedTest _)).trans (steers_wantTest _)
    · split
      · exact (steers_forcedTest s).trans (steers_wantTest _)
      · exact .refl s

theorem steers_frostAtBoundary (s : State) : Steers s (frostAtBoundary s) := by
  unfold frostAtBoundary
  dsimp only
  split
  · exact (steers_forcedTest s).trans (steers_wantTest _)
  · exact steers_forcedTest s

theorem turns_filterTakesRecord (r : HalfRecord) (s : State) :
    Turns s (filterTakesRecord r s) ∧ (filterTakesRecord r s).demand.stack = s.demand.stack :=
  ⟨turns_off (by simp) (by simp) (by simp [place]) (by simp) (by simp), by simp⟩

theorem turns_humidTakesRecord (r : HalfRecord) (s : State) :
    Turns s (humidTakesRecord r s) ∧ (humidTakesRecord r s).filter.state = s.filter.state :=
  ⟨turns_off (by simp) (by simp) (by simp [place]) (by simp) (by simp), by simp⟩

theorem turns_outdoorTakesRecord (r : HalfRecord) (s : State) : Steers s (outdoorTakesRecord r s) := by
  refine ⟨turns_off (by simp) (by simp) (by simp [place]) ?_ (by simp), by simp, by simp⟩
  unfold outdoorTakesRecord
  split
  · exact evaluateOutdoor_channels _
  · rfl

theorem turns_handRecord (r : HalfRecord) (s : State) : Turns s (handRecord r s) := by
  have hclosed : Steers s (outdoorTakesRecord r (closeRecord r s)) :=
    Steers.trans (b := closeRecord r s) ⟨turns_off rfl rfl rfl rfl rfl, rfl, rfl⟩ (turns_outdoorTakesRecord r _)
  unfold handRecord
  dsimp only
  generalize outdoorTakesRecord r (closeRecord r s) = x at hclosed ⊢
  obtain ⟨hfilter, hstack⟩ := turns_filterTakesRecord r x
  generalize filterTakesRecord r x = y at hfilter hstack ⊢
  have hfrost := steers_frostTakesRecord (recordToMonitors r s) y
  generalize frostTakesRecord (recordToMonitors r s) y = z at hfrost ⊢
  obtain ⟨hhumid, hkept⟩ := turns_humidTakesRecord (recordToMonitors r s) z
  have hupto : Turns s z := (hclosed.turns.after_rest hfilter hclosed.rest).then_rest hfrost.turns hfrost.rest
  exact hupto.trans hhumid (.inl (hfrost.rest.1.trans (hstack.trans hclosed.rest.1))) (.inr hkept.symm)

theorem steers_closeBoundary (s : State) : Steers s (closeBoundary s) :=
  ⟨turns_off (by simp [closeBoundary]) (by simp [closeBoundary]) (by simp [closeBoundary, place])
    (by simp [closeBoundary]) (by simp [closeBoundary]), by simp [closeBoundary], by simp [closeBoundary]⟩

theorem turns_boundaryWith (len : Nat) (e : Time) (s : State) : Turns s (boundaryWith len e s) := by
  have hclock : Steers s (sequencerBoundary (advanceClock len e s)) :=
    Steers.trans (b := advanceClock len e s) ⟨turns_off rfl rfl rfl rfl rfl, rfl, rfl⟩ (steers_sequencerBoundary _)
  have hlast (y : State) : Steers y (closeBoundary (frostAtBoundary y)) :=
    (steers_frostAtBoundary y).trans (steers_closeBoundary _)
  unfold boundaryWith
  dsimp only
  exact (hclock.turns.after_rest (turns_handRecord _ _) hclock.rest).then_rest (hlast _).turns (hlast _).rest

end Sys2Proof.Proofs

/-! What a received frame shows on its way, a second boundary at one instant included. -/

namespace Sys2Proof.Proofs

open Sys2Proof.Machine

/-! ## A boundary without samples -/

theorem formRecord_unsampled {s : State} (h : s.climate.window = []) : (formRecord s).valid = false := by
  simp [formRecord, h]

theorem judgeHalf_invalid {r : HalfRecord} (h : r.valid = false) (s : State) :
    (judgeHalf r s).filter.state = s.filter.state := by
  unfold judgeHalf
  have hnot : halfAccepted r s.filter = false := by simp [halfAccepted, h]
  split <;> simp [hnot]

theorem filterTakesRecord_invalid {r : HalfRecord} (h : r.valid = false) (s : State) :
    (filterTakesRecord r s).filter.state = s.filter.state := by
  unfold filterTakesRecord
  split
  · exact (judgeHalf_invalid h _).trans (by simp)
  · rfl

theorem recordToMonitors_invalid {r : HalfRecord} (h : r.valid = false) (s : State) : (recordToMonitors r s).valid = false := by
  simp [recordToMonitors, h]

/-- A record that is not valid moves neither the filter state nor the override stack. -/
theorem handRecord_invalid {r : HalfRecord} (h : r.valid = false) (s : State) : SameRest s (handRecord r s) := by
  have hmonitors := recordToMonitors_invalid h s
  have hfrost (y : State) : frostTakesRecord (recordToMonitors r s) y = y := by
    unfold frostTakesRecord
    simp [hmonitors]
  have hhumid (y : State) : humidTakesRecord (recordToMonitors r s) y = y := by
    unfold humidTakesRecord
    simp [hmonitors]
  have houtdoor (y : State) : outdoorTakesRecord r y = y := by
    unfold outdoorTakesRecord
    simp [h]
  unfold handRecord
  dsimp only
  rw [hfrost, hhumid, houtdoor]
  exact ⟨by simp, (filterTakesRecord_invalid h _).trans (by simp)⟩

theorem steers_boundary_unsampled {s : State} (h : s.climate.window = []) : Steers s (boundary s) := by
  refine ⟨turns_boundaryWith _ _ s, ?_⟩
  have hclock (len : Nat) (e : Time) : Steers s (sequencerBoundary (advanceClock len e s)) :=
    Steers.trans (b := advanceClock len e s) ⟨turns_off rfl rfl rfl rfl rfl, rfl, rfl⟩ (steers_sequencerBoundary _)
  have hlast (y : State) : Steers y (closeBoundary (frostAtBoundary y)) :=
    (steers_frostAtBoundary y).trans (steers_closeBoundary _)
  unfold boundary boundaryWith
  dsimp only
  exact ((hclock _ _).rest.trans (handRecord_invalid (formRecord_unsampled h) _)).trans (hlast _).rest

theorem evaluateOutdoor_window (s : State) : (evaluateOutdoor s).climate.window = s.climate.window := by
  unfold evaluateOutdoor reformBand
  dsimp only
  split
  · split
    · rfl
    · dsimp only
      split <;> rfl
  · rfl

theorem outdoorTakesRecord_window (r : HalfRecord) (s : State) :
    (outdoorTakesRecord r s).climate.window = s.climate.window := by
  unfold outdoorTakesRecord
  split
  · exact evaluateOutdoor_window _
  · rfl

/-- A boundary opens an empty collection. -/
theorem boundaryWith_window (len : Nat) (e : Time) (s : State) : (boundaryWith len e s).climate.window = [] := by
  unfold boundaryWith closeBoundary handRecord
  dsimp only
  simp [outdoorTakesRecord_window, closeRecord, openCollection]

/-! ## The alignment -/

theorem turns_boundaryIfDue (s : State) : Turns s (boundaryIfDue s) := by
  unfold boundaryIfDue
  split
  · exact turns_boundaryWith _ _ s
  · exact .refl s

theorem steers_boundaryIfDue {s : State} (h : s.climate.window = []) : Steers s (boundaryIfDue s) := by
  unfold boundaryIfDue
  split
  · exact steers_boundary_unsampled h
  · exact .refl s

theorem steers_sequencerOnNotice (d : Dir) (s : State) : Steers s (sequencerOnNotice d s) := by
  unfold sequencerOnNotice
  split
  case h_1 h => exact steers_beginReversing _ (by simp [h]) (.inl (by rw [h]; rfl))
  case h_2 h => exact steers_beginReversing _ (by simp [h]) (.inl (by rw [h]; rfl))
  case h_3 h =>
    split
    · exact steers_retarget _ h
    · exact steers_retarget _ h
    · exact .refl s
  case h_4 => exact .refl s

theorem steers_abandonProbe (s : State) : Steers s (abandonProbe s) :=
  ⟨turns_off (by simp) (by simp) (by simp [place]) (by simp) (by simp), by simp, by simp⟩

theorem turns_resync (p : StatusPart) (s : State) : Turns s (resync p s) := by
  have hclock : Steers s { s with clock := { s.clock with
      c := p.half, endTime := some p.endEstimate, length := p.halfLength, startTime := some s.now } } :=
    ⟨turns_off rfl rfl rfl rfl rfl, rfl, rfl⟩
  unfold resync
  dsimp only
  generalize ({ s with clock := { s.clock with
      c := p.half, endTime := some p.endEstimate, length := p.halfLength, startTime := some s.now } } : State) = y
    at hclock ⊢
  split
  · exact hclock.turns.after_rest (turns_boundaryIfDue _) hclock.rest
  · have hturned := (hclock.trans (steers_sequencerOnNotice (laneDirectionNow y) y)).trans (steers_abandonProbe _)
    exact hturned.turns.after_rest (turns_boundaryIfDue _) hturned.rest

theorem turns_alignTo (p : StatusPart) (s : State) : Turns s (alignTo p s) := by
  have hheard : Steers s { s with clock := { s.clock with heardLength := some p.halfLength } } :=
    ⟨turns_off rfl rfl rfl rfl rfl, rfl, rfl⟩
  unfold alignTo
  dsimp only
  generalize ({ s with clock := { s.clock with heardLength := some p.halfLength } } : State) = x at hheard ⊢
  split
  · have hend : Steers s { s with clock := { s.clock with
        heardLength := some p.halfLength, endTime := some p.endEstimate, length := p.halfLength } } :=
      ⟨turns_off rfl rfl rfl rfl rfl, rfl, rfl⟩
    exact hend.turns.after_rest (turns_boundaryIfDue _) hend.rest
  · split
    · have hfirst := hheard.turns.after_rest (turns_boundaryWith p.halfLength p.endEstimate x) hheard.rest
      have hsecond := steers_boundaryIfDue (boundaryWith_window p.halfLength p.endEstimate x)
      exact hfirst.then_rest hsecond.turns hsecond.rest
    · split
      · split
        · exact hheard.turns.after_rest (turns_resync p x) hheard.rest
        · exact hheard.turns
      · exact hheard.turns.after_rest (turns_resync p x) hheard.rest

theorem turns_alignment (n : Nat) (p : StatusPart) (s : State) : Turns s (alignment n p s) := by
  unfold alignment
  split
  · exact turns_alignTo p s
  · exact .refl s

/-! ## A frame -/

theorem steers_reportPlace (freed : Bool) (s : State) : Steers s (reportPlace freed s) := by
  unfold reportPlace
  split
  · exact steers_wantTest s
  · exact .refl s

theorem steers_heard (r : PeerRec) (s : State) : Steers s (reformReference (putPeer r s)) :=
  ⟨turns_off (by simp) (by simp) (by simp [place]) (by simp) (by simp), by simp, by simp⟩

theorem steers_weighOffer (o : Offer) (call : Bool) (s : State) : Steers s (weighOffer o call s) :=
  ⟨turns_off (by simp) (by simp) (by simp [place]) (by simp) (by simp), by simp, by simp⟩

theorem turns_heardBoost (bs : List Byte) (n : Nat) (s : State) : Turns s (heardBoost bs n s) :=
  turns_off (by simp) (by simp) (by simp [place]) (by simp) (by simp)

theorem turns_enterFrame (bs : List Byte) (n : Nat) (arrival : Time) (s : State) : Turns s (enterFrame bs n arrival s) := by
  unfold enterFrame
  split
  · have hupto := ((steers_heard { heardPeer s.peers n arrival with
        status := some (statusPartOf bs arrival)
        defrost := partAfterStatus (heardPeer s.peers n arrival).defrost (statusPartOf bs arrival) arrival } s).trans
      (steers_weighOffer (statusOffer bs) false _)).trans (steers_reportPlace (placeFreed (heardPeer s.peers n arrival).defrost
        (partAfterStatus (heardPeer s.peers n arrival).defrost (statusPartOf bs arrival) arrival)) _)
    exact hupto.turns.after_rest (turns_alignment n _ _) hupto.rest
  · exact ((steers_heard _ s).trans (steers_reportPlace _ _)).turns
  · exact ((steers_heard _ s).trans (steers_weighOffer _ true _)).turns
  · exact (steers_heard _ s).turns.after_rest (turns_heardBoost bs n _) (steers_heard _ s).rest
  · exact .refl s

theorem lit_closeFrame (chars : List Byte) (stops : StopBits) (arrival : Time) (s : State) :
    Lit s (closeFrame chars stops arrival s) := by
  have hempty (tail : Nat) : Steers s (emptyAssembly tail s) := ⟨turns_off rfl rfl rfl rfl rfl, rfl, rfl⟩
  unfold closeFrame
  dsimp only
  split
  · unfold passFrame
    split
    · exact .plain rfl rfl rfl
    · exact ((hempty _).turns.after_rest (turns_enterFrame _ _ _ _) (hempty _).rest).lit
  · exact (hempty _).turns.lit

end Sys2Proof.Proofs

/-! The lamps and the STATUS slot over a whole command (O9, O10, O19). -/

namespace Sys2Proof.Proofs

open Sys2Proof.Machine

/-! ## What each command shows -/

theorem lit_onlyIf {b : Bool} {f : State → State} {m : State} (h : b = true → Lit m (f m)) : Lit m (onlyIf b f m) := by
  cases b
  · exact .refl m
  · exact h rfl

theorem tells_endSpinup {s : State} (h : spinupOver s = true) : Tells s (endSpinup s) := by
  unfold spinupOver inPhase at h
  simp only [Bool.and_eq_true, decide_eq_true_eq] at h
  obtain ⟨⟨hstate, hphase⟩, -⟩ := h
  unfold endSpinup
  split
  · unfold spinupLimit
    split
    · exact tells_completeReversal _ hstate
    · exact tells_takeStall (by simp [SeqRec.moving, hstate, hphase])
  · exact .refl s

theorem tells_enterSpinup (s : State) : Tells s (enterSpinup s) := by
  have hplain : Tells s { s with
      seq := { s.seq with phase := some .spinup, phaseStart := some s.now }
      fan := { s.fan with driveOutput := 350, holdEnd := some (s.now + seconds 1) } } := .off rfl rfl rfl
  exact hplain.after_same (tells_completeAtSpeed _) (view_eq rfl rfl rfl rfl rfl) rfl

theorem tells_measured {f : State → State} {s : State} (h : Tells s (f s)) (hview : view (f s) = view s)
    (hplace : place (f s) = place s) : Tells s (reversalOnSpeed (f s)) := h.after_same (tells_reversalOnSpeed _) hview hplace

theorem tells_capture (s : State) : Tells s (reversalOnSpeed (capture s)) :=
  tells_measured (f := capture) (.off (by simp) (by simp) (by simp))
    (view_eq (by simp) (by simp) (by simp) (faultSet_eq (by simp) (by simp) (by simp)) (by simp)) (by simp [place])

theorem tells_overflow (s : State) : Tells s (reversalOnSpeed (overflow s)) :=
  tells_measured (f := overflow) (.off rfl rfl rfl) (view_eq rfl rfl rfl rfl rfl) rfl

theorem tells_reportStall (s : State) : Tells s (reportStall s) := by
  have hplain : Tells s { s with fan := { s.fan with stallWatch := none } } := .off rfl rfl rfl
  unfold reportStall
  dsimp only
  split
  case isTrue h =>
    exact hplain.after_same (tells_takeStall (s := { s with fan := { s.fan with stallWatch := none } }) h)
      (view_eq rfl rfl rfl rfl rfl) rfl
  case isFalse => exact hplain

theorem tells_endPause {s : State} (h : pauseOver s = true) : Tells s (endPause s) := by
  have hstate : s.seq.state = .paused := by
    unfold pauseOver at h
    simp at h
    exact h.1
  have hplain : Tells s { s with seq := { s.seq with pauseEnd := none, defrostResume := false } } := .off rfl rfl rfl
  exact hplain.after_same (tells_beginReversing _ (by simp [hstate])) (view_eq rfl rfl rfl rfl rfl) rfl

theorem tells_reportPlace (freed : Bool) (s : State) : Tells s (reportPlace freed s) := by
  unfold reportPlace
  split
  · exact (tells_wantTest s).1
  · exact .refl s

theorem tells_makeStale (p : PeerRec) (s : State) : Tells s (makeStale p s) := by
  unfold makeStale
  refine Tells.after_same (.off (by simp) (by simp) (by simp)) (tells_reportPlace _ _) ?_ (by simp [place])
  exact view_eq (by simp) (by simp) (by simp) (faultSet_eq (by simp) (by simp) (by simp)) (by simp)

theorem tells_fallBack (p : PeerRec) (s : State) : Tells s (fallBack p s) := by
  unfold fallBack
  refine Tells.after_same (.off (by simp) (by simp) (by simp)) (tells_reportPlace _ _) ?_ (by simp [place])
  exact view_eq (by simp) (by simp) (by simp) (faultSet_eq (by simp) (by simp) (by simp)) (by simp)

theorem tells_removePeer (p : PeerRec) (s : State) : Tells s (removePeer p s) := by
  unfold removePeer
  generalize hx : removeEntry .houseBoost p.number
    (reformReference { s with peers := s.peers.filter (fun x => x.number ≠ p.number) }) = x
  have hplace : place x = place s := by rw [← hx]; simp [place]
  have hstate : lampStateOf x.seq.state = lampStateOf s.seq.state :=
    congrArg (fun p : SeqState × FrostStage => lampStateOf p.1) hplace
  have hplain : Tells s x := by rw [← hx]; exact .off (by simp) (by simp) (by simp)
  have hfaults : faultSet x = faultSet s := by
    rw [← hx]
    exact faultSet_eq (by simp) (by simp) (by simp)
  have hstack : (reportPlace (standingOf p.defrost ≠ .none) x).demand.stack = x.demand.stack := reportPlace_stack _ x
  exact hplain.trans (tells_reportPlace _ x) (between_of (.inl hstate) (.inl (congrArg Prod.snd hplace)) (.inr hstack.symm)
    (.inl hfaults) (.inl (by rw [← hx]; simp))) fun _ => hplace

theorem tells_ageingEvent {due : PeerRec → Time → Bool} {f : PeerRec → State → State} (h : ∀ p s, Tells s (f p s)) (n : Nat)
    (s : State) : Tells s (ageingEvent due f n s) := by
  rcases ageingEvent_cases due f n s with ⟨p, -, -, he⟩ | he
  · rw [he]; exact h p s
  · rw [he]; exact .refl s

theorem tells_takeHold (s : State) : Tells s (takeHold s) := by
  have hplain : Tells s (setBoostStage .taken none s) := .plain rfl rfl rfl rfl rfl rfl
  have hview : view (setBoostStage .taken none s) = view s := view_eq rfl rfl rfl rfl rfl
  unfold takeHold
  dsimp only
  split
  · exact hplain.after_same (tells_release _) hview rfl
  · exact hplain.after_same (tells_offToggle _) hview rfl

/-- The STATUS slot and its mark. -/
def statusAsked (s : State) : Slot × Bool := (s.line.statusSlot, s.line.statusMark)

theorem statusAsked_of_line {s y : State} (h : y.line = s.line) : statusAsked y = statusAsked s := by
  rw [statusAsked, h, statusAsked]

theorem originateHere_status (s : State) : statusAsked (originateHere s) = statusAsked s := by
  unfold originateHere
  exact statusAsked_of_line (y := originate (originMode s) s.ctl.summerOn s) (by simp)

theorem takePair_status (mode1 mode0 : Level) (s : State) : statusAsked (takePair mode1 mode0 s) = statusAsked s := by
  unfold takePair
  split
  case h_2 => rfl
  case h_1 m _ =>
    have horiginated : statusAsked (originateHere { s with ctl := { s.ctl with modeTaken := some m } }) = statusAsked s :=
      originateHere_status _
    unfold takePosition
    dsimp only
    split
    · exact (statusAsked_of_line (by simp)).trans horiginated
    · exact horiginated

theorem longPress_status (s : State) : statusAsked (longPress s) = statusAsked s := by
  have htoggled : statusAsked (toggleHouseBoost s) = statusAsked s := by
    unfold toggleHouseBoost
    split
    · exact statusAsked_of_line (y := removeEntry .houseBoost (ownNumber s) s) (by simp)
    · exact statusAsked_of_line (y := push _ s) (by simp)
  have hwoken : (wakeByGesture (toggleHouseBoost s)).line = (toggleHouseBoost s).line := by simp
  exact (statusAsked_of_line hwoken).trans htoggled

theorem boostLevel_status (v : Level) (s : State) : statusAsked (boostLevel v s) = statusAsked s := by
  unfold boostLevel
  split
  case h_3 =>
    unfold pressOf
    split
    · exact statusAsked_of_line (by simp [shortPress])
    · split
      · exact longPress_status _
      · rfl
  all_goals rfl

theorem debounceLine_status (c : ControlLine) (v : Level) (s : State) : statusAsked (debounceLine c v s) = statusAsked s := by
  unfold debounceLine
  dsimp only
  split
  · cases c
    case boost => exact boostLevel_status v _
    case filter => exact statusAsked_of_line (by simp [levelChanged])
    case summer => exact originateHere_status _
    case mode1 => rfl
    case mode0 => rfl
  · rfl

/-- An update that leaves the lamps and the STATUS slot with its mark. -/
theorem tells_unasked {s y : State} (hnow : y.now = s.now) (hlamps : y.ctl.amber = s.ctl.amber ∧ y.ctl.green = s.ctl.green)
    (hasked : statusAsked y = statusAsked s) (hsending : y.line.transmission = s.line.transmission) : Tells s y :=
  .plain hnow hlamps.1 hlamps.2 (congrArg Prod.fst hasked) (congrArg Prod.snd hasked) hsending

/-- The commands that receive or send a frame, or ask for a STATUS themselves. -/
def speaks : Instr → Bool
  | .halfBoundary _ | .frameReceived _ _ _ _ | .statusPeriodEnd _ | .frameSent _ | .frameStart _ | .lostContention _ _
  | .collision _ | .lineFaultRaised _ _ => true
  | _ => false

/-- What every other command shows and announces on its way. -/
theorem tells_effect {c : Instr} {m : State} (hquiet : speaks c = false)
    (hlimit : ∀ t, c = .defrostTimeLimit t → m.frost.account < 3200) : Tells m (effectOf c m) := by
  cases c
  case halfBoundary => cases hquiet
  case frameReceived => cases hquiet
  case statusPeriodEnd => cases hquiet
  case frameSent => cases hquiet
  case frameStart => cases hquiet
  case lostContention => cases hquiet
  case collision => cases hquiet
  case lineFaultRaised => cases hquiet
  case reset => exact .refl m
  case filterRecordRead => exact tells_onlyIf fun _ => tells_takeFilterRecord _ _ m
  case listenEnd => exact tells_onlyIf tells_startCycling
  case rundownEnd => exact tells_onlyIf fun _ => tells_endRundown m
  case switchDeadTimeEnd => exact tells_onlyIf fun _ => tells_enterSpinup m
  case spinupHoldEnd => exact tells_onlyIf fun _ => tells_endHold m
  case spinupLimit => exact tells_onlyIf tells_endSpinup
  case tachCapture => exact tells_capture m
  case captureOverflow => exact tells_onlyIf (f := fun x => reversalOnSpeed (overflow x)) fun _ => tells_overflow m
  case stallReport => exact tells_onlyIf fun _ => tells_reportStall m
  case pauseEnd => exact tells_onlyIf tells_endPause
  case sample => exact tells_takeSample _ _ _ m
  case contentionWindowEnd => exact tells_onlyIf tells_decideWindow
  case meltStepEnd => exact tells_onlyIf tells_closeStep
  case defrostTimeLimit t => exact tells_onlyIf fun h => tells_timeOutDefrost h (hlimit t rfl)
  case blindDefrostLimit => exact tells_onlyIf fun _ => tells_endBlindDefrost m
  case lockoutEnd =>
    refine tells_onlyIf fun h => tells_endLockout ?_
    unfold lockoutOver at h
    simp at h
    exact h.1
  case peerStale => exact tells_ageingEvent tells_makeStale _ m
  case peerRemoved => exact tells_ageingEvent tells_removePeer _ m
  case contendingFallback => exact tells_ageingEvent tells_fallBack _ m
  case hold => exact tells_onlyIf fun _ => tells_takeHold m
  case stallHistoryAgeing => exact .off rfl rfl rfl
  case lineFaultCleared =>
    exact tells_onlyIf fun _ => tells_unasked (by simp) (by simp) (by simp [statusAsked, clearLine]) (by simp [clearLine])
  case runSecond => exact .off (by simp [effectOf]) (by simp [effectOf]) (by simp [effectOf])
  case modePositionTaken => exact tells_unasked (by simp [effectOf]) (by simp [effectOf]) (takePair_status _ _ m) (by simp [effectOf])
  case configurationRecordRead =>
    exact tells_onlyIf fun _ => .plain (by simp) (by simp) (by simp) (by simp) (by simp) (by simp)
  case boostCap => exact tells_onlyIf fun _ => .off (by simp) (by simp) (by simp)
  case restCheck => exact tells_onlyIf fun _ => .off (by simp) (by simp) (by simp)
  case overrideExpiry => exact tells_onlyIf fun _ => .off (by simp) (by simp) (by simp)
  case debounce => exact tells_onlyIf fun _ => tells_unasked (by simp) (by simp) (debounceLine_status _ _ m) (by simp)
  case filterReset => exact tells_onlyIf fun _ => .plain (by simp) (by simp) (by simp) (by simp) (by simp) (by simp)
  case writeComplete => exact tells_onlyIf fun _ => .off (by simp) (by simp) (by simp)
  case writeFailed => exact tells_onlyIf fun _ => .plain (by simp) (by simp) (by simp) (by simp) (by simp) (by simp)

/-- The line taken as faulty, before the frost guard answers. -/
def lineRaised (d : Time) (s : State) : State :=
  reformReference { s with line := { s.line with
    active := true, stuckTime := d, transmission := none, assembly := []
    collisions := 0, collisionKind := none, idleTime := 0, busyUntil := none } }

theorem raiseLine_eq (d : Time) (s : State) : raiseLine d s = frostOnLineRaised (lineRaised d s) := rfl

theorem lit_raiseLine (d : Time) (s : State) : Lit s (raiseLine d s) := by
  have hplain : Lit s (lineRaised d s) := .plain (by simp [lineRaised]) (by simp [lineRaised]) (by simp [lineRaised])
  have hview : view (lineRaised d s) = { view s with faulty := (view (lineRaised d s)).faulty } := by
    have hplace : (lineRaised d s).seq = s.seq ∧ (lineRaised d s).frost = s.frost ∧ (lineRaised d s).demand = s.demand
        ∧ (lineRaised d s).filter = s.filter := by simp [lineRaised]
    obtain ⟨hseq, hfrost, hdemand, hfilter⟩ := hplace
    unfold view viewOf lampInputs
    rw [hseq, hfrost, hdemand, hfilter]
  rw [raiseLine_eq]
  obtain ⟨htold, hrises⟩ := tells_frostOnLineRaised (lineRaised d s)
  have hfaulty : (view (frostOnLineRaised (lineRaised d s))).faulty = (view (lineRaised d s)).faulty := hrises.climbs.faulty
  refine hplain.trans htold.lit ⟨.inl ?_, .inl ?_, .inl ?_, .inr hfaulty.symm, .inl ?_⟩ <;> rw [hview]

/-- What every command shows on its way. -/
theorem lit_effect {c : Instr} {m : State} (hlimit : ∀ t, c = .defrostTimeLimit t → m.frost.account < 3200) :
    Lit m (effectOf c m) := by
  cases hspeaks : speaks c
  · exact (tells_effect hspeaks hlimit).lit
  · cases c
    case halfBoundary => exact lit_onlyIf fun _ => (turns_boundaryWith _ _ m).lit
    case frameReceived => exact lit_onlyIf fun _ => lit_closeFrame _ _ _ m
    case statusPeriodEnd => exact lit_onlyIf fun _ => .plain rfl rfl rfl
    case frameSent => exact lit_onlyIf fun _ => .plain (by simp) (by simp) (by simp)
    case frameStart => exact lit_onlyIf fun _ => .plain (by simp) (by simp) (by simp)
    case lostContention => exact lit_onlyIf fun _ => .plain (by simp) (by simp) (by simp)
    case collision => exact lit_onlyIf fun _ => .plain (by simp) (by simp) (by simp)
    case lineFaultRaised d t => exact lit_onlyIf fun _ => lit_raiseLine d m
    all_goals cases hspeaks

/-! ## The lamps after a command -/

theorem finish_lamps (m x : State) :
    (finish m x).ctl.amber
        = (if lampInputs m = lampInputs x then x.ctl.amber else x.ctl.amber.show (amberPattern (lampInputs x)) x.now)
    ∧ (finish m x).ctl.green
        = (if lampInputs m = lampInputs x then x.ctl.green else x.ctl.green.show (greenPattern (lampInputs x)) x.now) := by
  have hctl : (finish m x).ctl = (trackLamps m (trackAnnounced m (trackDemand m x))).ctl := by
    unfold finish
    simp
  obtain ⟨hamber, hgreen, -⟩ := trackLamps_lamps m (trackAnnounced m (trackDemand m x))
  have hbefore : (trackAnnounced m (trackDemand m x)).ctl = x.ctl := by simp
  have hnow : (trackAnnounced m (trackDemand m x)).now = x.now := by simp
  have hinputs : lampInputs (trackAnnounced m (trackDemand m x)) = lampInputs x := by simp
  rw [hbefore, hinputs, hnow] at hamber hgreen
  exact ⟨by rw [hctl, hamber], by rw [hctl, hgreen]⟩

theorem show_of_eq {l : Lamp} {p : Pattern} {n : Time} (h : l.pattern = p) : l.show p n = l := if_pos h

/-- One lamp at the end of a command, from a state in which it shows its list. -/
theorem lamp_ends {pat : View → Pattern} (hpat : ∀ a b c, Between a b c → pat c = pat a → pat b = pat a) {l : Lamp}
    {a c : View} {vs : List View} {n : Time} (hl : l.pattern = pat a) (hvs : ∀ v ∈ vs, Between a v c) :
    (lampShown pat n l vs).show (pat c) n = if l.pattern = pat c then l else ⟨pat c, n⟩ := by
  obtain ⟨hsame, hother⟩ := lamp_of_shown hpat hl hvs (n := n)
  split
  case isTrue h =>
    rw [hsame (h.symm.trans hl)]
    exact show_of_eq h
  case isFalse h => exact hother fun e => h (hl.trans e.symm)

/-- Settles O10: on the way through a command every part of what the lamps' lists read is as it was or as it will be, so
that a pattern that stands at both ends never leaves. -/
theorem lampsKeepTheirPhase : Obligations.LampsKeepTheirPhase := by
  intro c s s' hc hexec hinv hlimit
  rcases exec_next_cases hc hexec with ⟨-, rfl⟩ | ⟨t, -, -, rfl⟩
  · exact ⟨fun _ => ⟨rfl, rfl⟩, fun h => absurd rfl h⟩
  · have hm : lampInputs (advance t s) = lampInputs s := by simp
    have hctl : (advance t s).ctl = s.ctl := by simp
    obtain ⟨hamber, hgreen⟩ := hinv
    rw [amberPattern_eq, ← hm, ← hctl] at hamber
    rw [greenPattern_eq, ← hm, ← hctl] at hgreen
    unfold after
    have hlit := lit_effect (c := c) (m := advance t s) fun u hu => by simpa using hlimit u hu
    obtain ⟨hlamba, hlampg⟩ := finish_lamps (advance t s) (effectOf c (advance t s))
    have hinputs : lampInputs (finish (advance t s) (effectOf c (advance t s))) = lampInputs (effectOf c (advance t s)) := by
      simp
    have hnow : (finish (advance t s) (effectOf c (advance t s))).now = (effectOf c (advance t s)).now := by simp
    rw [hinputs, ← hm, hlamba, hlampg, hnow, ← hctl]
    generalize advance t s = m at hlit hamber hgreen
    generalize effectOf c m = x at hlit
    obtain ⟨hxnow, vs, hvs, ha, hg⟩ := hlit
    rw [ha, hg, hxnow]
    refine ⟨fun h => ?_, fun h => ?_⟩
    · have hsame : view x = view m := congrArg viewOf h
      rw [if_pos h.symm, if_pos h.symm]
      exact ⟨(lamp_of_shown (@amberOf_between) hamber hvs).1 (congrArg amberOf hsame),
        (lamp_of_shown (@greenOf_between) hgreen hvs).1 (congrArg greenOf hsame)⟩
    · rw [if_neg (Ne.symm h), if_neg (Ne.symm h), amberPattern_eq, greenPattern_eq]
      exact ⟨lamp_ends (@amberOf_between) hamber hvs, lamp_ends (@greenOf_between) hgreen hvs⟩

/-! ## Every step keeps the lamps at their lists -/

theorem show_pattern (l : Lamp) (p : Pattern) (n : Time) : (l.show p n).pattern = p := by
  unfold Lamp.show
  split
  case isTrue h => exact h
  case isFalse => rfl

/-- A command's last selection of the lamps ends at the lists. -/
theorem lampsInv_finish {m x : State} (h : lampInputs m = lampInputs x → LampsInv x) : LampsInv (finish m x) := by
  obtain ⟨hamber, hgreen⟩ := finish_lamps m x
  have hinputs : lampInputs (finish m x) = lampInputs x := by simp
  unfold LampsInv
  rw [hinputs, hamber, hgreen]
  split
  case isTrue hsame => exact h hsame
  case isFalse => exact ⟨show_pattern _ _ _, show_pattern _ _ _⟩

/-- What is shown without a change of the view leaves the lamps. -/
theorem lampsInv_of_lit {s y : State} (hs : LampsInv s) (h : Lit s y) (hview : view y = view s) : LampsInv y := by
  obtain ⟨-, vs, hvs, ha, hg⟩ := h
  obtain ⟨hamber, hgreen⟩ := hs
  rw [amberPattern_eq] at hamber
  rw [greenPattern_eq] at hgreen
  have hamber' := (lamp_of_shown (@amberOf_between) (a := view s) hamber hvs (n := s.now)).1 (by rw [hview])
  have hgreen' := (lamp_of_shown (@greenOf_between) (a := view s) hgreen hvs (n := s.now)).1 (by rw [hview])
  unfold LampsInv
  rw [ha, hg, hamber', hgreen', amberPattern_eq, greenPattern_eq, hamber, hgreen]
  exact ⟨(congrArg amberOf hview).symm, (congrArg greenOf hview).symm⟩

/-- A stage that is set anew is shown. -/
theorem lampsInv_setStage {st : FrostStage} {s : State} (h : st ≠ s.frost.stage) : LampsInv (setStage st s) := by
  have hdiffers : lampInputs s ≠ lampInputs { s with frost := { s.frost with stage := st } } := fun e =>
    h (congrArg LampInputs.stage e).symm
  have hshown : LampsInv (showChange s { s with frost := { s.frost with stage := st } }) := by
    obtain ⟨hamber, hgreen, hin⟩ := showChange_lamps s { s with frost := { s.frost with stage := st } }
    rw [if_neg hdiffers] at hamber hgreen
    unfold LampsInv
    rw [hamber, hgreen, hin]
    exact ⟨show_pattern _ _ _, show_pattern _ _ _⟩
  unfold setStage
  dsimp only
  split
  · exact lampsInv_of_lit hshown (tells_abandonProbe _).lit
      (view_eq (by simp) (by simp) (by simp) (faultSet_eq (by simp) (by simp) (by simp)) (by simp))
  · exact hshown

/-- A defrost forced in the instant in which another ended is shown anew. -/
theorem lampsInv_orderDefrost {s : State} (hs : s.frost.stage ≠ .defrosting) (h : s.seq.state.refusesDefrost = false) :
    LampsInv (orderDefrost s) := by
  have hordering : LampsInv (ordering s) :=
    lampsInv_of_lit (lampsInv_setStage (st := .defrosting) (Ne.symm hs)) (.plain rfl rfl rfl)
      (view_eq rfl rfl rfl rfl rfl)
  rw [orderDefrost_eq h]
  exact lampsInv_of_lit hordering (tells_takeDefrostOrder _).lit (takeDefrostOrder_view _)

/-- The state after a defrost has timed out shows its lists, or is one in which it began anew. -/
theorem lampsInv_timeOutDefrost {t : Time} {s : State} (hs : LampsInv s) :
    LampsInv (finish (advance t s) (effectOf (.defrostTimeLimit t) (advance t s))) := by
  have hm : LampsInv (advance t s) := by
    unfold LampsInv
    rw [show (advance t s).ctl = s.ctl by simp, show lampInputs (advance t s) = lampInputs s by simp]
    exact hs
  generalize advance t s = m at hm
  refine lampsInv_finish fun hsame => ?_
  rcases onlyIf_cases (defrostTimedOut m) timeOutDefrost m with ⟨hdue, he⟩ | he
  · have heffect : effectOf (.defrostTimeLimit t) m = forcedTest (defrostLeft .lockout (startLockout m)) := he
    have hstage : m.frost.stage = .defrosting := by
      unfold defrostTimedOut at hdue
      simp at hdue
      exact hdue.1.1
    have hleft : (defrostLeft .lockout (startLockout m)).frost.stage = .lockout := defrostLeft_stage (by decide)
    rw [heffect] at hsame ⊢
    generalize defrostLeft .lockout (startLockout m) = x at hsame hleft ⊢
    cases hforced : forcedHolds x
    · rw [forcedTest_idle hforced] at hsame
      have hst : m.frost.stage = x.frost.stage := congrArg LampInputs.stage hsame
      rw [hstage, hleft] at hst
      cases hst
    · obtain ⟨-, -, -, htakes⟩ := (forcedHolds_iff x).mp hforced
      rw [forcedTest_forced hforced]
      exact lampsInv_orderDefrost (s := forced x) (by simp [forced, clearContention, queueNotice, hleft]) htakes
  · have heffect : effectOf (.defrostTimeLimit t) m = m := he
    rw [heffect]
    exact hm

/-- Settles O19: each command ends with the lamps at their lists, and where it shows nothing new they have stayed there. -/
theorem lampsShowTheirLists : Obligations.LampsShowTheirLists := by
  refine keptByStep_of (fun s q h => h) (fun i l cl s => ?_) fun c t s hc hs => ?_
  · exact ⟨rfl, rfl⟩
  · by_cases hlimit : ∀ u, c = .defrostTimeLimit u → s.frost.account < 3200
    · have hm : lampInputs (advance t s) = lampInputs s := by simp
      have hctl : (advance t s).ctl = s.ctl := by simp
      have hadvanced : LampsInv (advance t s) := by
        unfold LampsInv
        rw [hm, hctl]
        exact hs
      refine lampsInv_finish fun hsame => ?_
      exact lampsInv_of_lit hadvanced (lit_effect fun u hu => by simpa using hlimit u hu) (congrArg viewOf hsame.symm)
    · have hcommand : ∃ u, c = .defrostTimeLimit u := by
        by_contra hnot
        exact hlimit fun u hu => absurd ⟨u, hu⟩ hnot
      obtain ⟨u, rfl⟩ := hcommand
      cases hc
      exact lampsInv_timeOutDefrost hs

/-! ## The STATUS slot -/

theorem announced_codes (s : State) :
    (announced s).getD 0 0 = byte s.seq.state.code ∧ (announced s).getD 7 0 = byte (s.frost.stage.code + 16 * preferredRow s) :=
  ⟨rfl, rfl⟩

/-- The announced fields tell the sequencer's state and the frost stage. -/
theorem place_of_announced {s y : State} (h : announced y = announced s) : place y = place s := by
  obtain ⟨hstate, hstage⟩ := announced_codes s
  obtain ⟨hstate', hstage'⟩ := announced_codes y
  rw [h, hstate] at hstate'
  rw [h, hstage] at hstage'
  have hcode (x : SeqState) : x.code < 256 ∧ stateOfCode x.code = some x := by cases x <;> exact ⟨by decide, rfl⟩
  have hcode' (x : FrostStage) : x.code < 16 ∧ stageOfCode x.code = x := by cases x <;> exact ⟨by decide, rfl⟩
  have hrow := preferredRow_le s
  have hrow' := preferredRow_le y
  have hs := hcode' s.frost.stage
  have hy := hcode' y.frost.stage
  have hstates : y.seq.state = s.seq.state := by
    have hnat := congrArg BitVec.toNat hstate'
    rw [byte_toNat_of_lt (hcode _).1, byte_toNat_of_lt (hcode _).1] at hnat
    have hread := congrArg stateOfCode hnat
    rw [(hcode _).2, (hcode _).2] at hread
    exact (Option.some.inj hread).symm
  have hstages : y.frost.stage = s.frost.stage := by
    have hnat := congrArg BitVec.toNat hstage'
    rw [byte_toNat_of_lt (by omega), byte_toNat_of_lt (by omega)] at hnat
    rw [← hs.2, ← hy.2]
    exact congrArg stageOfCode (by omega)
  rw [place, place, hstates, hstages]

theorem statusAsked_onlyIf {b : Bool} {f : State → State} {m : State} (h : b = true → statusAsked (f m) = statusAsked m) :
    statusAsked (onlyIf b f m) = statusAsked m := by
  cases b
  · rfl
  · exact h rfl

theorem startFrame_status (s : State) : statusAsked (startFrame s) = statusAsked s := by
  unfold startFrame
  split <;> rfl

theorem loseContention_status (h : Byte) (s : State) : statusAsked (loseContention h s) = statusAsked s := by
  unfold loseContention
  split <;> rfl

theorem takeCollision_status (e : Time) (s : State) : statusAsked (takeCollision e s) = statusAsked s := by
  unfold takeCollision
  split
  · unfold collide
    dsimp only
    split <;> rfl
  · rfl

/-- What a command asks of the STATUS slot where sequencer and stage end where they began. -/
theorem statusAsked_effect {c : Instr} {m : State} (hb : ∀ t, c ≠ .halfBoundary t)
    (hr : ∀ x b a t, c ≠ .frameReceived x b a t) (hp : ∀ t, c ≠ .statusPeriodEnd t) (hs : ∀ t, c ≠ .frameSent t)
    (hlimit : ∀ t, c = .defrostTimeLimit t → m.frost.account < 3200) (hplace : place (effectOf c m) = place m) :
    statusAsked (effectOf c m) = statusAsked m := by
  have hof {y : State} (htold : Tells m y) (hy : place y = place m) : statusAsked y = statusAsked m := by
    rw [statusAsked, statusAsked, htold.asks.still hy, htold.asks.mark]
  cases hspeaks : speaks c
  · exact hof (tells_effect hspeaks hlimit) hplace
  · cases c
    case halfBoundary t => exact absurd rfl (hb t)
    case frameReceived x b a t => exact absurd rfl (hr x b a t)
    case statusPeriodEnd t => exact absurd rfl (hp t)
    case frameSent t => exact absurd rfl (hs t)
    case frameStart => exact statusAsked_onlyIf fun _ => startFrame_status m
    case lostContention => exact statusAsked_onlyIf fun _ => loseContention_status _ m
    case collision => exact statusAsked_onlyIf fun _ => takeCollision_status _ m
    case lineFaultRaised d t =>
      rcases onlyIf_cases (lineStuck d m) (raiseLine d) m with ⟨-, he⟩ | he
      · have heffect : effectOf (.lineFaultRaised d t) m = frostOnLineRaised (lineRaised d m) := he
        rw [heffect] at hplace ⊢
        have hraised : statusAsked (lineRaised d m) = statusAsked m := by simp [statusAsked, lineRaised]
        have hseen : place (lineRaised d m) = place m := by simp [place, lineRaised]
        have htold := (tells_frostOnLineRaised (lineRaised d m)).1
        rw [← hraised, statusAsked, statusAsked, htold.asks.still (hplace.trans hseen.symm), htold.asks.mark]
      · exact congrArg statusAsked he
    all_goals cases hspeaks

/-- Settles O9: within a command only a change of the sequencer's state or of the frost stage asks for a STATUS, and one that
ends where it began has not moved either. -/
theorem statusSlotHoldsBetweenRequests : Obligations.StatusSlotHoldsBetweenRequests := by
  intro c s s' hc hexec hb hr hp hsent hlimit hannounced
  rcases exec_next_cases hc hexec with ⟨-, rfl⟩ | ⟨t, -, -, rfl⟩
  · exact ⟨rfl, rfl⟩
  · unfold after at hannounced ⊢
    have hm : announced (advance t s) = announced s := rfl
    rw [← hm] at hannounced
    have hplace := place_of_announced hannounced
    have hkept : place (finish (advance t s) (effectOf c (advance t s))) = place (effectOf c (advance t s)) := by
      simp [place]
    have hasked := statusAsked_effect hb hr hp hsent (fun u hu => by simpa using hlimit u hu) (hkept.symm.trans hplace)
    obtain ⟨hslot, hmark⟩ := (finish_status (advance t s) (effectOf c (advance t s))).1 hannounced.symm
    exact ⟨hslot.trans (congrArg Prod.fst hasked), hmark.trans (congrArg Prod.snd hasked)⟩

end Sys2Proof.Proofs

/-! The end of STARTING (O24). -/

namespace Sys2Proof.Proofs

open Sys2Proof.Machine

/-- The local controls once the lines are handed over (R157, R159). -/
def linesTaken (raw : LineLevels) (c : ControlRec) : ControlRec :=
  { c with
    levels := raw
    modeTaken := if positionOf raw.mode1 raw.mode0 = none then c.modeTaken else positionOf raw.mode1 raw.mode0
    fitted := if positionOf raw.mode1 raw.mode0 = none then c.fitted else true
    summerOn := decide (raw.summer = .low)
    boostStage := if raw.boost = .high then .released else .waitRelease
    filterStage := if raw.filter = .high then .released else .waitRelease }

/-- The house mode that the mode switch seeds, where one is fitted. -/
def seededHouse (raw : LineLevels) (h : HouseMode) : HouseMode :=
  { h with mode := (positionOf raw.mode1 raw.mode0).getD h.mode }

/-- The level that the top entry or the house mode wants (R105). -/
def startLevel (raw : LineLevels) (s : State) : Nat :=
  topLevel s.demand.stack (ConfigRecord.level s.cfg (seededHouse raw s.house).mode)

theorem held_startLevels (s : State) :
    held (startLevels s) = { held s with
      requested := topLevel s.demand.stack (ConfigRecord.level s.cfg s.house.mode)
      active := topLevel s.demand.stack (ConfigRecord.level s.cfg s.house.mode) } := by
  unfold startLevels
  rw [wantedLevel_eq]
  rfl

theorem held_startLevels_setHouse (h : HouseMode) (s : State) :
    held (startLevels (setHouse h s)) = { held s with
      house := h
      requested := topLevel s.demand.stack (ConfigRecord.level s.cfg h.mode)
      active := topLevel s.demand.stack (ConfigRecord.level s.cfg h.mode) } := by
  have hset := held_setHouse h s
  rw [held_startLevels, hset, show (setHouse h s).demand.stack = s.demand.stack from congrArg Held.stack hset,
    show (setHouse h s).cfg = s.cfg from congrArg Held.cfg hset, show (setHouse h s).house = h from congrArg Held.house hset]

theorem held_takeLines (raw : LineLevels) (s : State) :
    held (startLevels (takeLines raw s)) = { held s with
      ctl := linesTaken raw s.ctl.steady
      house := seededHouse raw s.house
      requested := startLevel raw s
      active := startLevel raw s } := by
  unfold takeLines seedMode
  cases hpos : positionOf raw.mode1 raw.mode0
  case none =>
    have hlines : linesTaken raw s.ctl.steady = { s.ctl.steady with
        levels := raw, summerOn := decide (raw.summer = .low)
        boostStage := releasedAt raw.boost, filterStage := releasedAt raw.filter } := by rw [linesTaken, hpos]; rfl
    have hhouse : seededHouse raw s.house = s.house := by rw [seededHouse, hpos]; rfl
    rw [held_startLevels, startLevel, hlines, hhouse]
    rfl
  case some m =>
    have hlines : linesTaken raw s.ctl.steady = { s.ctl.steady with
        levels := raw, modeTaken := some m, fitted := true, summerOn := decide (raw.summer = .low)
        boostStage := releasedAt raw.boost, filterStage := releasedAt raw.filter } := by rw [linesTaken, hpos]; rfl
    have hhouse : seededHouse raw s.house = { s.house with mode := m } := by rw [seededHouse, hpos]; rfl
    dsimp only
    rw [held_startLevels_setHouse, startLevel, hlines, hhouse]
    rfl

/-- The filter unit with the values handed over (R131). -/
def filterHanded (v : FilterValues) (f : FilterRec) : FilterRec :=
  { f with
    baseline := v.baseline
    countdown := v.countdown
    runHours := v.runHours
    state := if v.countdown = 0 ∧ v.state = .clean then .due else v.state
    probe := if v.baseline = 0 then .waiting else f.probe }

/-- The end of STARTING with the load buffer's values. -/
theorem held_endStarting {c : ConfigRecord} {raw : LineLevels} {s : State} (hstate : s.seq.state = .starting) :
    held (endStarting c raw s)
      = afterStarting c (s.loader.filterValues.getD (filterDefaults c)) raw s.loader s.now s := by
  generalize hv : s.loader.filterValues.getD (filterDefaults c) = v
  generalize hx : recompute (startLevels (takeLines raw (takeFilterValues v { s with cfg := c }))) = x
  have hform : endStarting c raw s = reformReference (enterListen x) := by rw [← hx, ← hv]; rfl
  have hheld : held x = { held s with
      cfg := c
      filter := filterHanded v s.filter
      ctl := linesTaken raw s.ctl.steady
      house := seededHouse raw s.house
      requested := topLevel s.demand.stack (ConfigRecord.level c (seededHouse raw s.house).mode)
      active := topLevel s.demand.stack (ConfigRecord.level c (seededHouse raw s.house).mode) } := by
    rw [← hx, held_recompute, held_takeLines]
    rfl
  have hxstate : x.seq.state = .starting := (congrArg (fun y : Held => y.seq.state) hheld).trans hstate
  have hlisten := held_enterListen (s := x) (by simp [hxstate]) (by simp [hxstate])
  have hnow : x.now = s.now := by rw [← hx]; simp
  have hclock : x.clock = s.clock := congrArg Held.clock hheld
  have hseq : x.seq = s.seq := congrArg Held.seq hheld
  have hlclock : (enterListen x).clock = { s.clock with listenEnd := some (s.now + seconds 130) } := by
    rw [show (enterListen x).clock = _ from congrArg Held.clock hlisten, hclock, hnow]
  have htiming : timingReference (enterListen x) = timingReference s := by
    refine timingReference_of_eq (by rw [hlclock]) ?_ ?_ ?_
    · exact (congrArg Held.stationIndex hlisten).trans (congrArg Held.stationIndex hheld)
    · exact (congrArg (fun y : Held => y.line.active) hlisten).trans (congrArg (fun y : Held => y.line.active) hheld)
    · exact (congrArg Held.peers hlisten).trans (congrArg Held.peers hheld)
  have hreform : (reformReference (enterListen x)).clock = { s.clock with
      listenEnd := some (s.now + seconds 130)
      reference := timingReference s
      heardLength := if s.clock.reference = timingReference s then s.clock.heardLength else none } := by
    have hlisten' : (enterListen x).seq.state = .listen := congrArg (fun y : Held => y.seq.state) hlisten
    have hnot : (enterListen x).seq.state ≠ .starting := by simp [hlisten']
    unfold reformReference
    rw [htiming, hlclock]
    split
    case isTrue h =>
      have href : s.clock.reference = timingReference s := h.resolve_left hnot
      rw [if_pos href, hlclock, ← href]
    case isFalse h =>
      have href : s.clock.reference ≠ timingReference s := fun e => h (.inr e)
      rw [if_neg href]
  rw [hform, held_reformReference, hreform, hlisten, hheld, hseq]
  rfl

/-- What the end of STARTING does once the filter bytes are in the load buffer. -/
theorem held_takeFilterRecord {c : ConfigRecord} {r : Option (List Byte)} {raw : LineLevels} {l : LoaderRec}
    {v : FilterValues} {s : State} (hstate : s.seq.state = .starting) (hc : s.loader.config = some c)
    (hl : takeFilterBytes c r s = { s with loader := l }) (hv : l.filterValues = some v) :
    held (takeFilterRecord r raw s) = afterStarting c v raw l s.now s := by
  have hform : takeFilterRecord r raw s = endStarting c raw (takeFilterBytes c r s) := by
    unfold takeFilterRecord
    rw [hc]
  rw [hform, hl, held_endStarting (s := { s with loader := l }) hstate]
  dsimp only
  rw [hv]
  rfl

theorem effectOf_filterRecordRead {c : ConfigRecord} {reply : MemoryReply} {raw : LineLevels} {t : Time} {s : State}
    (hstate : s.seq.state = .starting) (hc : s.loader.config = some c) :
    effectOf (.filterRecordRead reply raw t) (advance t s) = takeFilterRecord (MemoryReply.record 8 reply) raw (advance t s) := by
  have hdue : awaitsFilterRecord (advance t s) = true := by simp [awaitsFilterRecord, started, hstate, hc]
  exact if_pos hdue

/-- Settles O24: the four outcomes of the read differ only in the load buffer's values. -/
theorem startingEnds : Obligations.StartingEnds := by
  intro raw t s c hr hstate hc
  have hrun {reply : MemoryReply} {l : LoaderRec} {v : FilterValues}
      (hl : takeFilterBytes c (MemoryReply.record 8 reply) (advance t s) = { advance t s with loader := l })
      (hv : l.filterValues = some v) :
      ∃ s', exec (.filterRecordRead reply raw t) s = .next s' ∧ held s' = afterStarting c v raw l (timeAfter t s) s := by
    refine ⟨_, exec_eq_finish (c := .filterRecordRead reply raw t) rfl hr (effectOf_filterRecordRead hstate hc), ?_⟩
    rw [held_finish, held_takeFilterRecord (by simpa using hstate) (by simpa using hc) hl hv]
    rfl
  refine ⟨fun hw bs hlen => ⟨fun hsum => hrun ?_ rfl, fun hsum => hrun ?_ rfl⟩, fun reply hreply => hrun ?_ rfl⟩
  · have hrecord : MemoryReply.record 8 (.bytes bs) = some bs := by simp [MemoryReply.record, hlen]
    simp [takeFilterBytes, hrecord, hw, hsum]
  · have hrecord : MemoryReply.record 8 (.bytes bs) = some bs := by simp [MemoryReply.record, hlen]
    have hbad : ¬byteSum bs = 0#8 := hsum
    simp [takeFilterBytes, hrecord, hw, hbad, filterDefaults]
  · rcases hreply with rfl | hw
    · simp [takeFilterBytes, MemoryReply.record, filterDefaults]
    · simp [takeFilterBytes, hw, filterDefaults]

end Sys2Proof.Proofs

/-! The end of LISTEN (O26). -/

namespace Sys2Proof.Proofs

open Sys2Proof.Machine

theorem startCycling_clock (s : State) :
    (startCycling s).clock = (clockStarted s).clock ∧ (startCycling s).climate = (openCollection s).climate := by
  rw [startCycling_eq]
  simp [openCollection, clockStarted_line]

/-- The clock that counts, before its reference is formed. -/
def countStarted (s : State) : State :=
  { (match listenPeer s with | some p => adoptCount p s | none => startCount s) with
    clock := { (match listenPeer s with | some p => adoptCount p s | none => startCount s).clock with
      listenEnd := none, running := true } }

theorem clockStarted_eq (s : State) : clockStarted s = reformReference (countStarted s) := rfl

/-- The clock at the end of LISTEN but for its reference and heard length. -/
theorem clockStarted_rest (s : State) :
    (clockStarted s).clock.c = (countStarted s).clock.c ∧ (clockStarted s).clock.length = (countStarted s).clock.length
      ∧ (clockStarted s).clock.endTime = (countStarted s).clock.endTime
      ∧ (clockStarted s).clock.running = true ∧ (clockStarted s).clock.listenEnd = none
      ∧ (clockStarted s).clock.startTime = some s.now
      ∧ ((countStarted s).clock.heardLength = none → (clockStarted s).clock.heardLength = none) := by
  have hstart : (countStarted s).clock.startTime = some s.now := by
    unfold countStarted
    cases listenPeer s <;> rfl
  rw [clockStarted_eq]
  rcases reformReference_clock_cases (countStarted s) with h | ⟨-, h⟩ <;> rw [h]
  · exact ⟨rfl, rfl, rfl, rfl, rfl, hstart, id⟩
  · exact ⟨rfl, rfl, rfl, rfl, rfl, hstart, fun _ => rfl⟩

theorem clockStarted_frame (s : State) :
    (clockStarted s).peers = s.peers ∧ (clockStarted s).house = s.house ∧ (clockStarted s).cfg = s.cfg
      ∧ (clockStarted s).loader = s.loader ∧ (clockStarted s).stationIndex = s.stationIndex
      ∧ (clockStarted s).pending = s.pending := by
  unfold clockStarted
  split <;> simp

/-- With no counting peer the count starts from 0. -/
theorem clockStarted_alone {s : State} (hpeer : listenPeer s = none) (hstate : s.seq.state = .listen)
    (hheard : s.clock.heardLength = none) (halone : s.line.active = true ∨ ∀ p ∈ s.peers, p.counts = false) :
    (clockStarted s).clock.c = 0 ∧ (clockStarted s).clock.length = ownLength s ∧ (clockStarted s).clock.heardLength = none
      ∧ (clockStarted s).clock.endTime = some (s.now + seconds (ownLength s))
      ∧ (clockStarted s).clock.reference = some (ownNumber s) := by
  have hcount : countStarted s = { startCount s with
      clock := { (startCount s).clock with listenEnd := none, running := true } } := by
    unfold countStarted
    rw [hpeer]
  obtain ⟨hc, hl, he, -, -, -, hh⟩ := clockStarted_rest s
  have hreference : timingReference (countStarted s) = some (ownNumber s) := by
    have hown : ownNumber (countStarted s) = ownNumber s := by rw [hcount]; rfl
    have hrunning : (countStarted s).clock.running = true := rfl
    have hnone : (if (countStarted s).line.active then []
        else ((countStarted s).peers.filter (·.counts)).map (·.number)) = ([] : List Nat) := by
      rcases halone with h | h
      · have hactive : (countStarted s).line.active = true := by rw [hcount]; exact h
        rw [if_pos hactive]
      · have hpeers : (countStarted s).peers = s.peers := by rw [hcount]; rfl
        rw [hpeers, List.filter_eq_nil_iff.mpr fun p hp => by simp [h p hp]]
        split <;> rfl
    unfold timingReference
    rw [hnone, hown, if_pos hrunning]
    rfl
  have hstate' : (countStarted s).seq.state ≠ .starting := by rw [hcount]; simp [startCount, hstate]
  refine ⟨?_, ?_, hh ?_, ?_, ?_⟩
  · rw [hc, hcount]
    rfl
  · rw [hl, hcount]
    rfl
  · rw [hcount]
    exact hheard
  · rw [he, hcount]
    rfl
  · rw [clockStarted_eq, reformReference_reference_eq, if_neg hstate', hreference]

/-- The least number of steps of `d` that takes `e` past `now`. -/
theorem least_steps {now e d : Nat} (hpos : 0 < d) {k : Nat} (hk : k = if now < e then 0 else (now - e) / d + 1) :
    now < e + k * d ∧ ∀ j < k, e + j * d ≤ now := by
  split at hk
  case isTrue h => exact ⟨by omega, fun j hj => by omega⟩
  case isFalse h =>
    have hover : now - e < ((now - e) / d + 1) * d := by
      have hlt := Nat.lt_mul_div_succ (now - e) hpos
      rwa [Nat.mul_comm] at hlt
    rw [hk]
    refine ⟨by omega, fun j hj => ?_⟩
    have hle : j * d ≤ now - e := (Nat.le_div_iff_mul_le hpos).mp (by omega)
    omega

theorem seconds_pos {n : Nat} (h : 0 < n) : 0 < seconds n := Nat.mul_pos (by decide) h

/-- The least number of halves that takes an end estimate past local time (R16). -/
theorem halvesToAdd_least {now e : Time} {len : Nat} (hlen : lengthInRange len) :
    now < e + halvesToAdd now e len * seconds len ∧ ∀ j < halvesToAdd now e len, e + j * seconds len ≤ now :=
  least_steps (seconds_pos (Nat.lt_of_lt_of_le (by decide) hlen.1)) rfl

/-- With a counting peer its count goes on (R16). -/
theorem clockStarted_heard {p : StatusPart} {s : State} (hpeer : listenPeer s = some p) :
    (clockStarted s).clock.c = p.half + byte (halvesToAdd s.now p.endEstimate p.halfLength)
      ∧ (clockStarted s).clock.length = p.halfLength
      ∧ (clockStarted s).clock.endTime
        = some (p.endEstimate + halvesToAdd s.now p.endEstimate p.halfLength * seconds p.halfLength) := by
  have hcount : (countStarted s).clock = { (adoptCount p s).clock with listenEnd := none, running := true } := by
    unfold countStarted
    rw [hpeer]
  obtain ⟨hc, hl, he, -⟩ := clockStarted_rest s
  rw [hc, hl, he, hcount]
  exact ⟨rfl, rfl, rfl⟩

/-! ## The rest of the start of cycling -/

/-- The humidity monitor at the end of LISTEN (R101). -/
theorem humidOnListenEnd_humid {s : State} (h : s.humid.state ≠ .disabled) :
    (humidOnListenEnd s).humid = { s.humid with state := .seeding, baseline := none, boostStart := none, falling := 0 } := by
  unfold humidOnListenEnd
  rw [if_neg h]
  unfold reseed leaveBoost endBoost
  split <;> simp

theorem startCycling_humid {s : State} (hstate : s.seq.state = .listen) (h : s.humid.state ≠ .disabled) :
    (startCycling s).humid.state = .seeding ∧ (startCycling s).humid.baseline = none
      ∧ (startCycling s).humid.boostStart = none ∧ (startCycling s).humid.falling = 0 := by
  have hclock : (clockStarted s).humid = s.humid := by
    unfold clockStarted
    split <;> simp
  have hx := humidOnListenEnd_humid (s := clockStarted s) (by rw [hclock]; exact h)
  rw [startCycling_eq]
  generalize hy : openCollection (humidOnListenEnd (clockStarted s)) = y
  have hyhumid : y.humid.state = .seeding ∧ y.humid.baseline = none ∧ y.humid.boostStart = none ∧ y.humid.falling = 0 := by
    rw [← hy]
    exact ⟨congrArg HumidRec.state hx, congrArg HumidRec.baseline hx, congrArg HumidRec.boostStart hx,
      congrArg HumidRec.falling hx⟩
  have hystate : y.seq.state = .listen := by rw [← hy]; simpa using hstate
  obtain ⟨hst, hb, hstart, hfall⟩ := hyhumid
  obtain ⟨z, hz⟩ : ∃ z, z = ({ y with seq := { y.seq with settling := 2 } } : State) := ⟨_, rfl⟩
  have hcycling : beginCycling y = if z.seq.restHeld then enterRest z else beginReversing (laneDirectionNow z).target z := by
    rw [hz]; rfl
  have hzhumid : z.humid = y.humid := by rw [hz]
  have hzstate : z.seq.state = .listen := by rw [hz]; exact hystate
  rw [hcycling]
  split
  · have hrest := congrArg Held.humid (held_enterRest z)
    have hhumid : (enterRest z).humid = _ := hrest
    rw [hhumid]
    dsimp only
    rw [hzhumid, hzstate]
    simp [humidAfterSeq, hst, hb, hstart, hfall]
  · have hturn := congrArg Held.humid (held_beginReversing (laneDirectionNow z).target z)
    have hhumid : (beginReversing (laneDirectionNow z).target z).humid = _ := hturn
    rw [hhumid]
    dsimp only
    rw [hzhumid, hzstate]
    simp [hst, hb, hstart, hfall]

theorem listenPeer_none {s : State} (h : s.line.active = true ∨ ∀ p ∈ s.peers, p.counts = false) : listenPeer s = none := by
  unfold listenPeer
  split
  · rfl
  case isFalse hactive =>
    have hall := h.resolve_left hactive
    rw [List.filter_eq_nil_iff.mpr fun p hp => by simp [hall p hp]]
    rfl

theorem listenPeer_some {p : PeerRec} {st : StatusPart} {s : State} (hactive : s.line.active = false)
    (hp : (s.peers.filter (·.counts)).head? = some p) (hst : p.status = some st) : listenPeer s = some st := by
  unfold listenPeer
  rw [hactive, if_neg Bool.false_ne_true, hp]
  exact hst

/-- Settles O26. -/
theorem listenEndStartsTheCount : Obligations.ListenEndStartsTheCount := by
  intro t e s hr hstate he hle hheard
  have hm : (advance t s).seq.state = .listen := by simpa using hstate
  have hnow : (advance t s).now = timeAfter t s := rfl
  have heffect : effectOf (.listenEnd t) (advance t s) = startCycling (advance t s) := by
    have hreached : reached s.clock.listenEnd (timeAfter t s) = true := by simp [reached, he, hle]
    have hdue : listenOver (advance t s) = true := by
      simp only [listenOver, hm, hnow, Bool.and_eq_true, decide_eq_true_eq]
      exact ⟨trivial, hreached⟩
    exact if_pos hdue
  obtain ⟨hclock, hclimate⟩ := startCycling_clock (advance t s)
  have hseq := startCycling_seq (advance t s)
  obtain ⟨-, -, -, hrunning, hlisten, hstart, -⟩ := clockStarted_rest (advance t s)
  refine ⟨_, exec_eq_finish (c := .listenEnd t) rfl hr heffect, ?_⟩
  generalize hx : startCycling (advance t s) = x at hclock hclimate hseq
  have hfclock : (finish (advance t s) x).clock = (clockStarted (advance t s)).clock := by simpa using hclock
  have hfseq : (finish (advance t s) x).seq = x.seq := finish_seq _ _
  have hfclimate : (finish (advance t s) x).climate = (openCollection (advance t s)).climate := by simpa using hclimate
  rw [hfclock, hfseq, hfclimate, hseq]
  refine ⟨fun halone => ?_, fun p hactive hp st hst hlen => ?_, hrunning, hlisten, hstart, rfl, rfl, ?_, fun hrest => ?_,
    fun hrest => ?_, fun hhumid => ?_, ?_⟩
  · have hpeer : listenPeer (advance t s) = none := listenPeer_none (s := advance t s) (by simpa using halone)
    exact clockStarted_alone hpeer hm (by simpa using hheard) (by simpa using halone)
  · have hpeer : listenPeer (advance t s) = some st :=
      listenPeer_some (s := advance t s) (p := p) (by simpa using hactive) (by simpa using hp) hst
    obtain ⟨hc, hl, hend⟩ := clockStarted_heard hpeer
    exact ⟨_, hc, hl, hend, halvesToAdd_least hlen⟩
  · split <;> rfl
  · rw [if_neg (by simpa using hrest)]
    refine ⟨rfl, ?_, by simp, rfl⟩
    simp [laneDirectionNow]
  · have hheld : (advance t s).seq.restHeld = true := by simpa using hrest
    rw [if_pos hheld]
    exact ⟨rfl, rfl, rfl⟩
  · have hcycled := startCycling_humid (s := advance t s) hm (by simpa using hhumid)
    rw [hx] at hcycled
    simpa using hcycled
  · rw [← hx]
    simp [startCycling_eq, openCollection, clockStarted_line, clockStarted_frame]

end Sys2Proof.Proofs

/-! The line fault and the status period (O53). -/

namespace Sys2Proof.Proofs

open Sys2Proof.Machine

/-! ## The STATUS slot after a command that is announced -/

theorem finish_asked {m x : State} (h : announced m ≠ announced (finish m x)) :
    (finish m x).line.statusSlot = askedSlot x.line := by
  have h3 (y : State) : (trackLamps m y).line = y.line := by unfold trackLamps; split <;> rfl
  have h4 (y : State) : (trackRamp m y).line = y.line := by unfold trackRamp; split <;> rfl
  have hline : (finish m x).line = (trackAnnounced m (trackDemand m x)).line := (h4 _).trans (h3 _)
  have hdemand : (trackDemand m x).line = x.line := by simp
  rw [finish_announced] at h
  rw [hline, trackAnnounced, if_neg h, ← hdemand]
  rfl

theorem code_line (f : FaultSet) : f.code < 256 ∧ f.code / 16 % 2 = if f.line then 1 else 0 := by
  obtain ⟨stall, outer, inner, humidity, line, duplicate, config, memory⟩ := f
  revert stall outer inner humidity line duplicate config memory
  decide

/-- The announced fault set tells the LINE fault. -/
theorem line_of_announced {s y : State} (h : announced y = announced s) : y.line.active = s.line.active := by
  have hbyte (x : State) : (announced x).getD 12 0 = byte (faultSet x).code := rfl
  have heq : byte (faultSet y).code = byte (faultSet s).code := by rw [← hbyte, ← hbyte, h]
  obtain ⟨hy, hybit⟩ := code_line (faultSet y)
  obtain ⟨hs, hsbit⟩ := code_line (faultSet s)
  have hnat := congrArg BitVec.toNat heq
  rw [byte_toNat_of_lt hy, byte_toNat_of_lt hs] at hnat
  rw [hnat, hsbit] at hybit
  have hline : (faultSet s).line = s.line.active ∧ (faultSet y).line = y.line.active := ⟨rfl, rfl⟩
  rw [hline.1, hline.2] at hybit
  cases ha : s.line.active <;> cases hb : y.line.active <;> simp_all

/-! ## The end of a status period -/

theorem endStatusPeriod_effect {t e : Time} {s : State} (he : s.line.statusPeriodEnd = some e) (hle : e ≤ timeAfter t s) :
    effectOf (.statusPeriodEnd t) (advance t s) = endStatusPeriod (advance t s) := by
  have hdue : statusPeriodOver (advance t s) = true := by
    have hperiod : (advance t s).line.statusPeriodEnd = some e := he
    have hnow : (advance t s).now = timeAfter t s := rfl
    simp only [statusPeriodOver, hperiod, hnow, reached]
    simpa using hle
  exact if_pos hdue

/-- The clock once its reference has been formed again (R10). -/
theorem reformReference_clock (s : State) :
    (reformReference s).clock = { s.clock with
      reference := if s.seq.state = .starting then s.clock.reference else timingReference s
      heardLength := if (if s.seq.state = .starting then s.clock.reference else timingReference s) = s.clock.reference
        then s.clock.heardLength else none } := by
  unfold reformReference
  by_cases hstate : s.seq.state = .starting
  · simp [hstate]
  · by_cases href : s.clock.reference = timingReference s
    · simp [hstate, ← href]
    · simp [hstate, href, Ne.symm href]

/-! ## The line taken as faulty -/

theorem lineRaised_reference (d : Time) (s : State) :
    (lineRaised d s).clock.reference = (if s.seq.state = .starting then s.clock.reference
      else if s.clock.running then some (ownNumber s) else none)
    ∧ { (lineRaised d s).clock with reference := none, heardLength := none }
      = { s.clock with reference := none, heardLength := none } := by
  refine ⟨?_, ?_⟩
  · unfold lineRaised
    rw [reformReference_reference_eq]
    dsimp only
    split
    · rfl
    · unfold timingReference
      cases s.clock.running <;> rfl
  · unfold lineRaised
    rw [reformReference_rest]

/-- What the frost guard leaves where it answers a raised line. -/
theorem frostOnLineRaised_same {s : State} (h : s.frost.stage ≠ .contending ∨ s.frost.windowEnd.isSome = true) :
    frostOnLineRaised s = s := by
  unfold frostOnLineRaised
  refine if_neg fun hc => ?_
  rcases h with h | h
  · exact h hc.1
  · simp [hc.2] at h

theorem frostOnLineRaised_orders {s : State} (hstage : s.frost.stage = .contending) (hwindow : s.frost.windowEnd = none) :
    frostOnLineRaised s = orderDefrost s := if_pos ⟨hstage, hwindow⟩

/-- The line's own part after the frost guard's answer: a WITHDRAW at most. -/
theorem frostOnLineRaised_line (s : State) :
    (frostOnLineRaised s).line.steady = s.line.steady
      ∨ (frostOnLineRaised s).line.steady = s.line.steady.request .defrost := by
  unfold frostOnLineRaised
  split
  case isFalse => exact .inl rfl
  case isTrue h =>
    cases hr : s.seq.state.refusesDefrost
    · exact .inl (orderDefrost_line hr).1
    · rw [orderDefrost_refused hr]
      exact .inr (congrArg Held.line (held_withdraw _ (by simp [h.1])))

theorem frostOnLineRaised_stack (s : State) : (frostOnLineRaised s).demand.stack = s.demand.stack := by
  unfold frostOnLineRaised
  split
  · exact orderDefrost_stack s
  · rfl

/-- A field that is equal where the line's steady parts are. -/
theorem steady_field {α : Type} {f : LineRec → α} (hf : ∀ l : LineRec, f l.steady = f l) {l y : LineRec}
    (h : l.steady = y.steady) : f l = f y := (hf l).symm.trans ((congrArg f h).trans (hf y))

/-- A field that a request of the DEFROST slot leaves as well. -/
theorem requested_field {α : Type} {f : LineRec → α} (hf : ∀ l : LineRec, f l.steady = f l)
    (hq : ∀ l : LineRec, f (l.request .defrost) = f l) {l y : LineRec}
    (h : l.steady = y.steady ∨ l.steady = y.steady.request .defrost) : f l = f y := by
  rcases h with h | h
  · exact steady_field hf h
  · exact (hf l).symm.trans ((congrArg f h).trans ((hq _).trans (hf y)))

/-- What a WITHDRAW at most leaves of the line. -/
theorem line_kept {l y : LineRec} (h : l.steady = y.steady ∨ l.steady = y.steady.request .defrost)
    (hsilent : y.transmission = none) :
    l.active = y.active ∧ l.transmission = y.transmission ∧ l.assembly = y.assembly ∧ l.collisions = y.collisions
      ∧ l.collisionKind = y.collisionKind ∧ l.modeSlot = y.modeSlot ∧ l.modeBody = y.modeBody ∧ l.boostSlot = y.boostSlot
      ∧ l.boostBody = y.boostBody ∧ l.defrostSlot.reRequest = y.defrostSlot.reRequest := by
  have hfield {α : Type} {f : LineRec → α} (hf : ∀ l : LineRec, f l.steady = f l)
      (hq : ∀ l : LineRec, f (l.request .defrost) = f l) : f l = f y := requested_field hf hq h
  refine ⟨hfield (fun _ => rfl) fun _ => rfl, hfield (fun _ => rfl) fun _ => rfl, hfield (fun _ => rfl) fun _ => rfl,
    hfield (fun _ => rfl) fun _ => rfl, hfield (fun _ => rfl) fun _ => rfl, hfield (fun _ => rfl) fun _ => rfl,
    hfield (fun _ => rfl) fun _ => rfl, hfield (fun _ => rfl) fun _ => rfl, hfield (fun _ => rfl) fun _ => rfl, ?_⟩
  rcases h with h | h
  · exact steady_field (f := fun l => l.defrostSlot.reRequest) (fun _ => rfl) h
  · have hsending : y.steady.sending .defrost = false := by simp [LineRec.sending, LineRec.steady, hsilent]
    have hrequested : (y.steady.request .defrost).defrostSlot.reRequest = y.defrostSlot.reRequest := by
      show (y.steady.defrostSlot.reRequest || y.steady.sending .defrost) = _
      rw [hsending, Bool.or_false]
      rfl
    have hslot := congrArg (fun l : LineRec => l.defrostSlot.reRequest) h
    exact hslot.trans hrequested

/-- A STATUS asked for with nothing in transmission keeps the slot's re-request. -/
theorem askedSlot_silent {s y : State} (h : Tells s y) (hsilent : s.line.transmission = none) :
    askedSlot y.line = ⟨true, s.line.statusSlot.reRequest⟩ := by
  have hsending : s.line.sending .status = false := by simp [LineRec.sending, hsilent]
  rw [askedSlot, h.asks.sending, hsending, Bool.or_false]
  rcases h.asks.slot with hslot | hslot <;> rw [hslot]
  rw [askedSlot, hsending, Bool.or_false]

theorem derivedDemands_active {s : State} (h : s.line.active = true) : ∀ x ∈ derivedDemands s, x = 0 := by
  intro x hx
  unfold derivedDemands at hx
  obtain ⟨p, -, rfl⟩ := List.mem_map.mp hx
  simp [derivedDemand, h]

/-- The STATUS slot after a raised line: the LINE bit has changed. -/
theorem finish_lineRaised_status (d : Time) {m : State} (hline : m.line.active = false) :
    (finish m (raiseLine d m)).line.statusSlot = ⟨true, m.line.statusSlot.reRequest⟩
      ∧ (finish m (raiseLine d m)).line.statusMark = m.line.statusMark := by
  have hraised : (lineRaised d m).line.transmission = none ∧ (lineRaised d m).line.statusSlot = m.line.statusSlot
      ∧ (lineRaised d m).line.statusMark = m.line.statusMark ∧ (lineRaised d m).line.active = true := by simp [lineRaised]
  obtain ⟨hsilent, hslot, hmark, hactive⟩ := hraised
  have htold := (tells_frostOnLineRaised (lineRaised d m)).1
  rw [raiseLine_eq]
  have hannounced : announced m ≠ announced (finish m (frostOnLineRaised (lineRaised d m))) := fun e => by
    have hsame := line_of_announced e.symm
    have hfinal : (finish m (frostOnLineRaised (lineRaised d m))).line.active = true := by simp [hactive]
    rw [hfinal, hline] at hsame
    cases hsame
  refine ⟨?_, ?_⟩
  · rw [finish_asked hannounced, askedSlot_silent htold hsilent, hslot]
  · rw [finish_statusMark, htold.asks.mark, hmark]

/-- What the frost guard and the sequencer make of a raised line. -/
theorem finish_lineRaised_frost (d : Time) (m : State) :
    (m.frost.stage = .contending → m.frost.windowEnd = none → m.seq.state.refusesDefrost = false →
      (finish m (raiseLine d m)).frost.stage = .defrosting
        ∧ (finish m (raiseLine d m)).frost.defrostStart = some m.now)
    ∧ (m.frost.stage = .contending → m.frost.windowEnd = none → m.seq.state.refusesDefrost = true →
      (finish m (raiseLine d m)).frost = { m.frost with
        stage := stageByAccount m.frost.account, notice := some ⟨.withdraw, false⟩
        contentionStart := none, entryAccount := none }
      ∧ (finish m (raiseLine d m)).line.defrostSlot.pending = true ∧ (finish m (raiseLine d m)).seq = m.seq)
    ∧ (m.frost.stage ≠ .contending ∨ m.frost.windowEnd.isSome = true →
      (finish m (raiseLine d m)).frost = m.frost ∧ (finish m (raiseLine d m)).seq = m.seq)
    ∧ (m.frost.stage ≠ .contending ∨ m.frost.windowEnd.isSome = true ∨ m.seq.state.refusesDefrost = false →
      (finish m (raiseLine d m)).line.defrostSlot = m.line.defrostSlot) := by
  have hkept : (lineRaised d m).frost = m.frost ∧ (lineRaised d m).seq = m.seq ∧ (lineRaised d m).now = m.now
      ∧ (lineRaised d m).line.defrostSlot = m.line.defrostSlot := by simp [lineRaised]
  obtain ⟨hfrost, hseq, hnow, hslot⟩ := hkept
  have hffrost (x : State) : (finish m x).frost = x.frost := by simp
  have hfslot (x : State) : (finish m x).line.defrostSlot = x.line.defrostSlot :=
    steady_field (f := LineRec.defrostSlot) (fun _ => rfl) (finish_line_steady m x)
  rw [raiseLine_eq]
  generalize lineRaised d m = y at hfrost hseq hnow hslot
  rw [hffrost, hfslot, finish_seq]
  refine ⟨fun hstage hwindow hr => ?_, fun hstage hwindow hr => ?_, fun h => ?_, fun h => ?_⟩
  · have hordered := orderDefrost_frost (s := y) (by rw [hseq]; exact hr)
    rw [frostOnLineRaised_orders (by rw [hfrost]; exact hstage) (by rw [hfrost]; exact hwindow), hordered, ← hnow]
    exact ⟨rfl, rfl⟩
  · rw [frostOnLineRaised_orders (by rw [hfrost]; exact hstage) (by rw [hfrost]; exact hwindow),
      orderDefrost_refused (by rw [hseq]; exact hr)]
    have hheld := held_withdraw (stageByAccount y.frost.account) (s := y) (by simp [hfrost, hstage])
    have hwfrost : (withdraw (stageByAccount y.frost.account) y).frost = _ := congrArg Held.frost hheld
    have hwslot : (withdraw (stageByAccount y.frost.account) y).line.defrostSlot.pending = true :=
      congrArg (fun h : Held => h.line.defrostSlot.pending) hheld
    refine ⟨?_, hwslot, by simp [hseq]⟩
    rw [hwfrost, hfrost]
    dsimp only
    rw [← hwindow]
  · rw [frostOnLineRaised_same (by rw [hfrost]; exact h)]
    exact ⟨hfrost, hseq⟩
  · rw [← hslot]
    by_cases hidle : y.frost.stage ≠ .contending ∨ y.frost.windowEnd.isSome = true
    · rw [frostOnLineRaised_same hidle]
    · rw [hfrost] at hidle
      simp only [not_or, not_not, Option.isSome_iff_ne_none, ne_eq] at hidle
      obtain ⟨hstage, hwindow⟩ := hidle
      have hr : m.seq.state.refusesDefrost = false := by
        rcases h with h | h | h
        · exact absurd hstage h
        · simp [hwindow] at h
        · exact h
      rw [frostOnLineRaised_orders (by rw [hfrost]; exact hstage) (by rw [hfrost]; exact hwindow)]
      exact steady_field (f := LineRec.defrostSlot) (fun _ => rfl) (orderDefrost_line (s := y) (by rw [hseq]; exact hr)).1

/-- Settles O53: a raised line asks for its STATUS through the LINE bit alone, and the frost guard answers by an order, a
WITHDRAW or not at all. -/
theorem lineStateMoves : Obligations.LineStateMoves := by
  intro t s hr
  refine ⟨fun e he hle => ?_, fun d hline hd => ?_, fun r hline hfree => ?_⟩
  · refine ⟨_, exec_eq_finish (c := .statusPeriodEnd t) rfl hr (endStatusPeriod_effect he hle), ?_, ?_⟩
    · rw [held_finish]
      rfl
    · obtain ⟨hslot, hmark⟩ := finish_status_same (m := advance t s) (x := endStatusPeriod (advance t s)) rfl rfl
      exact ⟨hslot.trans rfl, hmark.trans (Bool.or_false _)⟩
  · have heffect : effectOf (.lineFaultRaised d t) (advance t s) = raiseLine d (advance t s) :=
      if_pos (by simp [lineStuck, hline, hd])
    refine ⟨_, exec_eq_finish (c := .lineFaultRaised d t) rfl hr heffect, ?_⟩
    have hactive : (advance t s).line.active = false := by simpa using hline
    obtain ⟨hslot, hmark⟩ := finish_lineRaised_status d hactive
    obtain ⟨htakes, hrefuses, hsame, hkept⟩ := finish_lineRaised_frost d (advance t s)
    obtain ⟨href, hclock⟩ := lineRaised_reference d (advance t s)
    have hsilent : (lineRaised d (advance t s)).line.transmission = none := by simp [lineRaised]
    have hlineKept := line_kept (l := (finish (advance t s) (raiseLine d (advance t s))).line)
      (by rw [finish_line_steady, raiseLine_eq]; exact frostOnLineRaised_line _) hsilent
    have hstack : (finish (advance t s) (raiseLine d (advance t s))).demand.stack = s.demand.stack := by
      have hfinish : (finish (advance t s) (raiseLine d (advance t s))).demand.stack
        = (raiseLine d (advance t s)).demand.stack := by simp
      rw [hfinish, raiseLine_eq, frostOnLineRaised_stack]
      simp [lineRaised]
    have hfclock : (finish (advance t s) (raiseLine d (advance t s))).clock = (lineRaised d (advance t s)).clock := by
      rw [raiseLine_eq]
      simp
    obtain ⟨hact, htrans, hasm, hcol, hkind, hmode, hmbody, hboost, hbbody, hre⟩ := hlineKept
    have hraised : (lineRaised d (advance t s)).line.active = true := by simp [lineRaised]
    rw [hfclock]
    refine ⟨hact.trans hraised, htrans.trans hsilent, hasm.trans (by simp [lineRaised]), hcol.trans (by simp [lineRaised]),
      hkind.trans (by simp [lineRaised]), by simp, href, derivedDemands_active (hact.trans hraised), ?_, htakes, hrefuses, hsame,
      hkept, hre.trans (by simp [lineRaised]), hmode.trans (by simp [lineRaised]), hmbody.trans (by simp [lineRaised]),
      hboost.trans (by simp [lineRaised]), hbbody.trans (by simp [lineRaised]), hslot, hmark, by simp, by simp, by simp, hstack,
      hclock, by simp⟩
    rw [placesInUse, if_pos (hact.trans hraised)]
  · have heffect : effectOf (.lineFaultCleared r t) (advance t s) = clearLine r (advance t s) :=
      if_pos (by simp [lineFree, hline, hfree])
    refine ⟨_, exec_eq_finish (c := .lineFaultCleared r t) rfl hr heffect, ?_⟩
    have hfclock : (finish (advance t s) (clearLine r (advance t s))).clock = (clearLine r (advance t s)).clock := by simp
    rw [hfclock, timingReference_finish, held_finish]
    unfold clearLine
    generalize hy : ({ advance t s with line := { (advance t s).line with
      active := false, stuckTime := 0, idleTime := 24 * r } } : State) = y
    have hyclock : y.clock = s.clock := by rw [← hy]; simp
    have hyseq : y.seq = s.seq := by rw [← hy]; simp
    have hyheld : held y = { held s with line := { s.line.steady with active := false, stuckTime := 0 } } := by
      rw [← hy]; rfl
    have hreform := reformReference_clock y
    rw [hyclock, hyseq] at hreform
    rw [timingReference_reformReference, held_reformReference, hyheld, hreform]
    exact ⟨rfl, rfl, rfl⟩

end Sys2Proof.Proofs

/-! Melting and the ends of a defrost (O41). -/

namespace Sys2Proof.Proofs

open Sys2Proof.Machine

/-! ## The sequencer at the end of a defrost -/

theorem takeDefrostEnd_rest {s : State} (hstate : s.seq.state = .defrost) (hheld : s.seq.restHeld = true) :
    takeDefrostEnd s = enterRest s := by simp [takeDefrostEnd, hstate, hheld]

theorem takeDefrostEnd_extract {s : State} (hstate : s.seq.state = .defrost) (hheld : s.seq.restHeld = false)
    (hdir : laneDirectionNow s = .extract) : takeDefrostEnd s = enterDirect .extract s := by
  simp [takeDefrostEnd, hstate, hheld, hdir]

theorem takeDefrostEnd_supply {s : State} (hstate : s.seq.state = .defrost) (hheld : s.seq.restHeld = false)
    (hdir : laneDirectionNow s = .supply) : takeDefrostEnd s = beginReversing .supply s := by
  simp [takeDefrostEnd, hstate, hheld, hdir]

theorem takeDefrostEnd_paused {s : State} (hstate : s.seq.state = .paused) :
    takeDefrostEnd s = { s with seq := { s.seq with defrostResume := false } } := by simp [takeDefrostEnd, hstate]

theorem takeDefrostEnd_refuses {s : State} (h : s.seq.state.refusesDefrost = true) : takeDefrostEnd s = s := by
  unfold takeDefrostEnd
  rcases (refusesDefrost_iff _).mp h with h | h | h | h <;> rw [h]

/-! ## The stage left -/

/-- What leaving the stage shows before the sequencer follows. -/
theorem leaving_kept (st : FrostStage) (s : State) :
    (leaveDefrost (setStage st s)).seq = s.seq ∧ (leaveDefrost (setStage st s)).now = s.now
      ∧ (leaveDefrost (setStage st s)).lane = s.lane ∧ (leaveDefrost (setStage st s)).clock = s.clock
      ∧ laneDirectionNow (leaveDefrost (setStage st s)) = laneDirectionNow s := by
  have h : (leaveDefrost (setStage st s)).seq = s.seq ∧ (leaveDefrost (setStage st s)).now = s.now
      ∧ (leaveDefrost (setStage st s)).lane = s.lane ∧ (leaveDefrost (setStage st s)).clock = s.clock := by
    simp
  obtain ⟨hseq, hnow, hlane, hclock⟩ := h
  exact ⟨hseq, hnow, hlane, hclock, by rw [laneDirectionNow, laneDirectionNow, hlane, hclock]⟩

theorem defrostLeft_frost {st : FrostStage} {s : State} (hst : st ≠ .defrosting) :
    (defrostLeft st s).frost = { s.frost with
      stage := st, notice := some ⟨.leave, false⟩, defrostStart := none, meltStepEnd := none }
    ∧ (defrostLeft st s).line.defrostSlot.pending = true := by
  have hstage : (leaveDefrost (setStage st s)).frost.stage ≠ .defrosting := by
    rw [show (leaveDefrost (setStage st s)).frost.stage = st from setStage_stage st s]
    exact hst
  obtain ⟨hfrost, hline⟩ := takeDefrostEnd_frost_same hstage
  unfold defrostLeft
  rw [hfrost]
  refine ⟨?_, ?_⟩
  · simp [leaveDefrost, clearDefrost, queueNotice, setStage_frost]
  · rw [steady_field (f := fun l => l.defrostSlot.pending) (fun _ => rfl) hline]
    rfl

/-- The sequencer once the defrost has been left. -/
theorem defrostLeft_seq (st : FrostStage) {s : State} :
    (s.seq.state = .defrost → s.seq.restHeld = true → (defrostLeft st s).seq.state = .rest)
    ∧ (s.seq.state = .defrost → s.seq.restHeld = false → laneDirectionNow s = .extract →
      (defrostLeft st s).seq = { s.seq with state := .extract })
    ∧ (s.seq.state = .defrost → s.seq.restHeld = false → laneDirectionNow s = .supply →
      (defrostLeft st s).seq.state = .reversing ∧ (defrostLeft st s).seq.target = some .supply
        ∧ (defrostLeft st s).fan.driveOutput = 0)
    ∧ (s.seq.state = .paused → (defrostLeft st s).seq = { s.seq with defrostResume := false })
    ∧ (s.seq.state.refusesDefrost = true → (defrostLeft st s).seq = s.seq) := by
  obtain ⟨hseq, -, -, -, hdir⟩ := leaving_kept st s
  unfold defrostLeft
  generalize leaveDefrost (setStage st s) = y at hseq hdir ⊢
  rw [← hseq, ← hdir]
  refine ⟨fun hs hh => ?_, fun hs hh hd => ?_, fun hs hh hd => ?_, fun hs => ?_, fun hs => ?_⟩
  · rw [takeDefrostEnd_rest hs hh, enterRest_seq]
  · rw [takeDefrostEnd_extract hs hh hd, enterDirect_seq]
  · rw [takeDefrostEnd_supply hs hh hd, beginReversing_seq]
    exact ⟨rfl, rfl, beginReversing_driveOutput _ _⟩
  · rw [takeDefrostEnd_paused hs]
  · rw [takeDefrostEnd_refuses hs]

/-! ## The STATUS slot on the way -/

/-- A STATUS once asked for stays asked for. -/
theorem Tells.pending {s y : State} (h : Tells s y) (hs : s.line.statusSlot.pending = true) :
    y.line.statusSlot.pending = true := by
  rcases h.asks.slot with hslot | hslot <;> rw [hslot]
  · exact hs
  · rfl

/-- A stage set anew asks for a STATUS. -/
theorem setStage_asks {st : FrostStage} {s : State} (h : st ≠ s.frost.stage) : (setStage st s).line.statusSlot.pending = true := by
  have hannounced : announced s ≠ announced { s with frost := { s.frost with stage := st } } := fun e =>
    h (congrArg Prod.snd (place_of_announced e)).symm
  have hshown := showChange_requests s { s with frost := { s.frost with stage := st } } hannounced
  unfold setStage
  dsimp only
  split
  · simpa using hshown
  · exact hshown

theorem defrostLeft_asks {st : FrostStage} {s : State} (h : st ≠ s.frost.stage) :
    (defrostLeft st s).line.statusSlot.pending = true :=
  (tells_takeDefrostEnd _).pending (setStage_asks h)

/-! ## The GREEN lamp of a defrost that begins anew -/

theorem greenOf_idle {v : View} (h : v.defrosts = false) : greenOf v ≠ .slowBlink := by
  unfold greenOf
  rw [h]
  cases v.lamp <;> cases v.stackEmpty <;> simp

/-- A lamp that has shown only views without a defrost does not blink slowly. -/
theorem shown_idle {l : Lamp} {n : Time} {vs : List View} (hl : l.pattern ≠ .slowBlink) (hvs : ∀ v ∈ vs, v.defrosts = false) :
    (lampShown greenOf n l vs).pattern ≠ .slowBlink := by
  induction vs generalizing l with
  | nil => exact hl
  | cons v vs ih =>
    refine ih ?_ fun w hw => hvs w (List.mem_cons_of_mem _ hw)
    rw [show_pattern]
    exact greenOf_idle (hvs v List.mem_cons_self)

theorem Lit.idle {s y : State} (h : Lit s y) (hl : s.ctl.green.pattern ≠ .slowBlink) (hs : (view s).defrosts = false)
    (hy : (view y).defrosts = false) : y.ctl.green.pattern ≠ .slowBlink := by
  obtain ⟨-, vs, hvs, -, hg⟩ := h
  rw [hg]
  refine shown_idle hl fun v hv => ?_
  obtain ⟨-, hd, -⟩ := hvs v hv
  rcases hd with hd | hd
  · rw [hd, hs]
  · rw [hd, hy]

theorem view_defrosts {s : State} (h : s.frost.stage ≠ .defrosting) : (view s).defrosts = false := decide_eq_false h

/-- With the defrost left no lamp shows it. -/
theorem defrostLeft_green {st : FrostStage} {s : State} (hst : st ≠ .defrosting) (h : st ≠ s.frost.stage) :
    (defrostLeft st s).ctl.green.pattern ≠ .slowBlink := by
  have hstaged := (lampsInv_setStage h).2
  have hstage : (leaveDefrost (setStage st s)).frost.stage = st := setStage_stage st s
  have hidle : (view (leaveDefrost (setStage st s))).defrosts = false := view_defrosts (by rw [hstage]; exact hst)
  have hgreen : (leaveDefrost (setStage st s)).ctl.green.pattern ≠ .slowBlink := by
    rw [show (leaveDefrost (setStage st s)).ctl = (setStage st s).ctl from rfl, hstaged, greenPattern_eq]
    exact greenOf_idle (view_defrosts (s := setStage st s) (by rw [setStage_stage]; exact hst))
  exact (tells_takeDefrostEnd _).lit.idle hgreen hidle (view_defrosts (s := defrostLeft st s) (by rw [defrostLeft_stage hst]; exact hst))

/-- A defrost ordered where no lamp shows one begins the GREEN pattern now. -/
theorem orderDefrost_green {s : State} (hs : s.frost.stage ≠ .defrosting) (htakes : s.seq.state.refusesDefrost = false)
    (hgreen : s.ctl.green.pattern ≠ .slowBlink) : (orderDefrost s).ctl.green = ⟨.slowBlink, s.now⟩ := by
  have hrun : lampStateOf s.seq.state = .running := by
    cases hstate : s.seq.state <;> simp_all [SeqState.refusesDefrost, lampStateOf]
  have hview : view (ordering s) = { view s with defrosts := true } := ordering_view s
  have hlists : greenOf (view (ordering s)) = .slowBlink := by
    rw [hview, greenOf, show ({ view s with defrosts := true } : View).lamp = .running from hrun]
    rfl
  have hordering : (ordering s).ctl.green = ⟨.slowBlink, s.now⟩ := by
    have hdiffers : lampInputs s ≠ lampInputs { s with frost := { s.frost with stage := .defrosting } } := fun e =>
      hs (congrArg LampInputs.stage e)
    have hshown : (ordering s).ctl.green
        = (showChange s { s with frost := { s.frost with stage := .defrosting } }).ctl.green := by
      show (setStage .defrosting s).ctl.green = _
      unfold setStage
      dsimp only
      split
      · simp
      · rfl
    have hpattern : greenPattern (lampInputs { s with frost := { s.frost with stage := .defrosting } }) = .slowBlink := by
      rw [greenPattern_eq, greenOf]
      rw [show (viewOf (lampInputs { s with frost := { s.frost with stage := .defrosting } })).lamp = .running from hrun]
      rfl
    rw [hshown, (showChange_lamps _ _).2.1, if_neg hdiffers, hpattern]
    exact if_neg hgreen
  have hlast := tells_takeDefrostOrder (ordering s)
  have hsame : view (takeDefrostOrder (ordering s)) = view (ordering s) := takeDefrostOrder_view _
  obtain ⟨-, vs, hvs, -, hg⟩ := hlast.lit
  rw [orderDefrost_eq htakes, hg, hordering]
  refine shown_same fun v hv => ?_
  have hbetween := greenOf_between (hvs v hv) (by rw [hsame])
  rw [hbetween, hlists]

/-! ## The melt step -/

theorem stepMean_eq (s : State) (e : Time) :
    stepMean s e = meanOf (s.climate.stream.filterMap (fun x => if x.tag = some .extract ∧ x.outerFault = false
      ∧ e ≤ x.time + tenths 100 ∧ x.time < e then x.outer else none)) := by
  rw [stepMean, meanInt_eq_meanOf, show tenths 100 = seconds 10 from tenths_eq_seconds 10]
  congr 2
  funext x
  refine if_congr ?_ rfl rfl
  tauto

theorem accountAfterMeltStep_mean (a : Nat) (xs : List Int) :
    accountAfterMeltStep a (meanOf xs) = if xs ≠ [] ∧ 10 ≤ xs.sum.tdiv (xs.length : Int)
      then a - (xs.sum.tdiv (xs.length : Int)).toNat * 70 * 10 / 600 else a := by
  unfold meanOf accountAfterMeltStep
  by_cases h : xs = []
  · simp [h]
  · simp [h]

theorem meltStep_frost (e : Time) (s : State) :
    meltStep e s = { s with frost := { s.frost with
      account := accountAfterMeltStep s.frost.account (stepMean s e), meltStepEnd := some (e + seconds 10) } } := rfl

theorem effectOf_meltStepEnd {t e : Time} {s : State} (hstage : s.frost.stage = .defrosting)
    (he : s.frost.meltStepEnd = some e) (hle : e ≤ timeAfter t s) :
    effectOf (.meltStepEnd t) (advance t s) = closeMeltStep e (advance t s) := by
  have hmelt : (advance t s).frost.meltStepEnd = some e := by simpa using he
  have hdue : meltStepOver (advance t s) = true := by
    have hnow : (advance t s).now = timeAfter t s := rfl
    have hst : (advance t s).frost.stage = .defrosting := by simpa using hstage
    simp only [meltStepOver, hmelt, hnow, hst, reached]
    simpa using hle
  have hclose : closeStep (advance t s) = closeMeltStep e (advance t s) := by
    unfold closeStep
    rw [hmelt]
  exact (if_pos hdue).trans hclose

/-- What the end of a defrost leaves in the answered state. -/
theorem finish_defrostLeft {st : FrostStage} {m x : State} (hst : st ≠ .defrosting) (hstage : x.frost.stage = .defrosting) :
    (finish m (defrostLeft st x)).frost = { x.frost with
      stage := st, notice := some ⟨.leave, false⟩, defrostStart := none, meltStepEnd := none }
    ∧ (finish m (defrostLeft st x)).line.defrostSlot.pending = true
    ∧ (finish m (defrostLeft st x)).line.statusSlot.pending = true
    ∧ (finish m (defrostLeft st x)).seq = (defrostLeft st x).seq
    ∧ (finish m (defrostLeft st x)).fan.driveOutput = (defrostLeft st x).fan.driveOutput := by
  obtain ⟨hfrost, hslot⟩ := defrostLeft_frost (s := x) hst
  refine ⟨by simpa using hfrost, ?_, finish_statusPending (defrostLeft_asks (by rw [hstage]; exact hst)), finish_seq _ _,
    by simp⟩
  exact (steady_field (f := fun l => l.defrostSlot.pending) (fun _ => rfl) (finish_line_steady m _)).trans hslot

/-! ## The limit of 15 minutes -/

/-- A time that has lasted its length. -/
theorem reached_later {b d n : Time} (h : b + d ≤ n) : reached ((some b).map (· + d)) n = true := by simpa [reached] using h

theorem effectOf_defrostTimeLimit {t b : Time} {s : State} (hstage : s.frost.stage = .defrosting)
    (hb : s.frost.defrostStart = some b) (hle : b + tenths 9000 ≤ timeAfter t s) (hhigh : 100 < s.frost.account) :
    effectOf (.defrostTimeLimit t) (advance t s) = forcedTest (defrostLeft .lockout (startLockout (advance t s))) := by
  have hfrost : (advance t s).frost = s.frost := by simp
  have hover : fifteenMinutes (advance t s) = true := by
    rw [show tenths 9000 = seconds 900 from tenths_eq_seconds 900] at hle
    unfold fifteenMinutes
    rw [hfrost, hb]
    exact reached_later hle
  have hdue : defrostTimedOut (advance t s) = true := by
    rw [defrostTimedOut, hover, hfrost, hstage, decide_eq_true hhigh]
    rfl
  exact if_pos hdue

/-- Where the sequencer takes an order before the end of a defrost and no rest is held, it takes one after it. -/
theorem defrostLeft_takes (st : FrostStage) {s : State} (htakes : s.seq.state.refusesDefrost = false)
    (hnot : ¬(s.seq.state = .defrost ∧ s.seq.restHeld = true)) : (defrostLeft st s).seq.state.refusesDefrost = false := by
  obtain ⟨hseq, -⟩ := leaving_kept st s
  unfold defrostLeft
  generalize leaveDefrost (setStage st s) = y at hseq
  rw [← hseq] at htakes hnot
  unfold takeDefrostEnd
  split
  case h_1 h =>
    split
    case isTrue hheld => exact absurd ⟨h, hheld⟩ hnot
    case isFalse =>
      split
      · rw [enterDirect_seq]
        rfl
      · rw [beginReversing_seq]
        rfl
  case h_2 h =>
    split
    case isTrue ht =>
      rw [retarget_seq ht]
      split
      · exact htakes
      · exact htakes
    case isFalse => exact htakes
  case h_3 => exact htakes
  case h_4 => exact htakes

/-- Whether the forced test follows the limit at once. -/
theorem forcedHolds_defrostLeft {s : State} :
    (s.frost.account < 3200 ∨ s.seq.state.refusesDefrost = true ∨ (s.seq.state = .defrost ∧ s.seq.restHeld = true) →
      forcedHolds (defrostLeft .lockout s) = false)
    ∧ (3200 ≤ s.frost.account → s.seq.state.refusesDefrost = false → ¬(s.seq.state = .defrost ∧ s.seq.restHeld = true) →
      forcedHolds (defrostLeft .lockout s) = true) := by
  obtain ⟨hrest, -, -, -, hrefuses⟩ := defrostLeft_seq .lockout (s := s)
  have hiff := forcedHolds_iff (defrostLeft .lockout s)
  rw [defrostLeft_account, defrostLeft_stage (by decide)] at hiff
  refine ⟨fun h => ?_, fun h3200 htakes hnot => ?_⟩
  · rw [← Bool.not_eq_true, hiff]
    rintro ⟨hhigh, -, -, htakes⟩
    rcases h with h | h | ⟨h, hh⟩
    · omega
    · rw [hrefuses h, h] at htakes
      cases htakes
    · rw [hrest h hh] at htakes
      cases htakes
  · exact hiff.mpr ⟨h3200, by decide, by decide, defrostLeft_takes _ htakes hnot⟩

/-- R83: what a defrost forced at the limit makes of the sequencer. -/
theorem forcedAgain_seq {s : State} (hstage : s.frost.stage = .defrosting)
    (hforced : forcedHolds (defrostLeft .lockout s) = true) :
    (s.seq.state = .defrost → s.seq.restHeld = false → laneDirectionNow s = .extract →
      (forcedTest (defrostLeft .lockout s)).seq = s.seq
        ∧ (forcedTest (defrostLeft .lockout s)).frost.meltStepEnd = some (s.now + seconds 10))
    ∧ (s.seq.state = .defrost → s.seq.restHeld = false → laneDirectionNow s = .supply →
      (forcedTest (defrostLeft .lockout s)).seq.state = .reversing
        ∧ (forcedTest (defrostLeft .lockout s)).seq.target = some .defrost)
    ∧ (s.seq.state = .paused → (forcedTest (defrostLeft .lockout s)).seq = { s.seq with defrostResume := true }) := by
  obtain ⟨-, hextract, hsupply, hpaused, -⟩ := defrostLeft_seq .lockout (s := s)
  have hnow : (defrostLeft .lockout s).now = s.now := (tells_defrostLeft (by decide) hstage).lit.now
  have htakes := ((forcedHolds_iff _).mp hforced).2.2.2
  rw [forcedTest_forced hforced, orderDefrost_eq (s := forced (defrostLeft .lockout s)) htakes]
  have hordering : (ordering (forced (defrostLeft .lockout s))).seq = (defrostLeft .lockout s).seq
      ∧ (ordering (forced (defrostLeft .lockout s))).now = (defrostLeft .lockout s).now
      ∧ (ordering (forced (defrostLeft .lockout s))).frost.stage = .defrosting :=
    ⟨by simp [forced, clearContention, queueNotice], (tells_ordering _).lit.now, by rw [ordering_frost]⟩
  obtain ⟨hseq, hnow', hst⟩ := hordering
  generalize ordering (forced (defrostLeft .lockout s)) = y at hseq hnow' hst
  refine ⟨fun hs hh hd => ?_, fun hs hh hd => ?_, fun hs => ?_⟩
  · have hy : y.seq = { s.seq with state := .extract } := hseq.trans (hextract hs hh hd)
    have hystate : y.seq.state = .extract := by rw [hy]
    rw [takeDefrostOrder_direct (.inl hystate), enterDirect_melt hst (by simp [hystate]) (by simp [hystate]), hnow', hnow,
      enterDirect_seq, hy, ← hs]
    exact ⟨rfl, rfl⟩
  · obtain ⟨hstate, htarget, -⟩ := hsupply hs hh hd
    rw [← hseq] at hstate htarget
    rw [takeDefrostOrder_retarget hstate, retarget_seq htarget]
    split <;> exact ⟨hstate, rfl⟩
  · have hy : y.seq = { s.seq with defrostResume := false } := hseq.trans (hpaused hs)
    have hystate : y.seq.state = .paused := by rw [hy]; exact hs
    rw [takeDefrostOrder_paused hystate, hy]

/-- What a defrost forced at the limit shows and announces. -/
theorem finish_forcedAgain {m s : State} (hstage : s.frost.stage = .defrosting)
    (hforced : forcedHolds (defrostLeft .lockout s) = true) :
    (finish m (forcedTest (defrostLeft .lockout s))).frost = { s.frost with
      stage := .defrosting, notice := some ⟨.enter, true⟩, contentionStart := none, entryAccount := none
      windowEnd := none, defrostStart := some s.now
      meltStepEnd := (finish m (forcedTest (defrostLeft .lockout s))).frost.meltStepEnd, lockoutEnd := none }
    ∧ (finish m (forcedTest (defrostLeft .lockout s))).ctl.green = ⟨.slowBlink, s.now⟩
    ∧ (finish m (forcedTest (defrostLeft .lockout s))).line.defrostSlot.pending = true
    ∧ (finish m (forcedTest (defrostLeft .lockout s))).line.statusSlot.pending = true := by
  have hst : (FrostStage.lockout) ≠ s.frost.stage := by simp [hstage]
  have hnow : (defrostLeft .lockout s).now = s.now := (tells_defrostLeft (by decide) hstage).lit.now
  have hgreen := defrostLeft_green (st := .lockout) (by decide) hst
  have hasked := defrostLeft_asks hst
  have hleft := (defrostLeft_frost (st := .lockout) (s := s) (by decide)).1
  have hleftStage : (defrostLeft .lockout s).frost.stage = .lockout := defrostLeft_stage (by decide)
  obtain ⟨-, -, -, htakes⟩ := (forcedHolds_iff _).mp hforced
  generalize defrostLeft .lockout s = x at hforced hnow hgreen hasked hleft hleftStage htakes
  obtain ⟨hfrost, hslot, -⟩ := forcedTest_frost hforced
  have hform := forcedTest_forced hforced
  have hlamp : (forcedTest x).ctl.green = ⟨.slowBlink, s.now⟩ := by
    rw [hform, ← hnow]
    exact orderDefrost_green (s := forced x) (by simp [forced, clearContention, queueNotice, hleftStage]) htakes hgreen
  have hrun : (view x).lamp = .running := by
    have hstate : lampStateOf x.seq.state = .running := by
      cases h : x.seq.state <;> simp_all [SeqState.refusesDefrost, lampStateOf]
    exact hstate
  have hpattern : greenPattern (lampInputs (forcedTest x)) = .slowBlink := by
    have hview : view (forcedTest x) = { view x with defrosts := true } := by
      rw [hform, (orderDefrost_taken (s := forced x) htakes).2.1, forced_view]
    rw [greenPattern_eq, show viewOf (lampInputs (forcedTest x)) = view (forcedTest x) from rfl, hview, greenOf, hrun]
    rfl
  have hkept : (finish m (forcedTest x)).frost = (forcedTest x).frost := by simp
  refine ⟨?_, ?_, ?_, finish_statusPending ((tells_forcedTest x).1.pending hasked)⟩
  · rw [hkept, hfrost, hleft, hnow]
  · rw [(finish_lamps m (forcedTest x)).2, hpattern, hlamp]
    split
    · rfl
    · rfl
  · exact (steady_field (f := fun l => l.defrostSlot.pending) (fun _ => rfl) (finish_line_steady m _)).trans hslot

/-- Settles O41, by whether the account comes to 100 and whether the forced test follows the limit. -/
theorem defrostMeltsAndEnds : Obligations.DefrostMeltsAndEnds := by
  intro t s hr hstage
  have hm : (advance t s).frost = s.frost ∧ (advance t s).seq = s.seq := by simp
  obtain ⟨hmfrost, hmseq⟩ := hm
  have hdir (x : State) (hl : x.lane = s.lane) (hc : x.clock = s.clock) : laneDirectionNow x = laneDirectionNow s := by
    rw [laneDirectionNow, laneDirectionNow, hl, hc]
  refine ⟨fun e he hle xs a hxs ha => ?_, fun b hb hle hhigh => ?_⟩
  · refine ⟨_, exec_eq_finish (c := .meltStepEnd t) rfl hr (effectOf_meltStepEnd hstage he hle), ?_⟩
    have haccount : accountAfterMeltStep s.frost.account (stepMean (advance t s) e) = a := by
      have hstream : (advance t s).climate.stream = s.climate.stream := by simp
      rw [stepMean_eq, hstream, ← hxs, accountAfterMeltStep_mean, ha]
    have hmelt : (meltStep e (advance t s)).frost = { s.frost with account := a, meltStepEnd := some (e + seconds 10) } := by
      rw [meltStep_frost, hmfrost, haccount]
    have hclose : closeMeltStep e (advance t s) = if a ≤ 100 then endDefrost .clear (setAccount 0 (meltStep e (advance t s)))
        else meltStep e (advance t s) := by
      unfold closeMeltStep
      dsimp only
      rw [hmelt]
    refine ⟨fun habove => ?_, fun hbelow => ?_, by simp⟩
    · rw [hclose, if_neg (by omega), held_finish, show tenths 100 = seconds 10 from tenths_eq_seconds 10, ← hmelt]
      rfl
    · rw [hclose, if_pos hbelow,
        endDefrost_low (show (setAccount 0 (meltStep e (advance t s))).frost.account < 3200 from Nat.zero_lt_succ _)]
      generalize hy : setAccount 0 (meltStep e (advance t s)) = y
      have hyfrost : y.frost = { s.frost with account := 0, meltStepEnd := some (e + seconds 10) } := by
        rw [← hy, setAccount, hmelt]
      have hyseq : y.seq = s.seq := by rw [← hy]; exact hmseq
      have hydir : laneDirectionNow y = laneDirectionNow s := by rw [← hy]; exact hdir _ (by simp) (by simp)
      have hystage : y.frost.stage = .defrosting := by rw [hyfrost]; exact hstage
      obtain ⟨hfrost, hslot, hstatus, hseq, hout⟩ :=
        finish_defrostLeft (m := advance t s) (st := .clear) (by decide) hystage
      obtain ⟨hrest, hextract, hsupply, -, -⟩ := defrostLeft_seq .clear (s := y)
      rw [hyseq] at hrest hextract hsupply
      rw [hydir] at hextract hsupply
      rw [hfrost, hyfrost, hseq, hout]
      exact ⟨rfl, hslot, hstatus, hrest, hextract, hsupply⟩
  · refine ⟨_, exec_eq_finish (c := .defrostTimeLimit t) rfl hr (effectOf_defrostTimeLimit hstage hb hle hhigh), ?_⟩
    generalize hy : startLockout (advance t s) = y
    have hyfrost : y.frost = { s.frost with lockoutEnd := some (timeAfter t s + seconds 1800) } := by
      rw [← hy, startLockout, hmfrost]
      rfl
    have hyseq : y.seq = s.seq := by rw [← hy]; exact hmseq
    have hydir : laneDirectionNow y = laneDirectionNow s := by rw [← hy]; exact hdir _ (by simp) (by simp)
    have hynow : y.now = timeAfter t s := by rw [← hy]; rfl
    have hystage : y.frost.stage = .defrosting := by rw [hyfrost]; exact hstage
    have hframe : (finish (advance t s) (forcedTest (defrostLeft .lockout y))).clock = s.clock
        ∧ (finish (advance t s) (forcedTest (defrostLeft .lockout y))).peers = s.peers
        ∧ (finish (advance t s) (forcedTest (defrostLeft .lockout y))).house = s.house
        ∧ (finish (advance t s) (forcedTest (defrostLeft .lockout y))).cfg = s.cfg
        ∧ (finish (advance t s) (forcedTest (defrostLeft .lockout y))).climate = s.climate
        ∧ (finish (advance t s) (forcedTest (defrostLeft .lockout y))).ctl.steady = s.ctl.steady
        ∧ (finish (advance t s) (forcedTest (defrostLeft .lockout y))).loader = s.loader
        ∧ (finish (advance t s) (forcedTest (defrostLeft .lockout y))).pending = s.pending := by
      rw [← hy]
      simp [defrostLeft]
    obtain ⟨hidle, hholds⟩ := forcedHolds_defrostLeft (s := y)
    rw [hyseq, show y.frost.account = s.frost.account by rw [hyfrost]] at hidle hholds
    obtain ⟨hleft, hslot, hstatus, hseq, hout⟩ :=
      finish_defrostLeft (m := advance t s) (st := .lockout) (by decide) hystage
    obtain ⟨hrest, hextract, hsupply, hpaused, -⟩ := defrostLeft_seq .lockout (s := y)
    rw [hyseq] at hrest hextract hsupply hpaused
    rw [hydir] at hextract hsupply
    have hlow (h : s.frost.account < 3200) : forcedTest (defrostLeft .lockout y) = defrostLeft .lockout y :=
      forcedTest_idle (hidle (.inl h))
    refine ⟨fun h => ?_, fun hs hh => ?_, fun h hs hh hd => ?_, fun h hs hh hd => ?_, fun h hs => ?_, fun h htakes hnot => ?_,
      ?_, ?_, hframe⟩
    · rw [forcedTest_idle (hidle h), hleft, hyfrost, show tenths 18000 = seconds 1800 from tenths_eq_seconds 1800]
    · rw [forcedTest_idle (hidle (.inr (.inr ⟨hs, hh⟩))), hseq]
      exact hrest hs hh
    · rw [hlow h, hseq]
      exact hextract hs hh hd
    · rw [hlow h, hseq, hout]
      exact hsupply hs hh hd
    · rw [hlow h, hseq]
      exact hpaused hs
    · have hforced := hholds h htakes hnot
      obtain ⟨hfrost, hgreen, -, -⟩ := finish_forcedAgain (m := advance t s) hystage hforced
      obtain ⟨hagain, hturned, hresumed⟩ := forcedAgain_seq hystage hforced
      have hheld (hs : s.seq.state = .defrost) : s.seq.restHeld = false :=
        Bool.not_eq_true _ ▸ fun hh => hnot ⟨hs, hh⟩
      rw [hyseq] at hagain hturned hresumed
      rw [hydir, hynow] at hagain
      rw [hydir] at hturned
      rw [hynow, hyfrost] at hfrost
      rw [hynow] at hgreen
      have hfinal (x : State) : (finish (advance t s) x).frost = x.frost := by simp
      refine ⟨hfrost, hgreen, fun hs hd => ?_, fun hs hd => ?_, fun hs => ?_⟩
      · rw [finish_seq, hfinal, show tenths 100 = seconds 10 from tenths_eq_seconds 10]
        exact hagain hs (hheld hs) hd
      · rw [finish_seq]
        exact hturned hs (hheld hs) hd
      · rw [finish_seq]
        exact hresumed hs
    · cases hforced : forcedHolds (defrostLeft .lockout y)
      · rw [forcedTest_idle hforced]
        exact hslot
      · exact (finish_forcedAgain hystage hforced).2.2.1
    · cases hforced : forcedHolds (defrostLeft .lockout y)
      · rw [forcedTest_idle hforced]
        exact hstatus
      · exact (finish_forcedAgain hystage hforced).2.2.2

end Sys2Proof.Proofs

/-! The probe faults that a sample raises and clears (O38). -/

namespace Sys2Proof.Proofs

open Sys2Proof.Machine

/-! ## What the frost guard's answers leave -/

/-- An act that leaves the humidity monitor and begins no probe. -/
structure Still (s y : State) : Prop where
  humid : y.humid = s.humid
  probing : s.filter.probing = false → y.filter.probing = false

theorem Still.refl (s : State) : Still s s := ⟨rfl, id⟩

theorem Still.trans {a b c : State} (hab : Still a b) (hbc : Still b c) : Still a c :=
  ⟨hbc.humid.trans hab.humid, fun h => hbc.probing (hab.probing h)⟩

theorem still_of_filter {s y : State} (hh : y.humid = s.humid) {b : Prop} [Decidable b] {n : Time}
    (hf : y.filter = if b then abandoned n s.filter else s.filter) : Still s y := by
  refine ⟨hh, fun h => ?_⟩
  rw [hf]
  split
  · exact abandoned_probing _ _
  · exact h

theorem still_setStage (st : FrostStage) (s : State) : Still s (setStage st s) := by
  have h := held_setStage st s
  exact still_of_filter (congrArg Held.humid h) (congrArg Held.filter h)

theorem still_beginReversing (g : Target) {s : State} (hold : s.seq.state ≠ .rest) : Still s (beginReversing g s) := by
  have h := held_beginReversing g s
  rw [if_neg hold] at h
  exact still_of_filter (congrArg Held.humid h) (congrArg Held.filter h)

theorem still_enterDirect {st : SeqState} {s : State} (hrest : st ≠ .rest) (hstop : st ≠ .stopped)
    (hold : s.seq.state ≠ .rest) : Still s (enterDirect st s) := by
  have h := held_changeSeq_running (q := { s.seq with state := st }) hrest hstop hold
  exact still_of_filter (y := enterDirect st s) (congrArg Held.humid h) (congrArg Held.filter h)

theorem still_retarget (g : Target) {s : State} (hstate : s.seq.state = .reversing) : Still s (retarget g s) := by
  cases ht : s.seq.target
  case none => rw [retarget, ht]; exact .refl s
  case some t =>
    have h := held_retarget (g := g) hstate ht
    exact still_of_filter (congrArg Held.humid h) (congrArg Held.filter h)

theorem still_takeDefrostOrder (s : State) : Still s (takeDefrostOrder s) := by
  unfold takeDefrostOrder
  split
  case h_1 h => exact still_enterDirect (by decide) (by decide) (by simp [h])
  case h_2 h => exact still_beginReversing _ (by simp [h])
  case h_3 h =>
    split
    · exact still_enterDirect (by decide) (by decide) (by simp [h])
    · exact still_beginReversing _ (by simp [h])
  case h_4 h => exact still_retarget _ h
  case h_5 => exact ⟨rfl, id⟩
  case h_6 => exact .refl s

theorem still_withdraw (st : FrostStage) (s : State) : Still s (withdraw st s) :=
  Still.trans (b := clearContention (queueNotice .withdraw false s)) ⟨rfl, id⟩ (still_setStage st _)

theorem still_orderDefrost (s : State) : Still s (orderDefrost s) := by
  cases h : s.seq.state.refusesDefrost
  · rw [orderDefrost_eq h]
    exact Still.trans (b := ordering s) ⟨(still_setStage _ s).humid, (still_setStage .defrosting s).probing⟩
      (still_takeDefrostOrder _)
  · rw [orderDefrost_refused h]
    exact still_withdraw _ s

theorem still_forcedTest (s : State) : Still s (forcedTest s) := by
  cases h : forcedHolds s
  · rw [forcedTest_idle h]
    exact .refl s
  · rw [forcedTest_forced h]
    exact Still.trans (b := forced s) ⟨rfl, id⟩ (still_orderDefrost _)

theorem still_moveStage (st : FrostStage) (s : State) : Still s (moveStage st s) := by
  unfold moveStage
  split
  · exact .refl s
  · exact (still_setStage st s).trans (still_forcedTest _)

theorem still_wantTest (s : State) : Still s (wantTest s) := by
  unfold wantTest
  split
  · split
    · exact still_orderDefrost s
    · split
      · exact Still.trans (b := { queueNotice .enter false s with
          frost := { (queueNotice .enter false s).frost with
            contentionStart := some s.now, entryAccount := none, windowEnd := none } }) ⟨rfl, id⟩ (still_moveStage _ _)
      · exact still_moveStage _ s
  · exact .refl s

theorem still_leaveBlind (s : State) : Still s (leaveBlind s) := by
  unfold leaveBlind
  split
  case isFalse => exact .refl s
  case isTrue =>
    split
    · have hstaged : Still s (setStage .defrosting { s with frost := { s.frost with blindDefrost := false } }) :=
        Still.trans (b := { s with frost := { s.frost with blindDefrost := false } }) ⟨rfl, id⟩ (still_setStage _ _)
      dsimp only
      split
      · exact hstaged.trans (b := _) ⟨rfl, id⟩
      · exact hstaged
    · have htested := (still_setStage (stageByAccount s.frost.account) s).trans (still_forcedTest _)
      dsimp only
      split
      · exact htested.trans (still_wantTest _)
      · exact htested

/-! ## The channels -/

theorem faultChange_raised {b a : Channel} (hb : b.fault = false) (ha : a.fault = true) : faultChange b a = .raised := by
  simp [faultChange, hb, ha]

theorem faultChange_cleared {b a : Channel} (hb : b.fault = true) (ha : a.fault = false) : faultChange b a = .cleared := by
  simp [faultChange, hb, ha]

theorem faultChange_kept {b a : Channel} (h : a.fault = b.fault) : faultChange b a = .kept := by
  cases hb : b.fault <;> simp [faultChange, h, hb]

theorem step_invalid {c : Channel} : c.step none = ⟨true, 0, c.held⟩ := by
  unfold Channel.step
  cases h : c.fault <;> simp

/-- R58: a channel acts on a converted code. -/
theorem afterCode_step (v : Option Int) (c : Channel) : afterCode v c (c.step v) := by
  refine ⟨fun hv => ?_, fun x hv hf => ?_, fun x hv hf hn => ?_, fun x hv hf hn => ?_⟩
  · rw [hv, step_invalid]
  · simp [Channel.step, hv, hf]
  · simp [Channel.step, hv, hf, hn]
  · simp [Channel.step, hv, hf, hn]

theorem convertThermistor_none {k : BitVec 12} (h : thermistorValid k = false) : convertThermistor k = none := by
  simp [convertThermistor, h]

theorem convertThermistor_some {k : BitVec 12} (h : thermistorValid k = true) :
    convertThermistor k = some (thermistorTemp k) := by simp [convertThermistor, h]

/-! ## A sample, act by act -/

/-- The sample set of the moment (R64). -/
def setTaken (i o h : BitVec 12) (m : State) : SampleSet :=
  sampleSet { m with climate := stepChannels i o h m.climate } m.seq.state

/-- The state in which the channels have acted and the set is recorded. -/
def sampled (i o h : BitVec 12) (m : State) : State :=
  recordSample (setTaken i o h m) { m with climate := stepChannels i o h m.climate }

/-- The state in which the INNER and OUTER faults have acted. -/
def faulted (i o h : BitVec 12) (m : State) : State :=
  onOuter (faultChange m.climate.outer (m.climate.outer.step (convertThermistor o)))
    (onInner (faultChange m.climate.inner (m.climate.inner.step (convertThermistor i))) (sampled i o h m))

theorem takeSample_faulted (i o h : BitVec 12) (m : State) :
    takeSample i o h m = takeSpeedReading (evaluateOutdoor
      (onHumidity (faultChange m.climate.humidity (m.climate.humidity.step (convertHumidity h))) (faulted i o h m))) := rfl

theorem abandonProbe_probing (s : State) : (abandonProbe s).filter.probing = false :=
  (congrArg (fun y : Held => y.filter.probing) (held_abandonProbe s)).trans (abandoned_probing _ _)

/-- The outdoor values dropped with the ring (R59). -/
def outerSpoilt (s : State) : State :=
  { spoilRing s with climate := { (spoilRing s).climate with ownOutdoor := none, ownOutdoorTime := none, outdoor := none } }

theorem onOuter_raised (s : State) : onOuter .raised s = abandonProbe (enterBlind (outerSpoilt s)) := rfl

theorem still_onOuter (x : FaultChange) (s : State) : Still s (onOuter x s) := by
  cases x
  case raised =>
    rw [onOuter_raised]
    refine ⟨?_, fun _ => abandonProbe_probing _⟩
    simp [outerSpoilt]
  case cleared => exact still_leaveBlind s
  case kept => exact .refl s

theorem onInner_climate (x : FaultChange) (s : State) :
    (onInner x s).climate = if x = .raised then (spoilRing s).climate else s.climate := by
  cases x <;> simp [onInner]

theorem onOuter_climate (x : FaultChange) (s : State) :
    (onOuter x s).climate = if x = .raised then (outerSpoilt s).climate else s.climate := by
  cases x <;> simp [onOuter, outerSpoilt]

theorem spoilRing_invalid (s : State) : ∀ r ∈ (spoilRing s).climate.ring, r.valid = false := by
  intro r hr
  obtain ⟨q, -, rfl⟩ := List.mem_map.mp hr
  rfl

/-- What a sample leaves of the state with its faults acted, but for the humidity monitor and the outdoor value. -/
theorem sample_tail (i o h : BitVec 12) (m : State) :
    (takeSample i o h m).frost = (faulted i o h m).frost ∧ (takeSample i o h m).seq = (faulted i o h m).seq
      ∧ (takeSample i o h m).line = (faulted i o h m).line
      ∧ (takeSample i o h m).climate.ring = (faulted i o h m).climate.ring
      ∧ (takeSample i o h m).filter.probing = (faulted i o h m).filter.probing := by
  rw [takeSample_faulted]
  generalize faulted i o h m = x
  have hring (s : State) : (evaluateOutdoor s).climate.ring = s.climate.ring := by
    unfold evaluateOutdoor reformBand
    dsimp only
    split
    · split
      · rfl
      · dsimp only
        split <;> rfl
    · rfl
  generalize hy : onHumidity (faultChange m.climate.humidity (m.climate.humidity.step (convertHumidity h))) x = y
  have hkept : y.frost = x.frost ∧ y.seq = x.seq ∧ y.line = x.line ∧ y.climate = x.climate ∧ y.filter = x.filter := by
    rw [← hy]
    simp
  obtain ⟨hfrost, hseq, hline, hclimate, hfilter⟩ := hkept
  refine ⟨by simpa using hfrost, by simpa using hseq, by simpa using hline, ?_, ?_⟩
  · rw [← hclimate, ← hring y]
    simp
  · rw [← hfilter]
    unfold takeSpeedReading
    split <;> simp [FilterRec.probing]

/-! ## The OUTER fault at the frost guard -/

/-- What BLIND makes of the frost guard's record (R91). -/
theorem enterBlind_frost (s : State) :
    (enterBlind s).frost.stage = .blind ∧ (enterBlind s).frost.account = s.frost.account
      ∧ (s.frost.stage = .defrosting → (enterBlind s).frost = { s.frost with
          stage := .blind, blindDefrost := true, meltStepEnd := none })
      ∧ (s.frost.stage = .contending → (enterBlind s).frost = { s.frost with
            stage := .blind, notice := some ⟨.withdraw, false⟩, windowEnd := none, contentionStart := none
            entryAccount := none }
          ∧ (enterBlind s).line.defrostSlot.pending = true)
      ∧ (s.frost.stage = .lockout → (enterBlind s).frost.lockoutEnd = none) := by
  unfold enterBlind
  cases hst : s.frost.stage
  case contending =>
    have h := held_withdraw .blind (s := s) (by simp [hst])
    have hfrost : (withdraw .blind s).frost = _ := congrArg Held.frost h
    have hslot : (withdraw .blind s).line.defrostSlot.pending = true :=
      congrArg (fun y : Held => y.line.defrostSlot.pending) h
    dsimp only
    rw [hfrost]
    exact ⟨rfl, rfl, (nomatch ·), fun _ => ⟨rfl, hslot⟩, (nomatch ·)⟩
  all_goals simp [setStage_frost, hst]

/-- The faulted state where OUTER is raised. -/
theorem faulted_raised {i o h : BitVec 12} {m : State} (hf : m.climate.outer.fault = false)
    (hv : thermistorValid o = false) :
    faulted i o h m = onOuter .raised
      (onInner (faultChange m.climate.inner (m.climate.inner.step (convertThermistor i))) (sampled i o h m)) := by
  have hch : faultChange m.climate.outer (m.climate.outer.step (convertThermistor o)) = .raised :=
    faultChange_raised hf (by rw [convertThermistor_none hv, step_invalid])
  rw [faulted, hch]

theorem step_clears {c : Channel} {x : Int} (hf : c.fault = true) (hrun : c.validRun = 9) :
    c.step (some x) = ⟨false, 0, some x⟩ := by simp [Channel.step, hf, hrun]

/-- The faulted state where OUTER is cleared. -/
theorem faulted_cleared {i o h : BitVec 12} {m : State} (hf : m.climate.outer.fault = true)
    (hv : thermistorValid o = true) (hrun : m.climate.outer.validRun = 9) :
    faulted i o h m = leaveBlind
      (onInner (faultChange m.climate.inner (m.climate.inner.step (convertThermistor i))) (sampled i o h m)) := by
  have hch : faultChange m.climate.outer (m.climate.outer.step (convertThermistor o)) = .cleared :=
    faultChange_cleared hf (by rw [convertThermistor_some hv, step_clears hf hrun])
  rw [faulted, hch]
  rfl

/-- R91: what the clearing of OUTER makes of BLIND without a defrost. -/
theorem leaveBlind_idle {s : State} (hst : s.frost.stage = .blind) (hb : s.frost.blindDefrost = false) :
    leaveBlind s = if (forcedTest (setStage (stageByAccount s.frost.account) s)).frost.stage = .limiting
      then wantTest (forcedTest (setStage (stageByAccount s.frost.account) s))
      else forcedTest (setStage (stageByAccount s.frost.account) s) := by
  unfold leaveBlind
  rw [if_pos hst, hb]
  rfl

theorem leaveBlind_low {s : State} (hst : s.frost.stage = .blind) (hb : s.frost.blindDefrost = false)
    (hlow : s.frost.account < 1600) :
    (leaveBlind s).frost = { s.frost with stage := stageByAccount s.frost.account } := by
  have hidle : forcedTest (setStage (stageByAccount s.frost.account) s) = setStage (stageByAccount s.frost.account) s :=
    forcedTest_idle (forcedHolds_low (by rw [setStage_frost]; show s.frost.account < 3200; omega))
  have hwant : wantHolds (setStage (stageByAccount s.frost.account) s) = false := by
    rw [← Bool.not_eq_true, wantHolds_iff, setStage_frost]
    rintro ⟨h, -⟩
    exact absurd h (Nat.not_le.mpr hlow)
  rw [leaveBlind_idle hst hb, hidle, wantTest_idle hwant, ite_self, setStage_frost]

theorem leaveBlind_defrost {s : State} (hst : s.frost.stage = .blind) (hb : s.frost.blindDefrost = true) :
    (leaveBlind s).seq = s.seq ∧ (leaveBlind s).frost = { s.frost with
      stage := .defrosting, blindDefrost := false
      meltStepEnd := if s.seq.state = .defrost then some (s.now + seconds 10) else s.frost.meltStepEnd } := by
  have hform : leaveBlind s = if s.seq.state = .defrost
      then startMelt (setStage .defrosting { s with frost := { s.frost with blindDefrost := false } })
      else setStage .defrosting { s with frost := { s.frost with blindDefrost := false } } := by
    unfold leaveBlind
    rw [if_pos hst, hb]
    rfl
  have hfrost := setStage_frost .defrosting { s with frost := { s.frost with blindDefrost := false } }
  rw [hform]
  split
  · exact ⟨by simp [startMelt], by simp [startMelt, hfrost]⟩
  · exact ⟨by simp, by rw [hfrost]⟩

theorem leaveBlind_forced {s : State} (hst : s.frost.stage = .blind) (hb : s.frost.blindDefrost = false)
    (hhigh : 3200 ≤ s.frost.account) (htakes : s.seq.state.refusesDefrost = false) :
    (leaveBlind s).frost.stage = .defrosting ∧ (leaveBlind s).frost.notice = some ⟨.enter, true⟩
      ∧ (leaveBlind s).frost.defrostStart = some s.now ∧ (leaveBlind s).line.defrostSlot.pending = true := by
  have hforced : forcedHolds (setStage (stageByAccount s.frost.account) s) = true := by
    rw [forcedHolds_iff, setStage_frost]
    refine ⟨hhigh, stageByAccount_ne _, ?_, by simpa using htakes⟩
    rcases stageByAccount_cases s.frost.account with h | h <;> simp [h]
  obtain ⟨hfrost, hslot, -⟩ := forcedTest_frost hforced
  have hnow : (setStage (stageByAccount s.frost.account) s).now = s.now := by simp
  rw [leaveBlind_idle hst hb, if_neg (by rw [hfrost]; simp), hfrost, hnow]
  exact ⟨rfl, rfl, rfl, hslot⟩

theorem leaveBlind_wants {s : State} (hst : s.frost.stage = .blind) (hb : s.frost.blindDefrost = false)
    (hwants : 1600 ≤ s.frost.account) (hlow : s.frost.account < 3200) (hskips : s.seq.state.skipsWant = false)
    (hsettled : s.seq.settling = 0) (hline : s.line.active = false) :
    (leaveBlind s).seq = s.seq
      ∧ (placesInUse s < s.cfg.allowance → (leaveBlind s).frost = { s.frost with
          stage := .contending, notice := some ⟨.enter, false⟩, contentionStart := some s.now, entryAccount := none
          windowEnd := none } ∧ (leaveBlind s).line.defrostSlot.pending = true)
      ∧ (s.cfg.allowance ≤ placesInUse s → (leaveBlind s).frost = { s.frost with stage := .deferred }) := by
  have hby : stageByAccount s.frost.account = .limiting := by
    unfold stageByAccount
    exact if_pos (by omega)
  rw [leaveBlind_idle hst hb, hby]
  generalize hy : setStage .limiting s = y
  have hyfrost : y.frost = { s.frost with stage := .limiting } := by rw [← hy, setStage_frost]
  have hyseq : y.seq = s.seq := by rw [← hy]; simp
  have hynow : y.now = s.now := by rw [← hy]; simp
  have hyline : y.line.active = s.line.active := by rw [← hy]; simp
  have hycfg : y.cfg = s.cfg := by rw [← hy]; simp
  have hyplaces : placesInUse y = placesInUse s := placesInUse_of_eq hyline (by rw [← hy]; simp)
  have hidle : forcedTest y = y := forcedTest_idle (forcedHolds_low (by rw [hyfrost]; exact hlow))
  have hwant : wantHolds y = true := by
    rw [wantHolds_iff, hyfrost, hyseq]
    exact ⟨hwants, .inl rfl, hskips, hsettled⟩
  have hheld := held_wantTest_clear hwant (by rw [hyfrost]; exact hlow) (hyline.trans hline)
  rw [hidle, if_pos (by rw [hyfrost])]
  rw [hyplaces, hycfg, hyfrost, hynow] at hheld
  refine ⟨?_, fun hfree => ?_, fun hfull => ?_⟩
  · rw [← hyseq]
    have hseq : (wantTest y).seq = _ := congrArg Held.seq hheld
    rw [hseq]
    split <;> rfl
  · rw [if_pos hfree] at hheld
    have hslot : (wantTest y).line.defrostSlot.pending = true :=
      congrArg (fun h : Held => h.line.defrostSlot.pending) hheld
    exact ⟨congrArg Held.frost hheld, hslot⟩
  · rw [if_neg (Nat.not_lt.mpr hfull)] at hheld
    exact congrArg Held.frost hheld

/-! ## What the faults leave for the frost guard -/

/-- The state that the OUTER fault finds is that of the sample's start for sequencer, frost guard and line. -/
theorem onInner_sampled (x : FaultChange) (i o h : BitVec 12) (m : State) :
    (onInner x (sampled i o h m)).frost = m.frost ∧ (onInner x (sampled i o h m)).seq = m.seq
      ∧ (onInner x (sampled i o h m)).now = m.now ∧ (onInner x (sampled i o h m)).line = m.line
      ∧ (onInner x (sampled i o h m)).peers = m.peers ∧ (onInner x (sampled i o h m)).cfg = m.cfg
      ∧ (onInner x (sampled i o h m)).humid = m.humid ∧ (onInner x (sampled i o h m)).demand = m.demand := by
  simp [sampled]

/-- A raised INNER or OUTER fault spoils the ring and abandons a probe. -/
theorem faulted_spoilt {i o h : BitVec 12} {m : State}
    (hraised : (m.climate.inner.fault = false ∧ thermistorValid i = false)
      ∨ (m.climate.outer.fault = false ∧ thermistorValid o = false)) :
    (∀ r ∈ (faulted i o h m).climate.ring, r.valid = false) ∧ (faulted i o h m).filter.probing = false := by
  by_cases houter : m.climate.outer.fault = false ∧ thermistorValid o = false
  · rw [faulted_raised houter.1 houter.2, onOuter_climate, if_pos rfl, onOuter_raised]
    exact ⟨spoilRing_invalid _, abandonProbe_probing _⟩
  · obtain ⟨hf, hv⟩ := hraised.resolve_right houter
    have hch : faultChange m.climate.inner (m.climate.inner.step (convertThermistor i)) = .raised :=
      faultChange_raised hf (by rw [convertThermistor_none hv, step_invalid])
    have hinner : (onInner .raised (sampled i o h m)).filter.probing = false := abandonProbe_probing _
    have hring : ∀ r ∈ (onInner .raised (sampled i o h m)).climate.ring, r.valid = false := by
      rw [onInner_climate, if_pos rfl]
      exact spoilRing_invalid _
    unfold faulted
    rw [hch]
    generalize onInner .raised (sampled i o h m) = x at hinner hring
    refine ⟨?_, (still_onOuter _ x).probing hinner⟩
    rw [onOuter_climate]
    split
    · exact spoilRing_invalid x
    · exact hring

/-! ## The outdoor value after a sample -/

theorem sample_outdoor_faulty {i o h : BitVec 12} {m : State} (hf : m.climate.outer.fault = false)
    (hv : thermistorValid o = false) :
    (takeSample i o h m).climate.outdoor = none ∧ (takeSample i o h m).climate.ownOutdoor = none := by
  rw [takeSample_faulted]
  generalize hx : onHumidity (faultChange m.climate.humidity (m.climate.humidity.step (convertHumidity h)))
    (faulted i o h m) = x
  have hclimate : x.climate = (faulted i o h m).climate := by rw [← hx]; simp
  have hown : x.climate.ownOutdoor = none := by
    rw [hclimate, faulted_raised hf hv, onOuter_climate, if_pos rfl]
    rfl
  have hfault : x.climate.outer.fault = true := by
    rw [hclimate, faulted_raised hf hv, onOuter_climate, if_pos rfl]
    have hchannel (y : State) : (outerSpoilt y).climate.outer = y.climate.outer := rfl
    rw [hchannel, onInner_climate]
    have hstep : (sampled i o h m).climate.outer = m.climate.outer.step (convertThermistor o) := rfl
    have hspoilt : (spoilRing (sampled i o h m)).climate.outer = m.climate.outer.step (convertThermistor o) := rfl
    split
    · rw [hspoilt, convertThermistor_none hv, step_invalid]
    · rw [hstep, convertThermistor_none hv, step_invalid]
  have hnone : outdoorNow x = none := by simp [outdoorNow, hfault]
  have hevaluated : (evaluateOutdoor x).climate = { x.climate with outdoor := none } := by
    unfold evaluateOutdoor
    rw [hnone]
  have hkept : (takeSpeedReading (evaluateOutdoor x)).climate = (evaluateOutdoor x).climate := by simp
  rw [hkept, hevaluated]
  exact ⟨rfl, hown⟩

/-! ## The HUMIDITY fault -/

theorem humidFaultRaised_humid {s : State} (h : s.roomClass ≠ .dry) :
    (humidFaultRaised s).humid = ⟨.disabled, none, none, 0, none⟩
      ∧ (s.humid.state = .boosting → (humidFaultRaised s).demand.stack = without .humidity (ownNumber s) s.demand.stack) := by
  unfold humidFaultRaised
  rw [if_pos (by simpa [watchesHumidity] using h)]
  refine ⟨rfl, fun hb => ?_⟩
  have hleft : leaveBoost .disabled s = endBoost .disabled s := if_pos hb
  dsimp only
  rw [hleft]
  exact (congrArg Held.stack (held_endBoost .disabled s)).trans rfl

theorem humidFaultCleared_humid {s : State} (h : s.roomClass ≠ .dry) (hd : s.humid.state = .disabled) :
    (humidFaultCleared s).humid.state = .seeding := by
  unfold humidFaultCleared
  rw [if_pos ⟨by simpa [watchesHumidity] using h, hd⟩]

theorem faulted_humid (i o h : BitVec 12) (m : State) :
    (faulted i o h m).humid = m.humid ∧ (faulted i o h m).demand.stack = m.demand.stack
      ∧ (faulted i o h m).roomClass = m.roomClass ∧ (faulted i o h m).stationIndex = m.stationIndex := by
  obtain ⟨-, -, -, -, -, -, hhumid, hdemand⟩ := onInner_sampled
    (faultChange m.climate.inner (m.climate.inner.step (convertThermistor i))) i o h m
  refine ⟨(still_onOuter _ _).humid.trans hhumid, (tells_onOuter _ _).2.trans (by rw [hdemand]), ?_, ?_⟩
  · simp [faulted, sampled]
  · simp [faulted, sampled]

/-- Settles O38, fault by fault. -/
theorem probeFaultsAct : Obligations.ProbeFaultsAct := by
  intro i o h t s hr
  have hm : (advance t s).frost = s.frost ∧ (advance t s).seq = s.seq ∧ (advance t s).climate = s.climate
      ∧ (advance t s).line.active = s.line.active ∧ (advance t s).peers = s.peers ∧ (advance t s).cfg = s.cfg
      ∧ (advance t s).humid = s.humid ∧ (advance t s).demand = s.demand ∧ (advance t s).roomClass = s.roomClass
      ∧ (advance t s).stationIndex = s.stationIndex ∧ (advance t s).now = timeAfter t s := by simp
  refine ⟨_, exec_eq_finish (c := .sample i o h t) (x := takeSample i o h (advance t s)) rfl hr rfl, ?_⟩
  generalize advance t s = m at hm
  obtain ⟨hfrost, hseq, hclimate, hactive, hpeers, hcfg, hhumid, hdemand, hroom, hstation, hnow⟩ := hm
  rw [← hclimate, ← hfrost, ← hseq, ← hactive, ← hcfg, ← hhumid, ← hdemand, ← hroom, ← hnow,
    show placesInUse s = placesInUse m from placesInUse_of_eq hactive.symm hpeers.symm,
    show ownNumber s = ownNumber m by rw [ownNumber, ownNumber, hstation]]
  obtain ⟨htfrost, htseq, htline, htring, htprobing⟩ := sample_tail i o h m
  have hffrost : (finish m (takeSample i o h m)).frost = (faulted i o h m).frost := by simpa using htfrost
  have hfseq : (finish m (takeSample i o h m)).seq = (faulted i o h m).seq := by simpa using htseq
  have hfclimate : (finish m (takeSample i o h m)).climate = (takeSample i o h m).climate := by simp
  have hffilter : (finish m (takeSample i o h m)).filter = (takeSample i o h m).filter := by simp
  have hfslot : (finish m (takeSample i o h m)).line.defrostSlot = (faulted i o h m).line.defrostSlot := by
    rw [steady_field (f := LineRec.defrostSlot) (fun _ => rfl) (finish_line_steady m _), htline]
  obtain ⟨hifrost, hiseq, hinow, hiline, hipeers, hicfg, -, -⟩ := onInner_sampled
    (faultChange m.climate.inner (m.climate.inner.step (convertThermistor i))) i o h m
  rw [hffrost, hfseq, hfclimate, hffilter, hfslot, htring, htprobing]
  refine ⟨faulted_spoilt, fun hf hv => ?_, fun hf hv hrun hst hb hlow => ?_, fun hf hv hrun hst => ?_, fun hf hv hclass => ?_,
    fun hf hv hrun hclass hd => ?_⟩
  · obtain ⟨hout, hown⟩ := sample_outdoor_faulty (i := i) (h := h) hf hv
    rw [faulted_raised hf hv, onOuter_raised]
    generalize onInner (faultChange m.climate.inner (m.climate.inner.step (convertThermistor i))) (sampled i o h m) = x
      at hifrost hiseq
    have hxfrost : (outerSpoilt x).frost = m.frost := hifrost
    have hxseq : (outerSpoilt x).seq = m.seq := hiseq
    obtain ⟨hstage, haccount, hdefrost, hcontend, hlockout⟩ := enterBlind_frost (outerSpoilt x)
    rw [hxfrost] at haccount hdefrost hcontend hlockout
    have hkept : (abandonProbe (enterBlind (outerSpoilt x))).frost = (enterBlind (outerSpoilt x)).frost
        ∧ (abandonProbe (enterBlind (outerSpoilt x))).seq = m.seq
        ∧ (abandonProbe (enterBlind (outerSpoilt x))).line = (enterBlind (outerSpoilt x)).line := by
      simp [hxseq]
    obtain ⟨hkfrost, hkseq, hkline⟩ := hkept
    rw [hkfrost, hkseq, hkline]
    refine ⟨hstage, hout, hown, haccount, fun hs => ?_, fun hs => ?_, hlockout⟩
    · rw [hdefrost hs]
      exact ⟨rfl, rfl, rfl, rfl⟩
    · obtain ⟨hc, hslot⟩ := hcontend hs
      rw [hc]
      exact ⟨rfl, hslot, rfl, rfl⟩
  · rw [faulted_cleared hf hv hrun]
    rw [leaveBlind_low (by rw [hifrost]; exact hst) (by rw [hifrost]; exact hb) (by rw [hifrost]; exact hlow), hifrost]
    exact ⟨rfl, rfl⟩
  · rw [faulted_cleared hf hv hrun]
    generalize onInner (faultChange m.climate.inner (m.climate.inner.step (convertThermistor i))) (sampled i o h m) = x
      at hifrost hiseq hinow hiline hipeers hicfg
    have hplaces : placesInUse x = placesInUse m := placesInUse_of_eq (by rw [hiline]) hipeers
    refine ⟨fun hb => ?_, fun hb hhigh htakes => ?_, fun hb hwants hlow hskips hsettled hline => ?_⟩
    · have h' := leaveBlind_defrost (s := x) (by rw [hifrost]; exact hst) (by rw [hifrost]; exact hb)
      rwa [hifrost, hiseq, hinow] at h'
    · have h' := leaveBlind_forced (s := x) (by rw [hifrost]; exact hst) (by rw [hifrost]; exact hb)
        (by rw [hifrost]; exact hhigh) (by rw [hiseq]; exact htakes)
      rwa [hinow] at h'
    · have h' := leaveBlind_wants (s := x) (by rw [hifrost]; exact hst) (by rw [hifrost]; exact hb)
        (by rw [hifrost]; exact hwants) (by rw [hifrost]; exact hlow) (by rw [hiseq]; exact hskips)
        (by rw [hiseq]; exact hsettled) (by rw [hiline]; exact hline)
      rwa [hifrost, hiseq, hinow, hicfg, hplaces] at h'
  · obtain ⟨-, hfstack, hfroom, hfstation⟩ := faulted_humid i o h m
    have hch : faultChange m.climate.humidity (m.climate.humidity.step (convertHumidity h)) = .raised := by
      have hnone : convertHumidity h = none := by simp [convertHumidity, hv]
      exact faultChange_raised hf (by rw [hnone, step_invalid])
    obtain ⟨hgone, hentry⟩ := humidFaultRaised_humid (s := faulted i o h m) (by rw [hfroom]; exact hclass)
    have hown : ownNumber (faulted i o h m) = ownNumber m := by rw [ownNumber, ownNumber, hfstation]
    have hfinal : (finish m (takeSample i o h m)).humid = (humidFaultRaised (faulted i o h m)).humid
        ∧ (finish m (takeSample i o h m)).demand.stack = (humidFaultRaised (faulted i o h m)).demand.stack := by
      rw [takeSample_faulted, hch]
      simp [onHumidity]
    rw [hfinal.1, hfinal.2]
    refine ⟨hgone, fun hb => ?_⟩
    rw [hentry (by rw [(faulted_humid i o h m).1]; exact hb), hown, hfstack]
  · obtain ⟨hfhumid, -, hfroom, -⟩ := faulted_humid i o h m
    have hch : faultChange m.climate.humidity (m.climate.humidity.step (convertHumidity h)) = .cleared := by
      have hsome : ∃ x, convertHumidity h = some x := by simp [convertHumidity, hv]
      obtain ⟨x, hx⟩ := hsome
      exact faultChange_cleared hf (by rw [hx, step_clears hf hrun])
    have hfinal : (finish m (takeSample i o h m)).humid = (humidFaultCleared (faulted i o h m)).humid := by
      rw [takeSample_faulted, hch]
      simp [onHumidity]
    rw [hfinal]
    exact humidFaultCleared_humid (by rw [hfroom]; exact hclass) (by rw [hfhumid]; exact hd)

end Sys2Proof.Proofs

/-! A sample (O37). -/

namespace Sys2Proof.Proofs

open Sys2Proof.Machine

/-! ## The climate record after a sample -/

/-- What the INNER and OUTER faults leave of the climate record. -/
theorem faulted_climate (i o h : BitVec 12) (m : State) :
    (faulted i o h m).climate = { (sampled i o h m).climate with
      ring := (faulted i o h m).climate.ring, ownOutdoor := (faulted i o h m).climate.ownOutdoor
      ownOutdoorTime := (faulted i o h m).climate.ownOutdoorTime, outdoor := (faulted i o h m).climate.outdoor } := by
  unfold faulted
  rw [onOuter_climate]
  split <;> simp only [outerSpoilt, spoilRing, onInner_climate] <;> split <;> rfl

/-- With OUTER clear at the end the outdoor values are those before. -/
theorem faulted_outdoor {i o h : BitVec 12} {m : State} (hf : (m.climate.outer.step (convertThermistor o)).fault = false) :
    (faulted i o h m).climate.ownOutdoor = m.climate.ownOutdoor
      ∧ (faulted i o h m).climate.ownOutdoorTime = m.climate.ownOutdoorTime
      ∧ (faulted i o h m).climate.outdoor = m.climate.outdoor := by
  have hnot : faultChange m.climate.outer (m.climate.outer.step (convertThermistor o)) ≠ .raised := by
    unfold faultChange
    rw [hf]
    split <;> simp_all
  unfold faulted
  rw [onOuter_climate, if_neg hnot, onInner_climate]
  split <;> exact ⟨rfl, rfl, rfl⟩

theorem evaluateOutdoor_climate (s : State) :
    (evaluateOutdoor s).climate = { s.climate with
      outdoor := outdoorNow s, band := (evaluateOutdoor s).climate.band
      bandFormed := (evaluateOutdoor s).climate.bandFormed } := by
  unfold evaluateOutdoor reformBand
  cases hv : outdoorNow s
  case none => rfl
  case some x =>
    dsimp only
    split
    case isTrue h => rw [← h]
    case isFalse => split <;> rfl

theorem evaluateOutdoor_band (s : State) :
    (outdoorNow s = none ∨ outdoorNow s = s.climate.outdoor →
      (evaluateOutdoor s).climate.band = s.climate.band ∧ (evaluateOutdoor s).climate.bandFormed = s.climate.bandFormed)
    ∧ (∀ x, outdoorNow s = some x → s.climate.outdoor ≠ some x →
      (evaluateOutdoor s).climate.band = (if s.climate.bandFormed then bandMove x s.climate.band else bandDirect x)
        ∧ (evaluateOutdoor s).climate.bandFormed = true) := by
  unfold evaluateOutdoor reformBand
  refine ⟨fun h => ?_, fun x hx hne => ?_⟩
  · cases hv : outdoorNow s
    case none => exact ⟨rfl, rfl⟩
    case some x =>
      have hsame : s.climate.outdoor = some x := by
        rcases h with h | h
        · rw [hv] at h
          cases h
        · rw [← h, hv]
      dsimp only
      rw [if_pos hsame]
      exact ⟨rfl, rfl⟩
  · rw [hx]
    dsimp only
    rw [if_neg hne]
    cases hb : s.climate.bandFormed
    · exact ⟨rfl, rfl⟩
    · exact ⟨rfl, rfl⟩

theorem bandColderStep_rows (x : Int) :
    bandColderStep x 0 = (if x < 50 then 1 else 0) ∧ bandColderStep x 1 = (if x < -50 then 2 else 1)
      ∧ bandColderStep x 2 = (if x < -150 then 3 else 2) ∧ bandColderStep x 3 = 3 := by
  simp [bandColderStep, bandBoundary]

theorem bandWarmerStep_rows (x : Int) :
    bandWarmerStep x 0 = 0 ∧ bandWarmerStep x 1 = (if 60 ≤ x then 0 else 1)
      ∧ bandWarmerStep x 2 = (if -40 ≤ x then 1 else 2) ∧ bandWarmerStep x 3 = (if -140 ≤ x then 2 else 3) := by
  simp [bandWarmerStep, bandBoundary]

/-- Three colder steps end at the row of the value, or stay where it is not colder. -/
theorem bandColder_all {b : Nat} (hb : b ≤ 3) (x : Int) :
    bandColderStep x (bandColderStep x (bandColderStep x b)) = max b (rowOf x) := by
  obtain ⟨h0, h1, h2, h3⟩ := bandColderStep_rows x
  have hrows : b = 0 ∨ b = 1 ∨ b = 2 ∨ b = 3 := by omega
  by_cases ha : x < 50
  · rw [if_pos ha] at h0
    by_cases hb' : x < -50
    · rw [if_pos hb'] at h1
      by_cases hc : x < -150
      · rw [if_pos hc] at h2
        have hrow : rowOf x = 3 := by unfold rowOf; split_ifs <;> omega
        rcases hrows with rfl | rfl | rfl | rfl <;> simp [h0, h1, h2, h3, hrow]
      · rw [if_neg hc] at h2
        have hrow : rowOf x = 2 := by unfold rowOf; split_ifs <;> omega
        rcases hrows with rfl | rfl | rfl | rfl <;> simp [h0, h1, h2, h3, hrow]
    · have hc : ¬x < -150 := by omega
      rw [if_neg hb'] at h1
      rw [if_neg hc] at h2
      have hrow : rowOf x = 1 := by unfold rowOf; split_ifs <;> omega
      rcases hrows with rfl | rfl | rfl | rfl <;> simp [h0, h1, h2, h3, hrow]
  · have hb' : ¬x < -50 := by omega
    have hc : ¬x < -150 := by omega
    rw [if_neg ha] at h0
    rw [if_neg hb'] at h1
    rw [if_neg hc] at h2
    have hrow : rowOf x = 0 := by unfold rowOf; split_ifs <;> omega
    rcases hrows with rfl | rfl | rfl | rfl <;> simp [h0, h1, h2, h3, hrow]

theorem bandWarmer_all {b : Nat} (hb : b ≤ 3) (x : Int) :
    bandWarmerStep x (bandWarmerStep x (bandWarmerStep x b))
      = if 60 ≤ x then 0 else if -40 ≤ x then min b 1 else if -140 ≤ x then min b 2 else b := by
  obtain ⟨h0, h1, h2, h3⟩ := bandWarmerStep_rows x
  have hrows : b = 0 ∨ b = 1 ∨ b = 2 ∨ b = 3 := by omega
  by_cases ha : 60 ≤ x
  · have hb' : -40 ≤ x := by omega
    have hc : -140 ≤ x := by omega
    rw [if_pos ha] at h1 ⊢
    rw [if_pos hb'] at h2
    rw [if_pos hc] at h3
    rcases hrows with rfl | rfl | rfl | rfl <;> simp [h0, h1, h2, h3]
  · rw [if_neg ha] at h1 ⊢
    by_cases hb' : -40 ≤ x
    · have hc : -140 ≤ x := by omega
      rw [if_pos hb'] at h2 ⊢
      rw [if_pos hc] at h3
      rcases hrows with rfl | rfl | rfl | rfl <;> simp [h0, h1, h2, h3]
    · rw [if_neg hb'] at h2 ⊢
      by_cases hc : -140 ≤ x
      · rw [if_pos hc] at h3 ⊢
        rcases hrows with rfl | rfl | rfl | rfl <;> simp [h0, h1, h2, h3]
      · rw [if_neg hc] at h3 ⊢
        rcases hrows with rfl | rfl | rfl | rfl <;> simp [h0, h1, h2, h3]

theorem rowOf_le (x : Int) : rowOf x ≤ 3 := by unfold rowOf; split_ifs <;> omega

/-- R68: a move of the band, first toward the cold and then toward the warm. -/
theorem bandMove_eq {b : Nat} (hb : b ≤ 3) (x : Int) : bandMove x b = rowAfter true b x := by
  have hrow := rowOf_le x
  unfold bandMove
  dsimp only
  rw [bandColder_all hb, bandWarmer_all (by omega)]
  by_cases hcold : b < rowOf x
  · have hafter : rowAfter true b x = rowOf x := if_pos (.inr hcold)
    rw [hafter, max_eq_right (by omega)]
    unfold rowOf at hcold ⊢
    split_ifs at hcold ⊢ <;> omega
  · rw [max_eq_left (by omega), rowAfter, if_neg (c := true = false ∨ b < rowOf x) (by simpa using hcold)]

theorem bandDirect_eq (b : Nat) (x : Int) : bandDirect x = rowAfter false b x := by simp [rowAfter, bandDirect, rowOf]

/-! ## The table of the thermistors -/

/-- R57: the table read by interpolation. -/
theorem convertThermistor_table {tab : Nat → Int}
    (htab : ∀ n, tab n = [1500, 960, 760, 630, 530, 450, 380, 310, 250, 190, 130, 70, 10, -60, -140, -250, -450].getD n 0)
    (k : BitVec 12) :
    (100 ≤ k.toNat → k.toNat ≤ 3995 → ∀ n f : Nat, k.toNat = 256 * n + f → f < 256 →
      convertThermistor k = some (max (-400) (min 600 (tab n + ((tab (n + 1) - tab n) * (f : Int)).tdiv 256))))
    ∧ (k.toNat < 100 ∨ 3995 < k.toNat → convertThermistor k = none) := by
  refine ⟨fun hlow hhigh n f hk hf => ?_, fun h => convertThermistor_none ?_⟩
  · have hvalid : thermistorValid k = true := by simp [thermistorValid, hlow, hhigh]
    have hn : k.toNat / 256 = n := by omega
    have hr : k.toNat % 256 = f := by omega
    have hpoint (j : Nat) : thermistorTable.getD j 0 = tab j := by rw [htab]; rfl
    rw [convertThermistor_some hvalid, thermistorTemp, hn, hr]
    rw [hpoint, hpoint, clampInt]
    generalize tab n + _ = v
    congr 1
    split_ifs <;> omega
  · unfold thermistorValid
    rw [Bool.and_eq_false_iff]
    rcases h with h | h
    · exact .inl (decide_eq_false (by omega))
    · exact .inr (decide_eq_false (by omega))

/-! ## The sample set -/

theorem setTaken_eq (i o h : BitVec 12) (m : State) :
    setTaken i o h m = {
      time := m.now, inner := (m.climate.inner.step (convertThermistor i)).held
      outer := (m.climate.outer.step (convertThermistor o)).held
      rh := (m.climate.humidity.step (convertHumidity h)).held
      innerFault := (m.climate.inner.step (convertThermistor i)).fault
      outerFault := (m.climate.outer.step (convertThermistor o)).fault
      rhFault := (m.climate.humidity.step (convertHumidity h)).fault, state := m.seq.state
      tag := match m.seq.state with
        | .supply => some .supply
        | .extract | .defrost => some .extract
        | .through => some (if m.lane = .A then .supply else .extract)
        | _ => none } := by
  have htag : directionTag m.lane m.seq.state = match m.seq.state with
      | .supply => some .supply
      | .extract | .defrost => some .extract
      | .through => some (if m.lane = .A then .supply else .extract)
      | _ => none := by
    cases m.seq.state <;> cases m.lane <;> rfl
  unfold setTaken sampleSet
  dsimp only
  rw [htag]
  rfl

/-- What a recorded set makes of the climate record. -/
theorem sampled_climate (i o h : BitVec 12) (m : State) :
    (sampled i o h m).climate.inner = m.climate.inner.step (convertThermistor i)
      ∧ (sampled i o h m).climate.outer = m.climate.outer.step (convertThermistor o)
      ∧ (sampled i o h m).climate.humidity = m.climate.humidity.step (convertHumidity h)
      ∧ (sampled i o h m).climate.openTime = m.climate.openTime
      ∧ (sampled i o h m).climate.stream
        = (m.climate.stream ++ [setTaken i o h m]).drop (m.climate.stream.length + 1 - 16)
      ∧ (m.climate.openTime.isSome = true → (sampled i o h m).climate.window
        = (m.climate.window ++ [setTaken i o h m]).drop (m.climate.window.length + 1 - 8))
      ∧ (m.climate.openTime = none → (sampled i o h m).climate.window = m.climate.window)
      ∧ (sampled i o h m).climate.band = m.climate.band ∧ (sampled i o h m).climate.bandFormed = m.climate.bandFormed := by
  have hwindow : (sampled i o h m).climate.window = if m.climate.openTime.isSome
      then (m.climate.window ++ [setTaken i o h m]).drop ((m.climate.window ++ [setTaken i o h m]).length - 8)
      else m.climate.window := rfl
  refine ⟨rfl, rfl, rfl, rfl, ?_, fun ho => ?_, fun ho => ?_, rfl, rfl⟩
  · have hstream : (sampled i o h m).climate.stream
        = (m.climate.stream ++ [setTaken i o h m]).drop ((m.climate.stream ++ [setTaken i o h m]).length - 16) := rfl
    rw [hstream]
    simp
  · rw [hwindow, if_pos ho]
    simp
  · rw [hwindow, if_neg (by simp [ho])]

/-! ## A sample without a change of a fault -/

theorem outdoorFallback_of_eq {s x : State} (hl : x.line.active = s.line.active) (hp : x.peers = s.peers) :
    outdoorFallback x = outdoorFallback s := by rw [outdoorFallback, outdoorFallback, hl, hp]

/-- With every fault as it was the channels and the set are all that the faults' acts see. -/
theorem takeSample_quiet {i o h : BitVec 12} {m : State}
    (hi : (m.climate.inner.step (convertThermistor i)).fault = m.climate.inner.fault)
    (ho : (m.climate.outer.step (convertThermistor o)).fault = m.climate.outer.fault)
    (hh : (m.climate.humidity.step (convertHumidity h)).fault = m.climate.humidity.fault) :
    takeSample i o h m = takeSpeedReading (evaluateOutdoor (sampled i o h m)) := by
  rw [takeSample_faulted, faulted, faultChange_kept hi, faultChange_kept ho, faultChange_kept hh]
  rfl

theorem takeSpeedReading_filter (s : State) :
    (takeSpeedReading s).filter = if s.filter.holdPlaced = true ∧ s.fan.driveOutput = 600 then
      { s.filter with speeds := (s.filter.speeds ++ [min 65535 s.fan.speed]).drop (s.filter.speeds.length + 1 - 10) }
      else s.filter := by
  unfold takeSpeedReading
  by_cases h : s.filter.holdPlaced = true ∧ s.fan.driveOutput = 600
  · rw [if_pos (by simp [h]), if_pos h]
    simp
  · rw [if_neg (by simpa using h), if_neg h]

/-- What a sample makes of the climate record but for the outdoor temperature and its band. -/
theorem takeSample_climate (i o h : BitVec 12) (m : State) :
    ∃ x : State, (takeSample i o h m).climate = (evaluateOutdoor x).climate ∧ x.climate = (faulted i o h m).climate
      ∧ x.now = m.now ∧ x.line.active = m.line.active ∧ x.peers = m.peers := by
  obtain ⟨x, hx⟩ : ∃ x, x = onHumidity (faultChange m.climate.humidity (m.climate.humidity.step (convertHumidity h)))
    (faulted i o h m) := ⟨_, rfl⟩
  refine ⟨x, ?_, by rw [hx]; simp, by rw [hx]; simp [faulted, sampled], ?_, by rw [hx]; simp [faulted, sampled]⟩
  · rw [takeSample_faulted, ← hx]
    simp
  · rw [hx]
    simp [faulted, sampled]

/-- R66: the outdoor temperature that a sample leaves, its OUTER fault clear. -/
theorem outdoorNow_eq {x m : State} (hown : x.climate.ownOutdoor = m.climate.ownOutdoor)
    (htime : x.climate.ownOutdoorTime = m.climate.ownOutdoorTime) (hlast : x.climate.outdoor = m.climate.outdoor)
    (hf : x.climate.outer.fault = false) (hn : x.now = m.now) (hl : x.line.active = m.line.active)
    (hp : x.peers = m.peers) :
    (∀ y, m.climate.ownOutdoorTime = some y → m.now ≤ y + seconds 1800 → outdoorNow x = m.climate.ownOutdoor)
    ∧ ((∀ y, m.climate.ownOutdoorTime = some y → y + seconds 1800 < m.now) →
      outdoorNow x = if outdoorFallback m = none then m.climate.outdoor else outdoorFallback m) := by
  refine ⟨fun y hy hle => ?_, fun hold => ?_⟩
  · have hany : x.climate.ownOutdoorTime.any (fun z => x.now ≤ z + seconds 1800) = true := by
      rw [htime, hy, Option.any_some, hn]
      exact decide_eq_true hle
    rw [outdoorNow, hf, if_neg (nomatch ·), if_pos hany, hown]
  · have hany : ¬x.climate.ownOutdoorTime.any (fun z => x.now ≤ z + seconds 1800) = true := by
      rw [htime, hn, Option.any_eq_true]
      rintro ⟨y, hy, hle⟩
      exact absurd (hold y hy) (not_lt.mpr (of_decide_eq_true hle))
    rw [outdoorNow, hf, if_neg (nomatch ·), if_neg hany, outdoorFallback_of_eq hl hp, hlast]
    cases outdoorFallback m <;> rfl

/-- Settles O37, channel by channel, with the table of the thermistors beside it. -/
theorem sampleIsTaken : Obligations.SampleIsTaken := by
  refine ⟨fun i o h t s hr => ⟨_, exec_eq_finish (c := .sample i o h t) (x := takeSample i o h (advance t s)) rfl hr rfl, ?_⟩,
    fun tab htab k => convertThermistor_table htab k⟩
  have hm : (advance t s).climate = s.climate ∧ (advance t s).seq = s.seq ∧ (advance t s).lane = s.lane
      ∧ (advance t s).now = timeAfter t s ∧ (advance t s).line.active = s.line.active ∧ (advance t s).peers = s.peers := by
    simp
  have hout := advance_output t s
  have hkept : held (advance t s) = held s := held_advance t s
  generalize advance t s = m at hm hout hkept
  obtain ⟨hclimate, hseq, hlane, hnow, hactive, hpeers⟩ := hm
  obtain ⟨x, hx, hxclimate, hxnow, hxactive, hxpeers⟩ := takeSample_climate i o h m
  have hfclimate : (finish m (takeSample i o h m)).climate = (evaluateOutdoor x).climate := by
    rw [← hx]
    simp
  obtain ⟨hinner, houter, hhumidity, hopen, hstream, hwindow, hclosed, hband, hformed⟩ := sampled_climate i o h m
  have hparts : (evaluateOutdoor x).climate.inner = m.climate.inner.step (convertThermistor i)
      ∧ (evaluateOutdoor x).climate.outer = m.climate.outer.step (convertThermistor o)
      ∧ (evaluateOutdoor x).climate.humidity = m.climate.humidity.step (convertHumidity h)
      ∧ (evaluateOutdoor x).climate.openTime = m.climate.openTime
      ∧ (evaluateOutdoor x).climate.stream = (sampled i o h m).climate.stream
      ∧ (evaluateOutdoor x).climate.window = (sampled i o h m).climate.window
      ∧ (evaluateOutdoor x).climate.outdoor = outdoorNow x := by
    rw [evaluateOutdoor_climate, hxclimate, faulted_climate]
    exact ⟨hinner, houter, hhumidity, hopen, rfl, rfl, rfl⟩
  obtain ⟨heinner, heouter, hehumidity, heopen, hestream, hewindow, heoutdoor⟩ := hparts
  have hxband : x.climate.band = m.climate.band ∧ x.climate.bandFormed = m.climate.bandFormed := by
    rw [hxclimate, faulted_climate]
    exact ⟨hband, hformed⟩
  have hset := setTaken_eq i o h m
  have hlast : outdoorNow x ≠ none → x.climate.outdoor = m.climate.outdoor := fun hsome => by
    have hxfault : x.climate.outer.fault = false := by
      cases hfault : x.climate.outer.fault
      · rfl
      · exact absurd (by simp [outdoorNow, hfault]) hsome
    have hf : (m.climate.outer.step (convertThermistor o)).fault = false := by
      rw [hxclimate, faulted_climate] at hxfault
      exact hxfault
    rw [hxclimate, (faulted_outdoor (i := i) (h := h) hf).2.2]
  rw [hfclimate, heinner, heouter, hehumidity, heopen, hestream, hewindow, heoutdoor, ← hclimate, ← hseq, ← hlane, ← hnow]
  rw [outdoorFallback_of_eq hactive.symm hpeers.symm]
  refine ⟨afterCode_step _ _, afterCode_step _ _, afterCode_step _ _, by simp, ?_, hclosed, rfl, fun hf => ?_, fun hf => ?_,
    fun hsame => ?_, fun T hT hne hb => ?_, ?_⟩
  · intro set htaken
    have hsets : set = setTaken i o h m := htaken.trans hset.symm
    rw [hsets]
    exact ⟨hstream, hwindow⟩
  · have hxfault : x.climate.outer.fault = true := by rw [hxclimate, faulted_climate]; exact hf
    simp [outdoorNow, hxfault]
  · have hxfault : x.climate.outer.fault = false := by rw [hxclimate, faulted_climate]; exact hf
    obtain ⟨hown, htime, hlast⟩ := faulted_outdoor (i := i) (h := h) hf
    exact outdoorNow_eq (by rw [hxclimate, hown]) (by rw [hxclimate, htime]) (by rw [hxclimate, hlast]) hxfault
      hxnow hxactive hxpeers
  · have hx' : outdoorNow x = none ∨ outdoorNow x = x.climate.outdoor := by
      by_cases hnone : outdoorNow x = none
      · exact .inl hnone
      · exact .inr ((hsame.resolve_left hnone).trans (hlast hnone).symm)
    have hstays := (evaluateOutdoor_band x).1 hx'
    rwa [hxband.1, hxband.2] at hstays
  · have hmoves := (evaluateOutdoor_band x).2 T hT (by rw [hlast (by rw [hT]; exact nofun)]; exact hne)
    rw [hxband.1, hxband.2] at hmoves
    obtain ⟨hb', hf'⟩ := hmoves
    refine ⟨?_, hf'⟩
    rw [hb']
    cases m.climate.bandFormed
    · exact bandDirect_eq m.climate.band T
    · exact bandMove_eq hb T
  · have hframe : (finish m (takeSample i o h m)).clock = m.clock ∧ (finish m (takeSample i o h m)).peers = m.peers
        ∧ (finish m (takeSample i o h m)).house = m.house ∧ (finish m (takeSample i o h m)).cfg = m.cfg
        ∧ (finish m (takeSample i o h m)).loader = m.loader ∧ (finish m (takeSample i o h m)).strapsRead = m.strapsRead
        ∧ (finish m (takeSample i o h m)).stationIndex = m.stationIndex ∧ (finish m (takeSample i o h m)).lane = m.lane
        ∧ (finish m (takeSample i o h m)).roomClass = m.roomClass
        ∧ (finish m (takeSample i o h m)).pending = m.pending := by
      rw [takeSample_faulted]
      simp [faulted, sampled]
    obtain ⟨hfclock, hfpeers, hfhouse, hfcfg, hfloader, hfstraps, hfstation, hflane, hfroom, hfpending⟩ := hframe
    refine ⟨hfclock.trans (congrArg Held.clock hkept), hfpeers.trans (congrArg Held.peers hkept),
      hfhouse.trans (congrArg Held.house hkept), hfcfg.trans (congrArg Held.cfg hkept),
      hfloader.trans (congrArg Held.loader hkept), hfstraps.trans (congrArg Held.strapsRead hkept),
      hfstation.trans (congrArg Held.stationIndex hkept), hflane, hfroom.trans (congrArg Held.roomClass hkept),
      hfpending.trans (congrArg Held.pending hkept), fun hi ho hh => ?_⟩
    have hstack : m.demand.stack = s.demand.stack := congrArg Held.stack hkept
    have hactiveLevel : m.demand.active = s.demand.active := congrArg Held.active hkept
    have hfan : m.fan.steady = s.fan.steady := congrArg Held.fan hkept
    have hline : m.line.steady = s.line.steady := congrArg Held.line hkept
    have hctl : m.ctl.steady = s.ctl.steady := congrArg Held.ctl hkept
    have hfilter : m.filter = s.filter := congrArg Held.filter hkept
    have hfrost : m.frost = s.frost := congrArg Held.frost hkept
    have hhumid : m.humid = s.humid := congrArg Held.humid hkept
    have hspeed : m.fan.speed = s.fan.speed := 
      show m.fan.steady.speed = s.fan.steady.speed from congrArg FanRec.speed hfan
    have hshown : (finish m (takeSpeedReading (evaluateOutdoor (sampled i o h m)))).demand.active = m.demand.active
        ∧ (takeSpeedReading (evaluateOutdoor (sampled i o h m))).fan = m.fan := by
      refine ⟨(congrArg Held.active (held_finish m (takeSpeedReading (evaluateOutdoor (sampled i o h m))))).trans ?_,
        by simp [sampled]⟩
      show (takeSpeedReading (evaluateOutdoor (sampled i o h m))).demand.active = m.demand.active
      simp [sampled]
    have hring : (evaluateOutdoor (sampled i o h m)).climate.ring = m.climate.ring := by
      rw [evaluateOutdoor_climate]
      rfl
    have hqfilter : (finish m (takeSample i o h m)).filter = (takeSpeedReading (evaluateOutdoor (sampled i o h m))).filter := by
      rw [takeSample_quiet hi ho hh]
      simp
    have hqring : (evaluateOutdoor x).climate.ring = (evaluateOutdoor (sampled i o h m)).climate.ring := by
      rw [← hx, takeSample_quiet hi ho hh]
      simp
    rw [hqfilter, hqring, hring, takeSpeedReading_filter, takeSample_quiet hi ho hh, hshown.1, finish_fan_steady, hshown.2,
      ← hstack, ← hactiveLevel, ← hfan, ← hline,
      ← hctl, ← hfilter, hnow, ← hout, ← hspeed, ← hfrost, ← hhumid]
    simp [sampled]

end Sys2Proof.Proofs

/-! What the frost guard's tests and the motions of the sequencer leave of the filter monitor, the humidity monitor and the
override stack: a probe in progress may be abandoned, and nothing else moves. -/

namespace Sys2Proof.Proofs

open Sys2Proof.Machine

/-- An act that may abandon a probe and leaves the humidity monitor and the stack. -/
structure Sheds (s y : State) : Prop where
  now : y.now = s.now
  humid : y.humid = s.humid
  stack : y.demand.stack = s.demand.stack
  probe : (y.filter = s.filter ∧ y.fan.probeHold = s.fan.probeHold)
    ∨ (y.filter = abandoned s.now s.filter ∧ y.fan.probeHold = (s.fan.probeHold && !s.filter.probing))

theorem Sheds.same {s y : State} (hn : y.now = s.now) (hh : y.humid = s.humid) (hd : y.demand = s.demand)
    (hf : y.filter = s.filter) (hp : y.fan.probeHold = s.fan.probeHold) : Sheds s y :=
  ⟨hn, hh, congrArg DemandRec.stack hd, .inl ⟨hf, hp⟩⟩

theorem Sheds.refl (s : State) : Sheds s s := .same rfl rfl rfl rfl rfl

theorem Sheds.trans {a b c : State} (hab : Sheds a b) (hbc : Sheds b c) : Sheds a c := by
  refine ⟨hbc.now.trans hab.now, hbc.humid.trans hab.humid, hbc.stack.trans hab.stack, ?_⟩
  rcases hbc.probe with ⟨hf, hp⟩ | ⟨hf, hp⟩
  · rw [hf, hp]
    exact hab.probe
  · refine .inr ?_
    rw [hf, hp, hab.now]
    rcases hab.probe with ⟨hf', hp'⟩ | ⟨hf', hp'⟩
    · rw [hf', hp']
      exact ⟨rfl, rfl⟩
    · rw [hf', hp']
      simp

theorem Sheds.probing {s y : State} (h : Sheds s y) (hs : s.filter.probing = false) : y.filter.probing = false := by
  rcases h.probe with ⟨hf, -⟩ | ⟨hf, -⟩
  · rw [hf, hs]
  · rw [hf, abandoned_probing]

/-- No probe is in progress afterward: it has been abandoned. -/
theorem Sheds.abandoned {s y : State} (h : Sheds s y) (hy : y.filter.probing = false) :
    y.filter = abandoned s.now s.filter ∧ y.fan.probeHold = (s.fan.probeHold && !s.filter.probing) := by
  rcases h.probe with ⟨hf, hp⟩ | h'
  · rw [hf] at hy ⊢
    rw [hp, abandoned_idle hy, hy]
    simp
  · exact h'

/-- Without a probe in progress the filter monitor stays as it is. -/
theorem Sheds.idle {s y : State} (h : Sheds s y) (hs : s.filter.probing = false) :
    y.filter = s.filter ∧ y.fan.probeHold = s.fan.probeHold := by
  rcases h.probe with h' | ⟨hf, hp⟩
  · exact h'
  · rw [hf, hp, abandoned_idle hs, hs]
    simp

theorem Sheds.counts {s y : State} (h : Sheds s y) :
    y.filter.runSeconds = s.filter.runSeconds ∧ y.filter.countdown = s.filter.countdown := by
  have habandoned : (Proofs.abandoned s.now s.filter).runSeconds = s.filter.runSeconds
      ∧ (Proofs.abandoned s.now s.filter).countdown = s.filter.countdown := by
    unfold Proofs.abandoned
    split <;> exact ⟨rfl, rfl⟩
  rcases h.probe with ⟨hf, -⟩ | ⟨hf, -⟩
  · rw [hf]
    exact ⟨rfl, rfl⟩
  · rw [hf]
    exact habandoned

/-- A held result that abandons a probe under a condition. -/
theorem sheds_of_filter {s y : State} {c : Bool} (hn : y.now = s.now) (hh : y.humid = s.humid)
    (hd : y.demand.stack = s.demand.stack) (hf : y.filter = if c then abandoned s.now s.filter else s.filter)
    (hp : y.fan.probeHold = (s.fan.probeHold && !(c && s.filter.probing))) : Sheds s y := by
  refine ⟨hn, hh, hd, ?_⟩
  cases c
  · exact .inl ⟨hf, by rw [hp]; simp⟩
  · exact .inr ⟨hf, by rw [hp]; simp⟩

theorem probeHold_of_held {s : State} {x : Held} (h : held s = x) : s.fan.probeHold = x.fan.probeHold :=
  congrArg (fun y : Held => y.fan.probeHold) h

/-! ## The motions -/

theorem sheds_changeSeq {q : SeqRec} {s : State} (hrest : q.state ≠ .rest) (hstop : q.state ≠ .stopped)
    (hold : s.seq.state ≠ .rest) : Sheds s (changeSeq q s) := by
  have h := held_changeSeq_running hrest hstop hold
  exact sheds_of_filter (by simp) (congrArg Held.humid h) (congrArg Held.stack h) (congrArg Held.filter h)
    (probeHold_of_held h)

theorem sheds_beginReversing (g : Target) {s : State} (hold : s.seq.state ≠ .rest) : Sheds s (beginReversing g s) := by
  have h := held_beginReversing g s
  rw [if_neg hold] at h
  refine sheds_of_filter (c := decide (g = .defrost ∨ g = .through)) (by simp) (congrArg Held.humid h) (congrArg Held.stack h)
    ?_ (probeHold_of_held h)
  have hfilter : (beginReversing g s).filter = _ := congrArg Held.filter h
  rw [hfilter]
  simp

theorem sheds_enterDirect {st : SeqState} {s : State} (hrest : st ≠ .rest) (hstop : st ≠ .stopped)
    (hold : s.seq.state ≠ .rest) : Sheds s (enterDirect st s) :=
  sheds_changeSeq (q := { s.seq with state := st }) hrest hstop hold

theorem sheds_retarget (g : Target) {s : State} (hstate : s.seq.state = .reversing) : Sheds s (retarget g s) := by
  cases ht : s.seq.target
  case none =>
    rw [retarget, ht]
    exact .refl s
  case some t =>
    have h := held_retarget (g := g) hstate ht
    refine sheds_of_filter (c := decide (g ≠ t ∧ (g = .defrost ∨ g = .through))) (by simp) (congrArg Held.humid h)
      (congrArg Held.stack h) ?_ (probeHold_of_held h)
    have hfilter : (retarget g s).filter = _ := congrArg Held.filter h
    rw [hfilter]
    simp

/-! ## The frost guard -/

theorem sheds_setStage (st : FrostStage) (s : State) : Sheds s (setStage st s) := by
  have h := held_setStage st s
  refine sheds_of_filter (c := leavesClear s.frost st) (by simp) (congrArg Held.humid h) (congrArg Held.stack h)
    (congrArg Held.filter h) (probeHold_of_held h)

theorem setStage_probing {st : FrostStage} {s : State} (hs : s.frost.stage = .clear) (hst : st ≠ .clear) :
    (setStage st s).filter.probing = false := by
  unfold setStage
  dsimp only
  rw [if_pos ⟨hs, hst⟩]
  exact abandonProbe_probing _

theorem sheds_withdraw (st : FrostStage) (s : State) : Sheds s (withdraw st s) :=
  Sheds.trans (b := clearContention (queueNotice .withdraw false s)) (.same rfl rfl rfl rfl rfl) (sheds_setStage st _)

theorem sheds_takeDefrostOrder (s : State) : Sheds s (takeDefrostOrder s) := by
  unfold takeDefrostOrder
  split
  case h_1 h => exact sheds_enterDirect (by decide) (by decide) (by simp [h])
  case h_2 h => exact sheds_beginReversing _ (by simp [h])
  case h_3 h =>
    split
    · exact sheds_enterDirect (by decide) (by decide) (by simp [h])
    · exact sheds_beginReversing _ (by simp [h])
  case h_4 h => exact sheds_retarget _ h
  case h_5 => exact .same rfl rfl rfl rfl rfl
  case h_6 => exact .refl s

theorem sheds_ordering (s : State) : Sheds s (ordering s) :=
  (sheds_setStage .defrosting s).trans (.same rfl rfl rfl rfl rfl)

theorem sheds_orderDefrost (s : State) : Sheds s (orderDefrost s) := by
  cases h : s.seq.state.refusesDefrost
  · rw [orderDefrost_eq h]
    exact (sheds_ordering s).trans (sheds_takeDefrostOrder _)
  · rw [orderDefrost_refused h]
    exact sheds_withdraw _ s

theorem sheds_forcedTest (s : State) : Sheds s (forcedTest s) := by
  cases h : forcedHolds s
  · rw [forcedTest_idle h]
    exact .refl s
  · rw [forcedTest_forced h]
    exact Sheds.trans (b := forced s) (.same rfl rfl rfl rfl rfl) (sheds_orderDefrost _)

theorem sheds_moveStage (st : FrostStage) (s : State) : Sheds s (moveStage st s) := by
  unfold moveStage
  split
  · exact .refl s
  · exact (sheds_setStage st s).trans (sheds_forcedTest _)

/-- The state in which the station is about to contend. -/
def entering (s : State) : State :=
  { queueNotice .enter false s with
    frost := { (queueNotice .enter false s).frost with
      contentionStart := some s.now, entryAccount := none, windowEnd := none } }

theorem contend_eq (s : State) : contend s = moveStage .contending (entering s) := rfl

theorem sheds_wantTest (s : State) : Sheds s (wantTest s) := by
  unfold wantTest
  split
  · split
    · exact sheds_orderDefrost s
    · split
      · rw [contend_eq]
        exact Sheds.trans (b := entering s) (.same rfl rfl rfl rfl rfl) (sheds_moveStage _ _)
      · exact sheds_moveStage _ s
  · exact .refl s

theorem sheds_frostTakesRecord (r : HalfRecord) (s : State) : Sheds s (frostTakesRecord r s) := by
  unfold frostTakesRecord
  split
  case isFalse => exact .refl s
  case isTrue =>
    unfold frostRecord
    dsimp only
    split
    · have hset : Sheds s (setAccount (accountByRecord s.frost.account r) s) := .same rfl rfl rfl rfl rfl
      exact ((hset.trans (sheds_moveStage _ _)).trans (sheds_forcedTest _)).trans (sheds_wantTest _)
    · split
      · exact (sheds_forcedTest s).trans (sheds_wantTest _)
      · exact .refl s

theorem sheds_frostAtBoundary (s : State) : Sheds s (frostAtBoundary s) := by
  unfold frostAtBoundary
  dsimp only
  split
  · exact (sheds_forcedTest s).trans (sheds_wantTest _)
  · exact sheds_forcedTest s

/-! ## The sequencer at a boundary -/

theorem sheds_cycleAtBoundary (d : Dir) {s : State} (hold : s.seq.state ≠ .rest) : Sheds s (cycleAtBoundary d s) := by
  unfold cycleAtBoundary
  split
  · split
    · exact sheds_enterDirect (by decide) (by decide) hold
    · exact sheds_beginReversing _ hold
  · split
    · exact .refl s
    · exact sheds_beginReversing _ hold

theorem dir_state_runs (d : Dir) : d.state ≠ .rest ∧ d.state ≠ .stopped := by cases d <;> decide

theorem sheds_sequencerAtBoundary {s : State} (hold : s.seq.state ≠ .rest) : Sheds s (sequencerAtBoundary s) := by
  unfold sequencerAtBoundary
  split
  case h_1 => exact sheds_cycleAtBoundary _ hold
  case h_2 => exact sheds_cycleAtBoundary _ hold
  case h_3 h =>
    split
    · exact sheds_retarget _ h
    · exact sheds_retarget _ h
    · split
      · exact sheds_retarget _ h
      · exact .refl s
    · exact .refl s
  case h_4 =>
    split
    · split
      · exact sheds_enterDirect (dir_state_runs _).1 (dir_state_runs _).2 hold
      · exact sheds_beginReversing _ hold
    · exact .refl s
  case h_5 h => exact absurd h hold
  case h_6 => exact .refl s

end Sys2Proof.Proofs

/-! The frost guard at a boundary: the record's account, the stage by it, the forced test and the want test. -/

namespace Sys2Proof.Proofs

open Sys2Proof.Machine

/-! ## The account of a record -/

/-- The account after the record `m`, which R74 takes outside DEFROSTING and BLIND. -/
def accountTaken (m : HalfRecord) (x : State) : Nat :=
  if m.valid ∧ m.direction = some .extract ∧ x.frost.stage ≠ .defrosting ∧ x.frost.stage ≠ .blind then
    accountByRecord x.frost.account m
  else x.frost.account

/-- The state in which the account has become `a` and the stage has followed it (R75). -/
def movedBy (a : Nat) (x : State) : State :=
  if a = x.frost.account then x else moveStage (stageAfterChange x.frost.stage a) (setAccount a x)

/-- A record of EXTRACT that is valid and changes the account, or finds LIMITING, is followed by the tests. -/
def testedBy (m : HalfRecord) (x : State) : Prop :=
  (m.valid = true ∧ m.direction = some .extract ∧ x.frost.stage ≠ .defrosting ∧ x.frost.stage ≠ .blind)
    ∧ (accountTaken m x ≠ x.frost.account ∨ x.frost.stage = .limiting)

theorem frostTakesRecord_tested {m : HalfRecord} {x : State} (h : testedBy m x) :
    frostTakesRecord m x = wantTest (forcedTest (movedBy (accountTaken m x) x)) := by
  obtain ⟨htaken, htests⟩ := h
  have ha : accountTaken m x = accountByRecord x.frost.account m := if_pos htaken
  unfold frostTakesRecord frostRecord movedBy
  rw [if_pos htaken, ha]
  rw [ha] at htests
  dsimp only
  by_cases he : accountByRecord x.frost.account m = x.frost.account
  · rw [if_neg (not_not.mpr he), if_pos (htests.resolve_left (not_not.mpr he)), if_pos he]
  · rw [if_pos he, if_neg he]
    rfl

theorem frostTakesRecord_untested {m : HalfRecord} {x : State} (h : ¬testedBy m x) :
    frostTakesRecord m x = x ∧ accountTaken m x = x.frost.account := by
  unfold testedBy at h
  by_cases htaken : m.valid = true ∧ m.direction = some .extract ∧ x.frost.stage ≠ .defrosting ∧ x.frost.stage ≠ .blind
  · have ha : accountTaken m x = accountByRecord x.frost.account m := if_pos htaken
    have he : accountTaken m x = x.frost.account ∧ x.frost.stage ≠ .limiting := by
      constructor
      · by_contra hne
        exact h ⟨htaken, .inl hne⟩
      · intro hl
        exact h ⟨htaken, .inr hl⟩
    refine ⟨?_, he.1⟩
    unfold frostTakesRecord frostRecord
    rw [if_pos htaken]
    dsimp only
    rw [if_neg (not_not.mpr (ha.symm.trans he.1)), if_neg he.2]
  · exact ⟨if_neg htaken, if_neg htaken⟩

theorem accountTaken_frostTakesRecord (m : HalfRecord) (x : State) :
    (frostTakesRecord m x).frost.account = accountTaken m x := by
  by_cases h : testedBy m x
  · rw [frostTakesRecord_tested h]
    unfold movedBy
    split
    case isTrue he => simp [← he]
    case isFalse => simp
  · rw [(frostTakesRecord_untested h).1, (frostTakesRecord_untested h).2]

/-! ## A stage that moves without a forced defrost -/

/-- The frost stage after the account has become `a`. -/
def stageTaken (a : Nat) (f : FrostRec) : FrostStage := if a = f.account then f.stage else stageAfterChange f.stage a

theorem moveStage_unforced {st : FrostStage} {y : State} (h : forcedHolds (setStage st y) = false) :
    (moveStage st y).frost = { y.frost with stage := st } ∧ (moveStage st y).seq = y.seq
      ∧ (moveStage st y).line.steady = y.line.steady := by
  unfold moveStage
  split
  case isTrue he => exact ⟨by rw [← he], rfl, rfl⟩
  case isFalse =>
    rw [forcedTest_idle h]
    exact ⟨setStage_frost st y, by simp, congrArg Held.line (held_setStage st y)⟩

/-- No forced defrost can be ordered: the account is too small, or the sequencer refuses one. -/
def Calm (a : Nat) (x : State) : Prop := a < 3200 ∨ x.seq.state.refusesDefrost = true

theorem forcedHolds_calm {y : State} (h : Calm y.frost.account y) : forcedHolds y = false := by
  rw [← Bool.not_eq_true, forcedHolds_iff]
  rintro ⟨hhigh, -, -, htakes⟩
  rcases h with h | h
  · omega
  · rw [h] at htakes
    cases htakes

theorem movedBy_calm {a : Nat} {x : State} (h : Calm a x) :
    (movedBy a x).frost = { x.frost with account := a, stage := stageTaken a x.frost }
      ∧ (movedBy a x).seq = x.seq ∧ (movedBy a x).line.steady = x.line.steady
      ∧ forcedTest (movedBy a x) = movedBy a x := by
  have hidle {y : State} (ha : y.frost.account = a) (hq : y.seq = x.seq) : forcedHolds y = false := by
    refine forcedHolds_calm ?_
    rw [Calm, ha, hq]
    exact h
  unfold movedBy stageTaken
  by_cases he : a = x.frost.account
  · rw [if_pos he, if_pos he]
    exact ⟨by rw [he], rfl, rfl, forcedTest_idle (hidle he.symm rfl)⟩
  · rw [if_neg he, if_neg he]
    have hm := moveStage_unforced (st := stageAfterChange x.frost.stage a) (y := setAccount a x)
      (hidle (by simp) (by simp))
    obtain ⟨hfrost, hseq, hline⟩ := hm
    refine ⟨hfrost, hseq.trans (by simp), hline, forcedTest_idle (hidle ?_ (hseq.trans (by simp)))⟩
    rw [hfrost]
    rfl

theorem movedBy_keeps (a : Nat) (x : State) :
    (movedBy a x).now = x.now ∧ (movedBy a x).peers = x.peers ∧ (movedBy a x).cfg = x.cfg
      ∧ (movedBy a x).line.active = x.line.active := by
  unfold movedBy
  split <;> simp

/-! ## States that agree for the frost guard -/

/-- Two states that agree in all that the frost guard's tests read and move but for the probe. -/
structure Agrees (y z : State) : Prop where
  frost : z.frost = y.frost
  seq : z.seq = y.seq
  line : z.line = y.line
  now : z.now = y.now
  peers : z.peers = y.peers
  cfg : z.cfg = y.cfg

theorem Agrees.refl (y : State) : Agrees y y := ⟨rfl, rfl, rfl, rfl, rfl, rfl⟩

theorem agrees_humidTakesRecord (m : HalfRecord) (y : State) : Agrees y (humidTakesRecord m y) :=
  ⟨by simp, by simp, by simp, by simp, by simp, by simp⟩

theorem Agrees.forced {y z : State} (h : Agrees y z) : forcedHolds z = forcedHolds y := by
  rw [forcedHolds, forcedHolds, h.frost, h.seq]

theorem Agrees.wants {y z : State} (h : Agrees y z) : wantHolds z = wantHolds y := by
  rw [wantHolds, wantHolds, h.frost, h.seq]

theorem Agrees.places {y z : State} (h : Agrees y z) : placesInUse z = placesInUse y :=
  placesInUse_of_eq (by rw [h.line]) h.peers

/-- The record, the humidity monitor and the boundary's own tests, one after another. -/
def frostTurn (m : HalfRecord) (x : State) : State := frostAtBoundary (humidTakesRecord m (frostTakesRecord m x))

theorem frostAtBoundary_idle {z : State} (hf : forcedHolds z = false) (hw : z.frost.stage ≠ .deferred ∨ wantHolds z = false) :
    frostAtBoundary z = z := by
  unfold frostAtBoundary
  dsimp only
  rw [forcedTest_idle hf]
  split
  case isTrue hd => exact wantTest_idle (hw.resolve_left (not_not.mpr hd))
  case isFalse => rfl

/-! ## No test holds -/

/-- Neither test holds: account and stage are all that the record moves. -/
theorem frostTurn_quiet {m : HalfRecord} {x : State} (hcalm : Calm (accountTaken m x) x)
    (hw : wantHolds (movedBy (accountTaken m x) x) = false ∨ (¬testedBy m x ∧ x.frost.stage ≠ .deferred)) :
    (frostTurn m x).frost = { x.frost with account := accountTaken m x, stage := stageTaken (accountTaken m x) x.frost } := by
  obtain ⟨hfrost, hseq, -, hforced⟩ := movedBy_calm hcalm
  have hunforced : forcedHolds (movedBy (accountTaken m x) x) = false := by
    refine forcedHolds_calm ?_
    rw [Calm, hfrost, hseq]
    exact hcalm
  have htaken : frostTakesRecord m x = movedBy (accountTaken m x) x := by
    by_cases ht : testedBy m x
    · rw [frostTakesRecord_tested ht, hforced, wantTest_idle (hw.resolve_right fun h => h.1 ht)]
    · obtain ⟨hsame, ha⟩ := frostTakesRecord_untested ht
      rw [hsame, ha, movedBy, if_pos rfl]
  have hstage : (movedBy (accountTaken m x) x).frost.stage ≠ .deferred ∨ wantHolds (movedBy (accountTaken m x) x) = false := by
    rcases hw with h | ⟨hu, hd⟩
    · exact .inr h
    · refine .inl ?_
      rw [(frostTakesRecord_untested hu).2, movedBy, if_pos rfl]
      exact hd
  have hagrees := agrees_humidTakesRecord m (movedBy (accountTaken m x) x)
  unfold frostTurn
  rw [htaken, frostAtBoundary_idle (hagrees.forced.trans hunforced) (by rw [hagrees.frost, hagrees.wants]; exact hstage),
    hagrees.frost, hfrost]

/-! ## The want test holds -/

/-- What a want test that holds comes to, from the state `y`. -/
structure Wanted (y w : State) : Prop where
  active : w.line.active = y.line.active
  places : placesInUse w = placesInUse y
  cfg : w.cfg = y.cfg
  account : w.frost.account = y.frost.account
  contends : y.line.active = false → placesInUse y < y.cfg.allowance → w.frost = { y.frost with
      stage := .contending, notice := some ⟨.enter, false⟩, contentionStart := some y.now, entryAccount := none
      windowEnd := none } ∧ w.line.defrostSlot.pending = true
  waits : y.line.active = false → y.cfg.allowance ≤ placesInUse y → w.frost = { y.frost with stage := .deferred }
  defrosts : y.line.active = true → w.frost.stage = .defrosting ∧ w.frost.defrostStart = some y.now
      ∧ w.frost.notice = y.frost.notice ∧ w.line.defrostSlot = y.line.defrostSlot

theorem wantTest_wanted {y : State} (hwant : wantHolds y = true) (hlow : y.frost.account < 3200) : Wanted y (wantTest y) := by
  refine ⟨by simp, placesInUse_of_eq (by simp) (by simp), by simp, by simp, fun hline hfree => ?_, fun hline hfull => ?_,
    fun hline => ?_⟩
  · have hheld := held_wantTest_clear hwant hlow hline
    rw [if_pos hfree] at hheld
    have hslot : (wantTest y).line.defrostSlot.pending = true := congrArg (fun h : Held => h.line.defrostSlot.pending) hheld
    exact ⟨congrArg Held.frost hheld, hslot⟩
  · have hheld := held_wantTest_clear hwant hlow hline
    rw [if_neg (Nat.not_lt.mpr hfull)] at hheld
    exact congrArg Held.frost hheld
  · have htakes : y.seq.state.refusesDefrost = false := takesDefrost_of_wants ((wantHolds_iff y).mp hwant).2.2.1
    rw [wantTest_line hwant hline, orderDefrost_frost htakes]
    have hslot := steady_field (f := LineRec.defrostSlot) (fun _ => rfl) (orderDefrost_line htakes).1
    exact ⟨rfl, rfl, rfl, hslot⟩

/-- The boundary's own tests leave what a want test has come to. -/
theorem Wanted.atBoundary {y w z : State} (h : Wanted y w) (hz : Agrees w z) (hlow : y.frost.account < 3200) :
    Wanted y (frostAtBoundary z) := by
  have hidle : forcedTest z = z := forcedTest_idle (forcedHolds_low (by rw [hz.frost, h.account]; exact hlow))
  have hline : z.line.active = y.line.active := by rw [hz.line, h.active]
  have hplaces : placesInUse z = placesInUse y := hz.places.trans h.places
  have hcfg : z.cfg = y.cfg := hz.cfg.trans h.cfg
  have hstays (hd : z.frost.stage ≠ .deferred) : frostAtBoundary z = z := by
    unfold frostAtBoundary
    dsimp only
    rw [hidle, if_neg hd]
  refine ⟨by simp [hline], ?_, by simp [hcfg], by simp [hz.frost, h.account], fun hclear hfree => ?_, fun hclear hfull => ?_,
    fun hactive => ?_⟩
  · rw [← hplaces]
    exact placesInUse_of_eq (by simp) (by simp)
  · obtain ⟨hfrost, hslot⟩ := h.contends hclear hfree
    rw [hstays (by rw [hz.frost, hfrost]; exact nofun), hz.frost, hz.line]
    exact ⟨hfrost, hslot⟩
  · have hfrost : z.frost = { y.frost with stage := .deferred } := hz.frost.trans (h.waits hclear hfull)
    have hform : frostAtBoundary z = wantTest z := by
      unfold frostAtBoundary
      dsimp only
      rw [hidle, if_pos (by rw [hfrost])]
    rw [hform]
    cases hw : wantHolds z
    · rw [wantTest_idle hw, hfrost]
    · have hheld := held_wantTest_clear hw (by rw [hfrost]; exact hlow) (hline.trans hclear)
      rw [if_neg (by rw [hplaces, hcfg]; omega)] at hheld
      have hdeferred : (wantTest z).frost = { z.frost with stage := .deferred } := congrArg Held.frost hheld
      rw [hdeferred, hfrost]
  · obtain ⟨hstage, hstart, hnotice, hslot⟩ := h.defrosts hactive
    rw [hstays (by rw [hz.frost, hstage]; exact nofun), hz.frost, hz.line]
    exact ⟨hstage, hstart, hnotice, hslot⟩

/-- The want test holds and is made, by the record or by the boundary. -/
theorem frostTurn_wants {m : HalfRecord} {x : State} (hlow : accountTaken m x < 3200)
    (hw : wantHolds (movedBy (accountTaken m x) x) = true) (ht : testedBy m x ∨ x.frost.stage = .deferred) :
    Wanted (movedBy (accountTaken m x) x) (frostTurn m x) := by
  obtain ⟨hfrost, hseq, -, hforced⟩ := movedBy_calm (x := x) (.inl hlow)
  have hmlow : (movedBy (accountTaken m x) x).frost.account < 3200 := by rw [hfrost]; exact hlow
  by_cases htested : testedBy m x
  · unfold frostTurn
    rw [frostTakesRecord_tested htested, hforced]
    exact (wantTest_wanted hw hmlow).atBoundary (agrees_humidTakesRecord m _) hmlow
  · obtain ⟨hsame, ha⟩ := frostTakesRecord_untested htested
    have hx : movedBy (accountTaken m x) x = x := by rw [ha, movedBy, if_pos rfl]
    rw [hx] at hw hmlow ⊢
    have hz := agrees_humidTakesRecord m x
    have hform : frostTurn m x = wantTest (humidTakesRecord m x) := by
      unfold frostTurn frostAtBoundary
      dsimp only
      rw [hsame, forcedTest_idle (forcedHolds_low (by rw [hz.frost]; exact hmlow)), if_pos]
      rw [hz.frost]
      exact ht.resolve_left htested
    have hwanted := wantTest_wanted (y := humidTakesRecord m x) (hz.wants.trans hw) (by rw [hz.frost]; exact hmlow)
    rw [hform]
    obtain ⟨h1, h2, h3, h4, h5, h6, h7⟩ := hwanted
    rw [hz.line, hz.places, hz.cfg, hz.frost, hz.now] at *
    exact ⟨h1, h2, h3, h4, h5, h6, h7⟩

/-! ## The forced test holds -/

/-- What a forced defrost leaves of the frost guard, from the state `x`. -/
structure ForcedNow (x w : State) : Prop where
  stage : w.frost.stage = .defrosting
  notice : w.frost.notice = some ⟨.enter, true⟩
  start : w.frost.defrostStart = some x.now
  contention : w.frost.contentionStart = none ∧ w.frost.entryAccount = none ∧ w.frost.windowEnd = none
  lockout : w.frost.lockoutEnd = none
  slot : w.line.defrostSlot.pending = true

theorem forcedTest_now {y : State} (h : forcedHolds y = true) : ForcedNow y (forcedTest y) := by
  obtain ⟨hfrost, hslot, -⟩ := forcedTest_frost h
  refine ⟨?_, ?_, ?_, ⟨?_, ?_, ?_⟩, ?_, hslot⟩ <;> rw [hfrost]

theorem ForcedNow.agrees {x w z : State} (h : ForcedNow x w) (hz : Agrees w z) : ForcedNow x z := by
  obtain ⟨h1, h2, h3, h4, h5, h6⟩ := h
  rw [← hz.frost] at h1 h2 h3 h4 h5
  rw [← hz.line] at h6
  exact ⟨h1, h2, h3, h4, h5, h6⟩

theorem forcedTest_defrosting {w : State} (h : w.frost.stage = .defrosting) : forcedTest w = w :=
  forcedTest_idle (by simp [forcedHolds, h])

theorem wantTest_defrosting {w : State} (h : w.frost.stage = .defrosting) : wantTest w = w :=
  wantTest_idle (by simp [wantHolds, h])

theorem frostAtBoundary_defrosting {w : State} (h : w.frost.stage = .defrosting) : frostAtBoundary w = w :=
  frostAtBoundary_idle (by simp [forcedHolds, h]) (.inl (by simp [h]))

theorem stageAfterChange_orders {st : FrostStage} (h : st ≠ .defrosting) (hb : st ≠ .blind) (a : Nat) :
    stageAfterChange st a ≠ .defrosting ∧ stageAfterChange st a ≠ .blind := by
  refine ⟨stageAfterChange_ne h a, ?_⟩
  cases st <;> simp only [stageAfterChange, stageByAccount] <;> (try split) <;> (try split) <;> simp_all

/-- A move to an account of 3200 or more, followed by the forced test, orders a defrost. -/
theorem movedBy_forced {a : Nat} {x : State} (hhigh : 3200 ≤ a) (htakes : x.seq.state.refusesDefrost = false)
    (hd : x.frost.stage ≠ .defrosting) (hb : x.frost.stage ≠ .blind) : ForcedNow x (forcedTest (movedBy a x)) := by
  have hholds {y : State} (ha : y.frost.account = a) (hq : y.seq = x.seq) (h1 : y.frost.stage ≠ .defrosting)
      (h2 : y.frost.stage ≠ .blind) : forcedHolds y = true := by
    rw [forcedHolds_iff, ha, hq]
    exact ⟨hhigh, h1, h2, htakes⟩
  unfold movedBy
  by_cases he : a = x.frost.account
  · rw [if_pos he]
    exact forcedTest_now (hholds he.symm rfl hd hb)
  · rw [if_neg he, moveStage]
    obtain ⟨hd', hb'⟩ := stageAfterChange_orders hd hb a
    split
    · have hnow := forcedTest_now (hholds (y := setAccount a x) (by simp) (by simp) hd hb)
      exact ⟨hnow.stage, hnow.notice, hnow.start, hnow.contention, hnow.lockout, hnow.slot⟩
    · have hnow := forcedTest_now (hholds (y := setStage (stageAfterChange x.frost.stage a) (setAccount a x)) (by simp)
        (by simp) (by rw [setStage_frost]; exact hd') (by rw [setStage_frost]; exact hb'))
      rw [forcedTest_defrosting hnow.stage]
      refine ⟨hnow.stage, hnow.notice, ?_, hnow.contention, hnow.lockout, hnow.slot⟩
      rw [hnow.start]
      simp

theorem frostTurn_forced {m : HalfRecord} {x : State} (hhigh : 3200 ≤ accountTaken m x)
    (htakes : x.seq.state.refusesDefrost = false) (hd : x.frost.stage ≠ .defrosting) (hb : x.frost.stage ≠ .blind) :
    ForcedNow x (frostTurn m x) := by
  have hmoved := movedBy_forced hhigh htakes hd hb
  unfold frostTurn
  by_cases ht : testedBy m x
  · rw [frostTakesRecord_tested ht, wantTest_defrosting hmoved.stage]
    have hz := agrees_humidTakesRecord m (forcedTest (movedBy (accountTaken m x) x))
    rw [frostAtBoundary_defrosting (by rw [hz.frost]; exact hmoved.stage)]
    exact hmoved.agrees hz
  · obtain ⟨hsame, ha⟩ := frostTakesRecord_untested ht
    have hz := agrees_humidTakesRecord m x
    have hholds : forcedHolds (humidTakesRecord m x) = true := by
      rw [hz.forced, forcedHolds_iff]
      exact ⟨ha ▸ hhigh, hd, hb, htakes⟩
    have hnow := forcedTest_now hholds
    have hform : frostAtBoundary (humidTakesRecord m x) = forcedTest (humidTakesRecord m x) := by
      unfold frostAtBoundary
      dsimp only
      rw [if_neg (by rw [hnow.stage]; exact nofun)]
    rw [hsame, hform]
    refine ⟨hnow.stage, hnow.notice, ?_, hnow.contention, hnow.lockout, hnow.slot⟩
    rw [hnow.start, hz.now]

/-! ## A probe when the stage leaves CLEAR -/

/-- Where `y` has left the stage CLEAR of `s`, no probe is in progress. -/
def Leaves (s y : State) : Prop := s.frost.stage = .clear → y.frost.stage ≠ .clear → y.filter.probing = false

theorem Leaves.refl (s : State) : Leaves s s := fun h hn => absurd h hn

theorem Leaves.trans {a b c : State} (hab : Leaves a b) (hbc : Leaves b c) (h : Sheds b c) : Leaves a c := by
  intro ha hc
  by_cases hb : b.frost.stage = .clear
  · exact hbc hb hc
  · exact h.probing (hab ha hb)

theorem leaves_setStage (st : FrostStage) (s : State) : Leaves s (setStage st s) := by
  intro hs hst
  rw [setStage_stage] at hst
  exact setStage_probing hs hst

theorem leaves_orderDefrost (s : State) : Leaves s (orderDefrost s) := by
  cases h : s.seq.state.refusesDefrost
  · rw [orderDefrost_eq h]
    exact fun hs _ => (sheds_takeDefrostOrder _).probing (setStage_probing hs (by decide))
  · rw [orderDefrost_refused h]
    exact leaves_setStage (stageByAccount s.frost.account) (clearContention (queueNotice .withdraw false s))

theorem leaves_forcedTest (s : State) : Leaves s (forcedTest s) := by
  cases h : forcedHolds s
  · rw [forcedTest_idle h]
    exact .refl s
  · rw [forcedTest_forced h]
    exact leaves_orderDefrost (forced s)

theorem leaves_moveStage (st : FrostStage) (s : State) : Leaves s (moveStage st s) := by
  unfold moveStage
  split
  · exact .refl s
  · exact (leaves_setStage st s).trans (leaves_forcedTest _) (sheds_forcedTest _)

theorem leaves_wantTest (s : State) : Leaves s (wantTest s) := by
  intro hs
  rw [wantTest_idle (by simp [wantHolds, hs])]
  exact fun h => absurd hs h

theorem leaves_frostTakesRecord (m : HalfRecord) (x : State) : Leaves x (frostTakesRecord m x) := by
  by_cases ht : testedBy m x
  · rw [frostTakesRecord_tested ht]
    have hmoved : Leaves x (movedBy (accountTaken m x) x) := by
      unfold movedBy
      split
      · exact .refl x
      · exact fun hs => leaves_moveStage _ (setAccount (accountTaken m x) x) hs
    exact (hmoved.trans (leaves_forcedTest _) (sheds_forcedTest _)).trans (leaves_wantTest _) (sheds_wantTest _)
  · rw [(frostTakesRecord_untested ht).1]
    exact .refl x

theorem leaves_frostAtBoundary (s : State) : Leaves s (frostAtBoundary s) := by
  unfold frostAtBoundary
  dsimp only
  split
  · exact (leaves_forcedTest s).trans (leaves_wantTest _) (sheds_wantTest _)
  · exact leaves_forcedTest s

/-! ## A probe when the humidity monitor takes a record -/

/-- What an act leaves of a probe: as it was, or abandoned at the instant of `s`. -/
def ProbeKept (s y : State) : Prop :=
  (y.filter = s.filter ∧ y.fan.probeHold = s.fan.probeHold)
    ∨ (y.filter = abandoned s.now s.filter ∧ y.fan.probeHold = (s.fan.probeHold && !s.filter.probing))

theorem ProbeKept.probing {s y : State} (h : ProbeKept s y) (hs : s.filter.probing = false) : y.filter.probing = false := by
  rcases h with ⟨hf, -⟩ | ⟨hf, -⟩
  · rw [hf, hs]
  · rw [hf, abandoned_probing]

theorem ProbeKept.trans {a b c : State} (hn : b.now = a.now) (hab : ProbeKept a b) (hbc : ProbeKept b c) : ProbeKept a c := by
  rcases hbc with ⟨hf, hp⟩ | ⟨hf, hp⟩
  · rw [ProbeKept, hf, hp]
    exact hab
  · refine .inr ?_
    rw [hf, hp, hn]
    rcases hab with ⟨hf', hp'⟩ | ⟨hf', hp'⟩ <;> rw [hf', hp'] <;> simp

/-- No probe is in progress afterward: it has been abandoned. -/
theorem ProbeKept.abandoned {s y : State} (h : ProbeKept s y) (hy : y.filter.probing = false) :
    y.filter = abandoned s.now s.filter ∧ y.fan.probeHold = (s.fan.probeHold && !s.filter.probing) := by
  rcases h with ⟨hf, hp⟩ | h'
  · rw [hf] at hy ⊢
    rw [hp, abandoned_idle hy, hy]
    simp
  · exact h'

theorem probeKept_startBoost (s : State) : ProbeKept s (startBoost s) := by
  have h := held_startBoost s
  exact .inr ⟨congrArg Held.filter h, probeHold_of_held h⟩

theorem probeKept_endBoost (next : HumidState) (s : State) : ProbeKept s (endBoost next s) := by
  have h := held_endBoost next s
  exact .inl ⟨congrArg Held.filter h, probeHold_of_held h⟩

theorem probeKept_humidTakesRecord (m : HalfRecord) (s : State) : ProbeKept s (humidTakesRecord m s) := by
  have hsame (h : HumidRec) : ProbeKept s { s with humid := h } := .inl ⟨rfl, rfl⟩
  have hrefl : ProbeKept s s := .inl ⟨rfl, rfl⟩
  unfold humidTakesRecord
  split
  case isFalse => exact hrefl
  case isTrue =>
    split
    case h_2 => exact hrefl
    case h_1 mo rh _ _ =>
      unfold humidRecord
      split
      · exact hrefl
      · exact hsame _
      · split
        · unfold watchRecord
          split
          · exact probeKept_startBoost s
          · exact hsame _
        · exact hsame _
      · unfold boostRecord
        dsimp only
        split
        · exact probeKept_endBoost _ s
        · exact hsame _
      · unfold rearmRecord
        split
        · split
          · exact hsame _
          · exact hrefl
        · split
          · exact hsame _
          · exact hrefl

/-- The tests at a boundary leave a probe or abandon it, and abandon it where the stage leaves CLEAR. -/
theorem frostTurn_probe (m : HalfRecord) (x : State) :
    ProbeKept x (frostTurn m x) ∧ Leaves x (frostTurn m x) := by
  have htaken := sheds_frostTakesRecord m x
  have hhumid := probeKept_humidTakesRecord m (frostTakesRecord m x)
  have hnow : (humidTakesRecord m (frostTakesRecord m x)).now = x.now := by simp
  have hlast := sheds_frostAtBoundary (humidTakesRecord m (frostTakesRecord m x))
  refine ⟨(ProbeKept.trans htaken.now htaken.probe hhumid).trans hnow hlast.probe, fun hs hst => ?_⟩
  by_cases hstage : (frostTakesRecord m x).frost.stage = .clear
  · refine leaves_frostAtBoundary _ ?_ hst
    simpa using hstage
  · exact hlast.probing (hhumid.probing (leaves_frostTakesRecord m x hs hstage))

end Sys2Proof.Proofs

/-! The half boundary, part by part: what each leaves for the next. -/

namespace Sys2Proof.Proofs

open Sys2Proof.Machine

/-! ## The settling count -/

theorem retarget_settling (g : Target) (s : State) :
    (retarget g s).seq.settling = s.seq.settling ∧ (retarget g s).seq.rejoin = s.seq.rejoin := by
  cases ht : s.seq.target
  case none =>
    rw [retarget, ht]
    exact ⟨rfl, rfl⟩
  case some t =>
    rw [retarget_seq ht]
    split <;> exact ⟨rfl, rfl⟩

theorem takeDefrostOrder_settling (s : State) : (takeDefrostOrder s).seq.settling = s.seq.settling := by
  unfold takeDefrostOrder
  split
  · rw [enterDirect_seq]
  · rw [beginReversing_seq]
  · split
    · rw [enterDirect_seq]
    · rw [beginReversing_seq]
  · exact (retarget_settling _ s).1
  · rfl
  · rfl

theorem orderDefrost_settling (s : State) : (orderDefrost s).seq.settling = s.seq.settling := by
  cases h : s.seq.state.refusesDefrost
  · rw [orderDefrost_eq h, takeDefrostOrder_settling, ordering_seq]
  · rw [orderDefrost_refused h]
    simp

theorem forcedTest_settling (s : State) : (forcedTest s).seq.settling = s.seq.settling := by
  cases h : forcedHolds s
  · rw [forcedTest_idle h]
  · rw [forcedTest_forced h, orderDefrost_settling]
    rfl

theorem moveStage_settling (st : FrostStage) (s : State) : (moveStage st s).seq.settling = s.seq.settling := by
  unfold moveStage
  split
  · rfl
  · rw [forcedTest_settling]
    simp

theorem wantTest_settling (s : State) : (wantTest s).seq.settling = s.seq.settling := by
  unfold wantTest
  split
  · split
    · exact orderDefrost_settling s
    · split
      · rw [contend_eq, moveStage_settling]
        rfl
      · exact moveStage_settling _ s
  · rfl

theorem frostTurn_settling (m : HalfRecord) (x : State) : (frostTurn m x).seq.settling = x.seq.settling := by
  have htaken : (frostTakesRecord m x).seq.settling = x.seq.settling := by
    by_cases ht : testedBy m x
    · rw [frostTakesRecord_tested ht, wantTest_settling, forcedTest_settling, movedBy]
      split
      · rfl
      · rw [moveStage_settling]
        simp
    · rw [(frostTakesRecord_untested ht).1]
  have hboundary (z : State) : (frostAtBoundary z).seq.settling = z.seq.settling := by
    unfold frostAtBoundary
    dsimp only
    split
    · rw [wantTest_settling, forcedTest_settling]
    · exact forcedTest_settling z
  rw [frostTurn, hboundary, ← htaken]
  simp

/-! ## The sequencer -/

theorem cycleAtBoundary_frost {d : Dir} {s : State} (h : s.frost.stage ≠ .defrosting) :
    (cycleAtBoundary d s).frost = s.frost ∧ (cycleAtBoundary d s).line.steady = s.line.steady := by
  unfold cycleAtBoundary
  split
  · split
    · exact changeSeq_frost_same (by simp) h
    · exact beginReversing_frost_same h
  · split
    · exact ⟨rfl, rfl⟩
    · exact beginReversing_frost_same h

/-- Outside DEFROSTING the sequencer's turn at a boundary leaves the frost guard and its notices. -/
theorem sequencerAtBoundary_frost {s : State} (h : s.frost.stage ≠ .defrosting) :
    (sequencerAtBoundary s).frost = s.frost ∧ (sequencerAtBoundary s).line.steady = s.line.steady := by
  unfold sequencerAtBoundary
  split
  case h_1 => exact cycleAtBoundary_frost h
  case h_2 => exact cycleAtBoundary_frost h
  case h_3 hr =>
    split
    · exact retarget_frost_same hr
    · exact retarget_frost_same hr
    · split
      · exact retarget_frost_same hr
      · exact ⟨rfl, rfl⟩
    · exact ⟨rfl, rfl⟩
  case h_4 =>
    split
    · split
      · exact changeSeq_frost_same (dir_state_runs _).2 h
      · exact beginReversing_frost_same h
    · exact ⟨rfl, rfl⟩
  case h_5 =>
    unfold rejoinAtBoundary
    split
    · exact ⟨rfl, rfl⟩
    · have hb (g : Target) := beginReversing_frost_same (g := g)
        (s := { s with seq := { s.seq with rejoin := none, restStart := none } }) h
      dsimp only
      split
      · exact ⟨by simpa using (hb _).1, by simpa using (hb _).2⟩
      · exact hb _
  case h_6 => exact ⟨rfl, rfl⟩

/-- Whether the sequencer turns with the half-cycle: in a motion of the cycle, or at rest with a rejoin. -/
def turnsNow (s : State) : Bool :=
  match s.seq.state with
  | .supply | .extract | .through | .reversing => true
  | .rest => s.seq.rejoin.isSome
  | _ => false

theorem cycleAtBoundary_state {d : Dir} {s : State} (hs : s.seq.state = d.state) :
    (cycleAtBoundary d s).seq.state = .through ∨ (cycleAtBoundary d s).seq.state = .reversing
      ∨ (cycleAtBoundary d s).seq.state = d.state := by
  unfold cycleAtBoundary
  split
  · split
    · rw [enterDirect_seq]
      exact .inl rfl
    · rw [beginReversing_seq]
      exact .inr (.inl rfl)
  · split
    · exact .inr (.inr hs)
    · rw [beginReversing_seq]
      exact .inr (.inl rfl)

/-- After its turn the sequencer is in a motion of the cycle; without one its record is as it was. -/
theorem sequencerAtBoundary_state (s : State) :
    (turnsNow s = true → (sequencerAtBoundary s).seq.state ∈ [SeqState.supply, .extract, .through, .reversing])
      ∧ (turnsNow s = false → (sequencerAtBoundary s).seq = s.seq) := by
  unfold turnsNow sequencerAtBoundary
  cases hst : s.seq.state
  case supply =>
    refine ⟨fun _ => ?_, (nomatch ·)⟩
    rcases cycleAtBoundary_state (d := .supply) hst with h | h | h <;> simp [h, Dir.state]
  case extract =>
    refine ⟨fun _ => ?_, (nomatch ·)⟩
    rcases cycleAtBoundary_state (d := .extract) hst with h | h | h <;> simp [h, Dir.state]
  case through =>
    refine ⟨fun _ => ?_, (nomatch ·)⟩
    dsimp only
    split
    · split
      · rw [enterDirect_seq]
        cases laneDirectionNow s <;> simp [Dir.state]
      · rw [beginReversing_seq]
        simp
    · simp [hst]
  case reversing =>
    refine ⟨fun _ => ?_, (nomatch ·)⟩
    have hkept (g : Target) : (retarget g s).seq.state = .reversing := by
      cases ht : s.seq.target
      case none =>
        rw [retarget, ht]
        exact hst
      case some t =>
        rw [retarget_seq ht]
        split <;> exact hst
    dsimp only
    split
    · simp [hkept]
    · simp [hkept]
    · split <;> simp [hkept, hst]
    · simp [hst]
  case rest =>
    dsimp only
    unfold rejoinAtBoundary
    cases hr : s.seq.rejoin
    · exact ⟨(nomatch ·), fun _ => rfl⟩
    · refine ⟨fun _ => ?_, (nomatch ·)⟩
      dsimp only
      split
      · simp [beginReversing_seq]
      · simp [beginReversing_seq]
  all_goals exact ⟨(nomatch ·), fun _ => rfl⟩

theorem sequencerAtBoundary_settling (s : State) : (sequencerAtBoundary s).seq.settling = s.seq.settling := by
  have hcycle (d : Dir) : (cycleAtBoundary d s).seq.settling = s.seq.settling := by
    unfold cycleAtBoundary
    split
    · split
      · rw [enterDirect_seq]
      · rw [beginReversing_seq]
    · split
      · rfl
      · rw [beginReversing_seq]
  unfold sequencerAtBoundary
  split
  · exact hcycle _
  · exact hcycle _
  · split
    · exact (retarget_settling _ s).1
    · exact (retarget_settling _ s).1
    · split
      · exact (retarget_settling _ s).1
      · rfl
    · rfl
  · split
    · split
      · rw [enterDirect_seq]
      · rw [beginReversing_seq]
    · rfl
  · unfold rejoinAtBoundary
    split
    · rfl
    · dsimp only
      split
      · simp [beginReversing_seq]
      · rw [beginReversing_seq]
  · rfl

theorem startTestAtBoundary_same (before : SeqState) (y : State) :
    (startTestAtBoundary before y).frost = y.frost ∧ (startTestAtBoundary before y).seq = y.seq
      ∧ (startTestAtBoundary before y).line = y.line ∧ (startTestAtBoundary before y).fan = y.fan
      ∧ (startTestAtBoundary before y).humid = y.humid ∧ (startTestAtBoundary before y).demand = y.demand := by
  unfold startTestAtBoundary
  (repeat' split) <;> exact ⟨rfl, rfl, rfl, rfl, rfl, rfl⟩

/-! ## The state that the boundary's record finds -/

/-- The clock and the sequencer have turned. -/
def turned (len : Nat) (e : Time) (s : State) : State := sequencerBoundary (advanceClock len e s)

/-- The record has been closed, and the outdoor value and the filter monitor have taken it. -/
def recorded (len : Nat) (e : Time) (s : State) : State :=
  filterTakesRecord (formRecord s) (outdoorTakesRecord (formRecord s) (closeRecord (formRecord s) (turned len e s)))

/-- The record that frost guard and humidity monitor take. -/
def handed (len : Nat) (e : Time) (s : State) : HalfRecord := recordToMonitors (formRecord s) (turned len e s)

theorem boundaryWith_eq (len : Nat) (e : Time) (s : State) :
    boundaryWith len e s = closeBoundary (frostTurn (handed len e s) (recorded len e s)) := rfl

theorem held_closeBoundary (y : State) : held (closeBoundary y) = { held y with active := y.demand.requested } := by
  have hrequest (z : State) : held (requestStatus true z) = held z := rfl
  rw [closeBoundary, hrequest, held_recompute]
  rfl

theorem closeBoundary_parts (y : State) :
    (closeBoundary y).frost = y.frost ∧ (closeBoundary y).seq = y.seq ∧ (closeBoundary y).clock = y.clock
      ∧ (closeBoundary y).climate = y.climate ∧ (closeBoundary y).humid = y.humid
      ∧ (closeBoundary y).demand.stack = y.demand.stack ∧ (closeBoundary y).filter = y.filter
      ∧ (closeBoundary y).loader = y.loader ∧ (closeBoundary y).fan.probeHold = y.fan.probeHold
      ∧ (closeBoundary y).fan.steady = y.fan.steady
      ∧ (closeBoundary y).line.defrostSlot = y.line.defrostSlot := by
  have h := held_closeBoundary y
  have hslot : (closeBoundary y).line.defrostSlot = y.line.defrostSlot :=
    congrArg (fun x : Held => x.line.defrostSlot) h
  exact ⟨congrArg Held.frost h, congrArg Held.seq h, congrArg Held.clock h, congrArg Held.climate h, congrArg Held.humid h,
    congrArg Held.stack h, congrArg Held.filter h, congrArg Held.loader h, probeHold_of_held h, congrArg Held.fan h, hslot⟩

/-- What turning and recording leave for the frost guard. -/
theorem recorded_keeps (len : Nat) (e : Time) (s : State) :
    (recorded len e s).now = s.now ∧ (recorded len e s).peers = s.peers ∧ (recorded len e s).cfg = s.cfg
      ∧ (recorded len e s).line.active = s.line.active ∧ (recorded len e s).seq = (turned len e s).seq
      ∧ (recorded len e s).frost = (turned len e s).frost ∧ (recorded len e s).line = (turned len e s).line
      ∧ (recorded len e s).humid = (turned len e s).humid ∧ (recorded len e s).demand = (turned len e s).demand := by
  unfold recorded turned closeRecord openCollection
  simp [advanceClock]

theorem turned_frost {len : Nat} {e : Time} {s : State} (h : s.frost.stage ≠ .defrosting) :
    (turned len e s).frost = s.frost ∧ (turned len e s).line.steady = s.line.steady := by
  unfold turned sequencerBoundary
  obtain ⟨hfrost, -, hline, -⟩ := startTestAtBoundary_same (advanceClock len e s).seq.state
    (sequencerAtBoundary (settleAtBoundary (advanceClock len e s)))
  rw [hfrost, hline]
  exact sequencerAtBoundary_frost (s := settleAtBoundary (advanceClock len e s)) h

theorem turned_seq (len : Nat) (e : Time) (s : State) :
    (turned len e s).seq = (sequencerAtBoundary (settleAtBoundary (advanceClock len e s))).seq :=
  (startTestAtBoundary_same _ _).2.1

theorem turned_settling (len : Nat) (e : Time) (s : State) : (turned len e s).seq.settling
    = if s.seq.state = .rest ∧ s.seq.rejoin = some .deep then 2 else s.seq.settling - 1 := by
  rw [turned_seq, sequencerAtBoundary_settling]
  rfl

theorem boundaryWith_settling (len : Nat) (e : Time) (s : State) : (boundaryWith len e s).seq.settling
    = if s.seq.state = .rest ∧ s.seq.rejoin = some .deep then 2 else s.seq.settling - 1 := by
  obtain ⟨-, -, -, -, hseq, -⟩ := recorded_keeps len e s
  rw [boundaryWith_eq, (closeBoundary_parts _).2.1, frostTurn_settling, hseq, turned_settling]

/-- The sequencer of the turned state: in a motion of the cycle, or as it was but for the settling count. -/
theorem turned_state (len : Nat) (e : Time) (s : State) :
    (turnsNow s = true → (turned len e s).seq.state ∈ [SeqState.supply, .extract, .through, .reversing])
      ∧ (turnsNow s = false → (turned len e s).seq = (settleAtBoundary s).seq) := by
  rw [turned_seq]
  exact sequencerAtBoundary_state (settleAtBoundary (advanceClock len e s))

end Sys2Proof.Proofs

/-! The frost stage with the account: the end of a blind defrost, the end of a lockout and the half boundary (O42). -/

namespace Sys2Proof.Proofs

open Sys2Proof.Machine

/-! ## A probe at the turn of the sequencer -/

theorem probeKept_sequencerAtBoundary (s : State) : ProbeKept s (sequencerAtBoundary s) := by
  by_cases hr : s.seq.state = .rest
  · unfold sequencerAtBoundary
    rw [hr]
    dsimp only
    unfold rejoinAtBoundary
    split
    · exact .inl ⟨rfl, rfl⟩
    · have hb (g : Target) : ProbeKept s (beginReversing g { s with seq := { s.seq with rejoin := none, restStart := none } }) := by
        have h := held_beginReversing g { s with seq := { s.seq with rejoin := none, restStart := none } }
        have hfilter := congrArg Held.filter h
        have hhold := probeHold_of_held h
        by_cases hg : g = .defrost ∨ g = .through
        · exact .inr ⟨hfilter.trans (if_pos hg), hhold.trans (by simp [hg])⟩
        · exact .inl ⟨hfilter.trans (if_neg hg), hhold.trans (by simp [hg])⟩
      dsimp only
      split
      · have hexit (y : State) : (humidOnDeepExit y).filter = y.filter ∧ (humidOnDeepExit y).fan = y.fan := by
          unfold humidOnDeepExit
          split <;> exact ⟨rfl, rfl⟩
        rw [ProbeKept, (hexit _).1, (hexit _).2]
        exact hb _
      · exact hb _
  · exact (sheds_sequencerAtBoundary hr).probe

/-- A test at a boundary begins only out of WAITING, and not at the instant of an abandonment. -/
theorem startTestAtBoundary_filter (before : SeqState) (y : State) :
    (startTestAtBoundary before y).filter = y.filter
      ∨ (y.filter.probe = .waiting ∧ (∀ n, y.filter.abandonTime = some n → n < y.now)
        ∧ ∃ d, (startTestAtBoundary before y).filter = { y.filter with
            probe := .firstHalf, expected := some d, halfStart := some y.now, abandonTime := none, holdPlaced := false
            speeds := [] }) := by
  unfold startTestAtBoundary
  split
  case isFalse => exact .inl rfl
  case isTrue =>
    split
    case h_2 => exact .inl rfl
    case h_1 d _ =>
      split
      case isFalse => exact .inl rfl
      case isTrue h =>
        refine .inr ?_
        unfold startTest at h
        simp only [Bool.and_eq_true, decide_eq_true_eq, Bool.not_eq_true'] at h
        obtain ⟨⟨⟨⟨⟨⟨hprobe, hab⟩, -⟩, -⟩, -⟩, -⟩, -⟩ := h
        refine ⟨hprobe, fun n hn => ?_, d, rfl⟩
        rw [hn, Option.any_some] at hab
        exact not_le.mp (of_decide_eq_false hab)

/-- The filter monitor takes no record of a half that began at the record's close. -/
theorem filterTakesRecord_idle {r : HalfRecord} {y : State}
    (h : y.filter.probing = false ∨ y.filter.halfStart = some r.close) : filterTakesRecord r y = y := by
  unfold filterTakesRecord
  rw [if_neg]
  intro hc
  simp only [Bool.and_eq_true] at hc
  obtain ⟨hp, hh⟩ := hc
  rcases h with h | h
  · rw [h] at hp
    cases hp
  · rw [h] at hh
    simp at hh

/-- R129: a first half is accepted in its expected direction, or the probe is abandoned. -/
theorem judgeHalf_first {r : HalfRecord} {y : State} (h : y.filter.probe = .firstHalf) :
    (∃ d, (y.filter.expected = some d ∧ halfAccepted r y.filter = true) ∧ judgeHalf r y = acceptFirst r d y)
      ∨ judgeHalf r y = dropProbe y := by
  unfold judgeHalf
  rw [h]
  cases he : y.filter.expected
  · exact .inr rfl
  case some d =>
    cases ha : halfAccepted r y.filter
    · exact .inr rfl
    · exact .inl ⟨d, ⟨rfl, rfl⟩, rfl⟩

theorem outdoorTakesRecord_probe (r : HalfRecord) (y : State) :
    (outdoorTakesRecord r (closeRecord r y)).filter = y.filter ∧ (outdoorTakesRecord r (closeRecord r y)).fan = y.fan
      ∧ (outdoorTakesRecord r (closeRecord r y)).now = y.now ∧ (outdoorTakesRecord r (closeRecord r y)).loader = y.loader := by
  simp [closeRecord, openCollection]

/-- The filter record and the probe hold of the turned state. -/
theorem turned_probe (len : Nat) (e : Time) (s : State) :
    ((turned len e s).filter.probe ≠ .waiting ∧ (turned len e s).filter = s.filter ∧ (turned len e s).fan.probeHold = s.fan.probeHold)
      ∨ (s.filter.probing = true ∧ (turned len e s).filter = abandoned s.now s.filter ∧ (turned len e s).fan.probeHold = false)
      ∨ (s.filter.probe = .waiting ∧ (turned len e s).fan.probeHold = s.fan.probeHold
        ∧ ((turned len e s).filter = s.filter ∨ ∃ d, (turned len e s).filter = { s.filter with
            probe := .firstHalf, expected := some d, halfStart := some s.now, abandonTime := none, holdPlaced := false
            speeds := [] })) := by
  have hseq := probeKept_sequencerAtBoundary (settleAtBoundary (advanceClock len e s))
  have hnow : (sequencerAtBoundary (settleAtBoundary (advanceClock len e s))).now = s.now := by
    simp [settleAtBoundary, advanceClock]
  have hfan : (turned len e s).fan = (sequencerAtBoundary (settleAtBoundary (advanceClock len e s))).fan :=
    (startTestAtBoundary_same _ _).2.2.2.1
  have hstart := startTestAtBoundary_filter (settleAtBoundary (advanceClock len e s)).seq.state
    (sequencerAtBoundary (settleAtBoundary (advanceClock len e s)))
  have hform : (turned len e s).filter = (startTestAtBoundary (settleAtBoundary (advanceClock len e s)).seq.state
    (sequencerAtBoundary (settleAtBoundary (advanceClock len e s)))).filter := rfl
  rw [← hform, hnow] at hstart
  rw [hfan]
  have hkept : ProbeKept s (sequencerAtBoundary (settleAtBoundary (advanceClock len e s))) := hseq
  generalize sequencerAtBoundary (settleAtBoundary (advanceClock len e s)) = y at hstart hkept
  by_cases hp : s.filter.probing = true ∧ y.filter = abandoned s.now s.filter ∧ y.fan.probeHold = false
  · obtain ⟨hprobing, hy, hhold⟩ := hp
    have habandon : (abandoned s.now s.filter).abandonTime = some s.now := by simp [abandoned, hprobing]
    refine .inr (.inl ⟨hprobing, ?_, hhold⟩)
    rcases hstart with h | ⟨-, hafter, -⟩
    · rw [h, hy]
    · exact absurd (hafter s.now (by rw [hy, habandon])) (lt_irrefl _)
  · have hsame : y.filter = s.filter ∧ y.fan.probeHold = s.fan.probeHold := by
      rcases hkept with h | ⟨hf, hh⟩
      · exact h
      · cases hprobing : s.filter.probing
        · rw [hf, hh, abandoned_idle hprobing, hprobing]
          simp
        · exact absurd ⟨hprobing, hf, by rw [hh, hprobing]; simp⟩ hp
    obtain ⟨hy, hhold⟩ := hsame
    rw [hy] at hstart
    by_cases hw : s.filter.probe = .waiting
    · refine .inr (.inr ⟨hw, hhold, ?_⟩)
      rcases hstart with h | ⟨-, -, h⟩
      · exact .inl h
      · exact .inr h
    · rcases hstart with h | ⟨h, -⟩
      · exact .inl ⟨by rw [h]; exact hw, h, hhold⟩
      · exact absurd h hw

/-! ## A probe when the frost stage leaves CLEAR -/

/-- What the abandonment at the boundary comes to for a probe in its first half and for one that was waiting. -/
theorem recorded_abandoned (len : Nat) (e : Time) (s : State) :
    (s.filter.probe = .firstHalf → (abandoned s.now (recorded len e s).filter).probe = .waiting
        ∧ (abandoned s.now (recorded len e s).filter).abandonTime = some s.now
        ∧ ((recorded len e s).fan.probeHold && !(recorded len e s).filter.probing) = false)
      ∧ (s.filter.probe = .waiting → (abandoned s.now (recorded len e s).filter).probe = .waiting) := by
  obtain ⟨hfilter, hfan, hnow, -⟩ := outdoorTakesRecord_probe (formRecord s) (turned len e s)
  have hclose : (formRecord s).close = s.now := rfl
  have hnow' : (outdoorTakesRecord (formRecord s) (closeRecord (formRecord s) (turned len e s))).now = s.now := by
    rw [hnow]
    simp [turned, advanceClock]
  have hprobe := turned_probe len e s
  unfold recorded
  generalize outdoorTakesRecord (formRecord s) (closeRecord (formRecord s) (turned len e s)) = y at hfilter hfan hnow'
  rw [← hfilter, ← hfan] at hprobe
  refine ⟨fun hfirst => ?_, fun hw => ?_⟩
  · have hprobing : s.filter.probing = true := by simp [FilterRec.probing, hfirst]
    rcases hprobe with ⟨-, hf, hh⟩ | ⟨-, hf, hh⟩ | ⟨h, -⟩
    · unfold filterTakesRecord
      split
      · have hlift : (liftHold y).filter = { y.filter with holdPlaced := false } ∧ (liftHold y).fan.probeHold = false
            ∧ (liftHold y).now = y.now := ⟨rfl, rfl, rfl⟩
        have hdrop : (dropProbe (liftHold y)).filter.probe = .waiting ∧ (dropProbe (liftHold y)).filter.abandonTime = some s.now
            ∧ (dropProbe (liftHold y)).fan.probeHold = false := by
          rw [← hnow']
          exact ⟨rfl, rfl, rfl⟩
        have hdropped : (dropProbe (liftHold y)).filter.probing = false := by simp [FilterRec.probing, hdrop.1]
        have hlprobe : (liftHold y).filter.probe = .firstHalf := by rw [hlift.1, hf]; exact hfirst
        rcases judgeHalf_first (r := formRecord s) hlprobe with ⟨d, -, hj⟩ | hj
        · have haccept : (acceptFirst (formRecord s) d (liftHold y)).filter.probing = true := rfl
          have hhold : (acceptFirst (formRecord s) d (liftHold y)).fan.probeHold = false := rfl
          rw [hj, haccept, hhold]
          simp [abandoned, haccept]
        · rw [hj, abandoned_idle hdropped, hdrop.1, hdrop.2.1, hdrop.2.2]
          exact ⟨rfl, rfl, rfl⟩
      · rw [hf, hh, hprobing]
        simp [abandoned, hprobing]
    · have hidle : y.filter.probing = false := by rw [hf, abandoned_probing]
      rw [filterTakesRecord_idle (.inl hidle), hf, hh, abandoned_twice]
      simp [abandoned, hprobing]
    · rw [h] at hfirst
      cases hfirst
  · have hprobing : s.filter.probing = false := by simp [FilterRec.probing, hw]
    rcases hprobe with ⟨hne, hf, -⟩ | ⟨h, -⟩ | ⟨-, -, hf⟩
    · rw [hf] at hne
      exact absurd hw hne
    · rw [hprobing] at h
      cases h
    · rcases hf with hf | ⟨d, hf⟩
      · rw [filterTakesRecord_idle (.inl (by rw [hf]; exact hprobing)), hf, abandoned_idle hprobing]
        exact hw
      · rw [filterTakesRecord_idle (.inr (by rw [hf, hclose])), hf]
        rfl

end Sys2Proof.Proofs

/-! The commands of O42: the end of a blind defrost, the end of a lockout, and the half boundary. -/

namespace Sys2Proof.Proofs

open Sys2Proof.Machine

/-! ## The blind defrost -/

/-- The state in which the end of a blind defrost finds the sequencer. -/
def blindOver (s : State) : State := clearBlindDefrost (queueNotice .leave false (setAccount 0 s))

theorem effectOf_blindDefrostLimit {t b : Time} {s : State} (hstage : s.frost.stage = .blind)
    (hblind : s.frost.blindDefrost = true) (hb : s.frost.defrostStart = some b) (hle : b + seconds 900 ≤ timeAfter t s) :
    effectOf (.blindDefrostLimit t) (advance t s) = takeDefrostEnd (blindOver (advance t s)) := by
  have hfrost : (advance t s).frost = s.frost := by simp
  have hover : fifteenMinutes (advance t s) = true := by
    unfold fifteenMinutes
    rw [hfrost, hb]
    exact reached_later hle
  have hdue : blindDefrostOver (advance t s) = true := by
    rw [blindDefrostOver, hover, hfrost, hstage, hblind]
    rfl
  exact if_pos hdue

theorem blindOver_seq {s : State} (hstage : s.frost.stage = .blind) :
    (takeDefrostEnd (blindOver s)).frost = { s.frost with
        account := 0, notice := some ⟨.leave, false⟩, blindDefrost := false, defrostStart := none }
      ∧ (takeDefrostEnd (blindOver s)).line.defrostSlot.pending = true
      ∧ (s.seq.state = .defrost → s.seq.restHeld = false → laneDirectionNow s = .extract →
        (takeDefrostEnd (blindOver s)).seq = { s.seq with state := .extract })
      ∧ (s.seq.state = .paused → (takeDefrostEnd (blindOver s)).seq = { s.seq with defrostResume := false }) := by
  have hst : (blindOver s).frost.stage ≠ .defrosting := by
    have h : (blindOver s).frost.stage = s.frost.stage := rfl
    rw [h, hstage]
    exact nofun
  obtain ⟨hfrost, hline⟩ := takeDefrostEnd_frost_same hst
  refine ⟨hfrost, ?_, fun hs hh hd => ?_, fun hs => ?_⟩
  · rw [steady_field (f := fun l => l.defrostSlot.pending) (fun _ => rfl) hline]
    rfl
  · rw [takeDefrostEnd_extract (s := blindOver s) hs hh hd, enterDirect_seq]
    rfl
  · rw [takeDefrostEnd_paused (s := blindOver s) hs]
    rfl

/-! ## The lockout -/

theorem effectOf_lockoutEnd {t e : Time} {s : State} (hstage : s.frost.stage = .lockout) (he : s.frost.lockoutEnd = some e)
    (hle : e ≤ timeAfter t s) : effectOf (.lockoutEnd t) (advance t s) = endLockout (advance t s) := by
  have hfrost : (advance t s).frost = s.frost := by simp
  have hdue : lockoutOver (advance t s) = true := by
    have hnow : (advance t s).now = timeAfter t s := rfl
    rw [lockoutOver, hfrost, hstage, he, hnow]
    simpa [reached] using hle
  exact if_pos hdue

/-- The lockout has ended and the stage by account is taken. -/
def lockoutLeft (s : State) : State :=
  moveStage (stageByAccount s.frost.account) { s with frost := { s.frost with lockoutEnd := none } }

theorem held_lockoutLeft {s : State} (hstage : s.frost.stage = .lockout) (hlow : s.frost.account < 3200) :
    held (lockoutLeft s) = { held s with
      frost := { s.frost with stage := stageByAccount s.frost.account, lockoutEnd := none } } := by
  have hne : s.frost.stage ≠ .clear := by rw [hstage]; exact nofun
  exact (held_moveStage_low (s := { s with frost := { s.frost with lockoutEnd := none } }) hlow hne).trans rfl

theorem endLockout_eq (s : State) : endLockout s
    = if (lockoutLeft s).frost.stage = .limiting then wantTest (lockoutLeft s) else lockoutLeft s := rfl

theorem endLockout_low {s : State} (hstage : s.frost.stage = .lockout) (hlow : s.frost.account < 1600) :
    held (endLockout s) = { held s with
      frost := { s.frost with stage := stageByAccount s.frost.account, lockoutEnd := none } } := by
  have hheld := held_lockoutLeft hstage (by omega)
  have hfrost : (lockoutLeft s).frost = _ := congrArg Held.frost hheld
  have hidle : wantTest (lockoutLeft s) = lockoutLeft s := by
    refine wantTest_idle ?_
    rw [← Bool.not_eq_true, wantHolds_iff, hfrost]
    rintro ⟨h, -⟩
    exact absurd h (Nat.not_le.mpr hlow)
  rw [endLockout_eq, hidle, ite_self, hheld]

theorem endLockout_wants {s : State} (hstage : s.frost.stage = .lockout) (hhigh : 1600 ≤ s.frost.account)
    (hlow : s.frost.account < 3200) (hskips : s.seq.state.skipsWant = false) (hsettled : s.seq.settling = 0)
    (hline : s.line.active = false) :
    (placesInUse s < s.cfg.allowance → held (endLockout s) = { held s with
        frost := { s.frost with
          stage := .contending, lockoutEnd := none, notice := some ⟨.enter, false⟩, contentionStart := some s.now
          entryAccount := none, windowEnd := none }
        line := s.line.steady.request .defrost })
      ∧ (s.cfg.allowance ≤ placesInUse s → held (endLockout s) = { held s with
        frost := { s.frost with stage := .deferred, lockoutEnd := none } }) := by
  have hheld := held_lockoutLeft hstage hlow
  have hby : stageByAccount s.frost.account = .limiting := if_pos (by omega)
  rw [hby] at hheld
  have hkept : (lockoutLeft s).line.active = s.line.active ∧ (lockoutLeft s).cfg = s.cfg ∧ (lockoutLeft s).now = s.now
      ∧ (lockoutLeft s).peers = s.peers := by simp [lockoutLeft]
  rw [endLockout_eq]
  generalize lockoutLeft s = y at hheld hkept
  obtain ⟨hactive, hcfg, hnow, hpeers⟩ := hkept
  have hfrost : y.frost = _ := congrArg Held.frost hheld
  have hseq : y.seq = s.seq := congrArg Held.seq hheld
  have hsteady : y.line.steady = s.line.steady := congrArg Held.line hheld
  have hwant : wantHolds y = true := by
    rw [wantHolds_iff, hfrost, hseq]
    exact ⟨hhigh, .inl rfl, hskips, hsettled⟩
  have hclear := held_wantTest_clear hwant (by rw [hfrost]; exact hlow) (hactive.trans hline)
  rw [placesInUse_of_eq hactive hpeers, hcfg] at hclear
  rw [if_pos (by rw [hfrost])]
  refine ⟨fun hfree => ?_, fun hfull => ?_⟩
  · rw [hclear, if_pos hfree, hheld, hfrost, hsteady, hnow]
  · rw [hclear, if_neg (Nat.not_lt.mpr hfull), hheld, hfrost]

/-! ## The half boundary -/

theorem exec_halfBoundary {t e : Time} {s : State} (hr : s.inReset = false) (hrun : s.clock.running = true)
    (he : s.clock.endTime = some e) (hle : e ≤ timeAfter t s) :
    exec (.halfBoundary t) s = .next (finish (advance t s) (boundary (advance t s))) := by
  refine exec_eq_finish (c := .halfBoundary t) rfl hr ?_
  have hclock : (advance t s).clock = s.clock := by simp
  have hnow : (advance t s).now = timeAfter t s := rfl
  have hdue : boundaryDue (advance t s) = true := by
    rw [boundaryDue, hclock, hrun, he, hnow]
    simpa [reached] using hle
  exact if_pos hdue

theorem ringWith_last (r : HalfRecord) (ring : List HalfRecord) : (ringWith r ring).getLast? = some r := by
  unfold ringWith
  rw [List.getLast?_drop, if_neg (by simp)]
  simp

theorem outdoorTakesRecord_ring (r : HalfRecord) (y : State) :
    (outdoorTakesRecord r y).climate.ring = y.climate.ring := by
  unfold outdoorTakesRecord
  split
  · rw [evaluateOutdoor_climate]
  · rfl

theorem recorded_ring (len : Nat) (e : Time) (s : State) :
    (recorded len e s).climate.ring = ringWith (formRecord s) s.climate.ring := by
  have hkept : (recorded len e s).climate
      = (outdoorTakesRecord (formRecord s) (closeRecord (formRecord s) (turned len e s))).climate := by
    unfold recorded
    simp
  rw [hkept, outdoorTakesRecord_ring]
  have hturned : (turned len e s).climate = s.climate := by simp [turned, advanceClock]
  rw [← hturned]
  rfl

/-- The answered state after a half boundary, in the fields that the boundary's parts form. -/
theorem finish_boundary (M : State) (len : Nat) (e : Time) :
    (finish M (boundaryWith len e M)).frost = (frostTurn (handed len e M) (recorded len e M)).frost
      ∧ (finish M (boundaryWith len e M)).line.defrostSlot
        = (frostTurn (handed len e M) (recorded len e M)).line.defrostSlot
      ∧ (finish M (boundaryWith len e M)).filter = (frostTurn (handed len e M) (recorded len e M)).filter
      ∧ (finish M (boundaryWith len e M)).fan.probeHold = (frostTurn (handed len e M) (recorded len e M)).fan.probeHold
      ∧ (finish M (boundaryWith len e M)).seq.settling = (recorded len e M).seq.settling
      ∧ (finish M (boundaryWith len e M)).climate = (recorded len e M).climate := by
  rw [boundaryWith_eq]
  obtain ⟨hfrost, hseq, -, hclimate, -, -, hfilter, -, hhold, -, hslot⟩ :=
    closeBoundary_parts (frostTurn (handed len e M) (recorded len e M))
  have hheld := held_finish M (closeBoundary (frostTurn (handed len e M) (recorded len e M)))
  refine ⟨(congrArg Held.frost hheld).trans hfrost, ?_, (congrArg Held.filter hheld).trans hfilter,
    (probeHold_of_held hheld).trans hhold, ?_, ?_⟩
  · rw [← hslot]
    exact steady_field (f := LineRec.defrostSlot) (fun _ => rfl) (finish_line_steady M _)
  · rw [finish_seq, hseq, frostTurn_settling]
  · refine (congrArg Held.climate hheld).trans (hclimate.trans ?_)
    simp [frostTurn]

end Sys2Proof.Proofs

/-! The frost stage at a half boundary, and the theorem of O42. -/

namespace Sys2Proof.Proofs

open Sys2Proof.Machine

/-- What the boundary's record finds of a state outside DEFROSTING. -/
structure Found (s x : State) : Prop where
  frost : x.frost = s.frost
  now : x.now = s.now
  places : placesInUse x = placesInUse s
  cfg : x.cfg = s.cfg
  active : x.line.active = s.line.active
  slot : x.line.defrostSlot = s.line.defrostSlot

theorem found_recorded {s : State} (len : Nat) (e : Time) (h : s.frost.stage ≠ .defrosting) : Found s (recorded len e s) := by
  obtain ⟨hnow, hpeers, hcfg, hactive, -, hfrost, hline, -, -⟩ := recorded_keeps len e s
  obtain ⟨htfrost, htline⟩ := turned_frost (len := len) (e := e) h
  refine ⟨hfrost.trans htfrost, hnow, placesInUse_of_eq hactive hpeers, hcfg, hactive, ?_⟩
  rw [hline]
  exact steady_field (f := LineRec.defrostSlot) (fun _ => rfl) htline

/-- The states of the sequencer in which the want test is made at a boundary. -/
theorem recorded_state (len : Nat) (e : Time) (s : State) :
    ((recorded len e s).seq.state.skipsWant = false ↔ s.seq.state = .supply ∨ s.seq.state = .extract ∨ s.seq.state = .through
        ∨ s.seq.state = .defrost ∨ s.seq.state = .reversing ∨ (s.seq.state = .rest ∧ s.seq.rejoin.isSome = true))
      ∧ ((recorded len e s).seq.state.refusesDefrost = false ↔ (recorded len e s).seq.state.skipsWant = false
        ∨ s.seq.state = .paused) := by
  obtain ⟨-, -, -, -, hseq, -⟩ := recorded_keeps len e s
  obtain ⟨hturns, hstays⟩ := turned_state len e s
  rw [hseq]
  cases ht : turnsNow s
  · rw [hstays ht]
    have hq : (settleAtBoundary s).seq.state = s.seq.state := rfl
    rw [hq]
    unfold turnsNow at ht
    cases hs : s.seq.state <;> simp_all [SeqState.skipsWant, SeqState.refusesDefrost]
  · have hmem := hturns ht
    have hskips : (turned len e s).seq.state.skipsWant = false ∧ (turned len e s).seq.state.refusesDefrost = false := by
      generalize (turned len e s).seq.state = q at hmem
      cases q <;> simp_all [SeqState.skipsWant, SeqState.refusesDefrost]
    rw [hskips.1, hskips.2]
    unfold turnsNow at ht
    cases hs : s.seq.state <;> simp_all

theorem stageAfterChange_high {a : Nat} (h : 1600 ≤ a) (st : FrostStage) :
    stageAfterChange st a = if st = .clear then .limiting else st := by
  have h800 : 800 ≤ a := by omega
  have h600 : ¬a < 600 := by omega
  have h1600 : ¬a < 1600 := by omega
  cases st <;> simp [stageAfterChange, h800, h600, h1600]

theorem stageAfterChange_low {a : Nat} (h : a < 1600) (st : FrostStage) :
    stageAfterChange st a = match st with
      | .clear => if 800 ≤ a then .limiting else .clear
      | .limiting => if a < 600 then .clear else .limiting
      | .deferred => if a < 600 then .clear else .limiting
      | other => other := by
  cases st <;> simp only [stageAfterChange]
  rw [if_pos h, stageByAccount]
  by_cases h600 : a < 600
  · rw [if_pos h600, if_neg (by omega)]
  · rw [if_neg h600, if_pos (by omega)]

/-- The want test after a move of the stage, in the terms of the state found. -/
theorem wantHolds_movedBy {a : Nat} {x : State} (h : Calm a x) : wantHolds (movedBy a x) = true ↔ 1600 ≤ a
    ∧ (stageTaken a x.frost = .limiting ∨ stageTaken a x.frost = .deferred) ∧ x.seq.state.skipsWant = false
    ∧ x.seq.settling = 0 := by
  obtain ⟨hfrost, hseq, -⟩ := movedBy_calm h
  rw [wantHolds_iff, hfrost, hseq]

theorem frostTurn_account (m : HalfRecord) (x : State) : (frostTurn m x).frost.account = accountTaken m x := by
  rw [← accountTaken_frostTakesRecord]
  simp [frostTurn]

section
variable {m : HalfRecord} {x : State} {a : Nat}

/-- Below 1600 only the account and the stage by it move. -/
theorem frostTurn_low (ha : accountTaken m x = a) (hlow : a < 1600) :
    (a = x.frost.account → (frostTurn m x).frost = x.frost)
      ∧ (a ≠ x.frost.account → (frostTurn m x).frost = { x.frost with account := a, stage := match x.frost.stage with
        | .clear => if 800 ≤ a then .limiting else .clear
        | .limiting => if a < 600 then .clear else .limiting
        | .deferred => if a < 600 then .clear else .limiting
        | other => other }) := by
  have hcalm : Calm a x := .inl (by omega)
  have hquiet : wantHolds (movedBy a x) = false := by
    rw [← Bool.not_eq_true, wantHolds_movedBy hcalm]
    omega
  have h := frostTurn_quiet (m := m) (x := x) (by rw [ha]; exact hcalm) (.inl (by rw [ha]; exact hquiet))
  rw [ha, stageTaken] at h
  refine ⟨fun he => ?_, fun he => ?_⟩
  · rw [h, if_pos he, he]
  · rw [h, if_neg he, stageAfterChange_low hlow]

/-- From 1600 the stage moves only out of CLEAR where neither test is made or holds. -/
theorem frostTurn_high (ha : accountTaken m x = a) (hhigh : 1600 ≤ a) (hcalm : Calm a x)
    (hw : wantHolds (movedBy a x) = false ∨ (¬testedBy m x ∧ x.frost.stage ≠ .deferred)) :
    (frostTurn m x).frost = { x.frost with
      account := a, stage := if x.frost.stage = .clear ∧ a ≠ x.frost.account then .limiting else x.frost.stage } := by
  have h := frostTurn_quiet (m := m) (x := x) (by rw [ha]; exact hcalm) (by rw [ha]; exact hw)
  rw [ha, stageTaken] at h
  by_cases he : a = x.frost.account
  · rw [h, if_pos he, if_neg (fun hc => hc.2 he)]
  · rw [h, if_neg he, stageAfterChange_high hhigh]
    by_cases hc : x.frost.stage = .clear
    · rw [if_pos hc, if_pos ⟨hc, he⟩]
    · rw [if_neg hc, if_neg (fun h => hc h.1)]

/-- CONTENDING and LOCKOUT stay below the forced limit. -/
theorem frostTurn_waiting (ha : accountTaken m x = a) (hlow : a < 3200)
    (hst : x.frost.stage = .contending ∨ x.frost.stage = .lockout) :
    (frostTurn m x).frost = { x.frost with account := a } := by
  have hcalm : Calm a x := .inl hlow
  have hstage : stageTaken a x.frost = x.frost.stage := by
    unfold stageTaken
    rcases hst with h | h <;> simp [h, stageAfterChange]
  have hquiet : wantHolds (movedBy a x) = false := by
    rw [← Bool.not_eq_true, wantHolds_movedBy hcalm, hstage]
    rcases hst with h | h <;> simp [h]
  have h := frostTurn_quiet (m := m) (x := x) (by rw [ha]; exact hcalm) (.inl (by rw [ha]; exact hquiet))
  rw [h, ha, hstage]

/-- The want test is made and holds. -/
theorem frostTurn_contends (ha : accountTaken m x = a) (hhigh : 1600 ≤ a) (hlow : a < 3200)
    (hskips : x.seq.state.skipsWant = false) (hsettled : x.seq.settling = 0)
    (hst : x.frost.stage = .deferred ∨ (a ≠ x.frost.account ∧ (x.frost.stage = .clear ∨ x.frost.stage = .limiting))
      ∨ (x.frost.stage = .limiting ∧ m.valid = true ∧ m.direction = some .extract)) :
    (x.line.active = false → placesInUse x < x.cfg.allowance →
      (frostTurn m x).frost = { x.frost with
        account := a, stage := .contending, notice := some ⟨.enter, false⟩, contentionStart := some x.now
        entryAccount := none, windowEnd := none } ∧ (frostTurn m x).line.defrostSlot.pending = true)
    ∧ (x.line.active = false → x.cfg.allowance ≤ placesInUse x →
      (frostTurn m x).frost = { x.frost with account := a, stage := .deferred })
    ∧ (x.line.active = true → (frostTurn m x).frost.stage = .defrosting
      ∧ (frostTurn m x).frost.defrostStart = some x.now ∧ (frostTurn m x).frost.notice = x.frost.notice
      ∧ (frostTurn m x).line.defrostSlot = x.line.defrostSlot) := by
  have hcalm : Calm a x := .inl hlow
  have hstage : stageTaken a x.frost = .limiting ∨ stageTaken a x.frost = .deferred := by
    unfold stageTaken
    rw [stageAfterChange_high hhigh]
    rcases hst with h | ⟨hne, h | h⟩ | ⟨h, -⟩ <;> simp [*]
  have hwants : wantHolds (movedBy a x) = true := (wantHolds_movedBy hcalm).mpr ⟨hhigh, hstage, hskips, hsettled⟩
  have htested : testedBy m x ∨ x.frost.stage = .deferred := by
    rcases hst with h | ⟨hne, h⟩ | ⟨h, hv, hdir⟩
    · exact .inr h
    · refine .inl ⟨?_, .inl (by rw [ha]; exact hne)⟩
      by_contra hnot
      exact hne (ha.symm.trans (if_neg hnot))
    · exact .inl ⟨⟨hv, hdir, by rw [h]; exact nofun, by rw [h]; exact nofun⟩, .inr h⟩
  have hwanted := frostTurn_wants (m := m) (x := x) (by rw [ha]; exact hlow) (by rw [ha]; exact hwants) htested
  rw [ha] at hwanted
  obtain ⟨hfrost, -, hline, -⟩ := movedBy_calm hcalm
  obtain ⟨hnow, hpeers, hcfg, hactive⟩ := movedBy_keeps a x
  have hplaces : placesInUse (movedBy a x) = placesInUse x := placesInUse_of_eq hactive hpeers
  have hslot : (movedBy a x).line.defrostSlot = x.line.defrostSlot :=
    steady_field (f := LineRec.defrostSlot) (fun _ => rfl) hline
  obtain ⟨-, -, -, -, hcontends, hwaits, hdefrosts⟩ := hwanted
  rw [hactive, hplaces, hcfg, hfrost, hnow] at hcontends
  rw [hactive, hplaces, hcfg, hfrost] at hwaits
  rw [hactive, hfrost, hnow, hslot] at hdefrosts
  exact ⟨hcontends, hwaits, hdefrosts⟩

end

/-- The record that the monitors take is the closed one where no sample waits. -/
theorem handed_unsampled {len : Nat} {e : Time} {s : State} (h : ∀ i o k t', Instr.sample i o k t' ∉ s.pending) :
    handed len e s = formRecord s := by
  have hpending : (turned len e s).pending = s.pending := by simp [turned, advanceClock]
  have hnone : faultThisInstant (turned len e s) = false := by
    unfold faultThisInstant dueNow
    rw [hpending, List.any_eq_false]
    intro c hc
    have hmem := List.takeWhile_subset _ hc
    cases c
    case sample i o k t' => exact absurd hmem (h i o k t')
    all_goals exact (nomatch ·)
  unfold handed recordToMonitors
  rw [hnone]
  simp

theorem handed_direction (len : Nat) (e : Time) (s : State) :
    (handed len e s).direction = (formRecord s).direction ∧ ((handed len e s).valid = true → (formRecord s).valid = true) := by
  refine ⟨rfl, fun h => ?_⟩
  have hv : ((formRecord s).valid && !faultThisInstant (turned len e s)) = true := h
  rw [Bool.and_eq_true] at hv
  exact hv.1

theorem untested_of_record {len : Nat} {e : Time} {s : State} (h : (formRecord s).valid = false ∨ (formRecord s).direction ≠ some .extract)
    (x : State) : ¬testedBy (handed len e s) x := by
  obtain ⟨hdir, hvalid⟩ := handed_direction len e s
  rintro ⟨⟨hv, hd, -⟩, -⟩
  rcases h with h | h
  · rw [hvalid hv] at h
    cases h
  · exact h (hdir.symm.trans hd)

/-- A probe where the stage has left CLEAR at a boundary. -/
theorem boundary_leavesClear {len : Nat} {e : Time} {s : State} (hclear : s.frost.stage = .clear)
    (hleft : (frostTurn (handed len e s) (recorded len e s)).frost.stage ≠ .clear) :
    (frostTurn (handed len e s) (recorded len e s)).filter.probing = false
      ∧ (s.filter.probe = .firstHalf → (frostTurn (handed len e s) (recorded len e s)).filter.probe = .waiting
        ∧ (frostTurn (handed len e s) (recorded len e s)).filter.abandonTime = some s.now
        ∧ (frostTurn (handed len e s) (recorded len e s)).fan.probeHold = false)
      ∧ (s.filter.probe = .waiting → (frostTurn (handed len e s) (recorded len e s)).filter.probe = .waiting) := by
  obtain ⟨hkept, hleaves⟩ := frostTurn_probe (handed len e s) (recorded len e s)
  have hfound := found_recorded (s := s) len e (by rw [hclear]; exact nofun)
  have hprobing := hleaves (by rw [hfound.frost]; exact hclear) hleft
  obtain ⟨hfilter, hhold⟩ := hkept.abandoned hprobing
  obtain ⟨hfirst, hwaiting⟩ := recorded_abandoned len e s
  rw [hfilter, hhold, hfound.now]
  exact ⟨abandoned_probing _ _, hfirst, hwaiting⟩

/-- Settles O42: each limit by its own command, and the half boundary by the size of the account it leaves. -/
theorem blindDefrostAndLockoutEnd : Obligations.BlindDefrostAndLockoutEnd := by
  refine ⟨fun t s hr => ⟨fun b hstage hblind hb hle => ?_, fun e hstage he hle => ⟨fun hlow => ?_,
    fun hhigh hlow hskips hsettled hline => ?_⟩⟩, fun a => rfl, skipsWant_iff, ?_⟩
  · refine ⟨_, exec_eq_finish (c := .blindDefrostLimit t) rfl hr (effectOf_blindDefrostLimit hstage hblind hb hle), ?_⟩
    have hm : (advance t s).frost = s.frost ∧ (advance t s).seq = s.seq
        ∧ laneDirectionNow (advance t s) = laneDirectionNow s := ⟨by simp, by simp, rfl⟩
    obtain ⟨hmfrost, hmseq, hmdir⟩ := hm
    have hover := blindOver_seq (s := advance t s) (by rw [hmfrost]; exact hstage)
    rw [hmfrost, hmseq, hmdir] at hover
    obtain ⟨hfrost, hslot, hextract, hpaused⟩ := hover
    have hrest : (finish (advance t s) (takeDefrostEnd (blindOver (advance t s)))).frost
          = (takeDefrostEnd (blindOver (advance t s))).frost
        ∧ (finish (advance t s) (takeDefrostEnd (blindOver (advance t s)))).seq
          = (takeDefrostEnd (blindOver (advance t s))).seq := ⟨by simp, finish_seq _ _⟩
    rw [hrest.1, hrest.2]
    refine ⟨hfrost, ?_, hextract, hpaused, ?_⟩
    · exact (steady_field (f := fun l => l.defrostSlot.pending) (fun _ => rfl) (finish_line_steady _ _)).trans hslot
    · simp [blindOver, clearBlindDefrost, queueNotice, setAccount]
  · refine ⟨_, exec_eq_finish (c := .lockoutEnd t) rfl hr (effectOf_lockoutEnd hstage he hle), ?_⟩
    have hfrost : (advance t s).frost = s.frost := by simp
    rw [held_finish, endLockout_low (by rw [hfrost]; exact hstage) (by rw [hfrost]; exact hlow), held_advance, hfrost]
  · refine ⟨_, exec_eq_finish (c := .lockoutEnd t) rfl hr (effectOf_lockoutEnd hstage he hle), ?_⟩
    have hm : (advance t s).frost = s.frost ∧ (advance t s).seq = s.seq ∧ (advance t s).line.active = s.line.active
        ∧ (advance t s).cfg = s.cfg ∧ (advance t s).line.steady = s.line.steady ∧ (advance t s).peers = s.peers := by
      refine ⟨by simp, by simp, by simp, by simp, congrArg Held.line (held_advance t s), by simp⟩
    obtain ⟨hfrost, hseq, hactive, hcfg, hsteady, hpeers⟩ := hm
    have hends := endLockout_wants (s := advance t s) (by rw [hfrost]; exact hstage) (by rw [hfrost]; exact hhigh)
      (by rw [hfrost]; exact hlow) (by rw [hseq]; exact hskips) (by rw [hseq]; exact hsettled) (by rw [hactive]; exact hline)
    rw [placesInUse_of_eq hactive hpeers, hcfg, hfrost, hsteady, held_advance] at hends
    rw [held_finish]
    exact hends
  · intro t e s cycles hr hrun he hle hd hb hcycles
    have hm : (advance t s).frost = s.frost ∧ (advance t s).seq = s.seq ∧ (advance t s).line.active = s.line.active
        ∧ (advance t s).cfg = s.cfg ∧ (advance t s).line.defrostSlot = s.line.defrostSlot ∧ (advance t s).peers = s.peers
        ∧ (advance t s).filter = s.filter ∧ (advance t s).now = timeAfter t s ∧ (advance t s).pending = s.pending := by
      refine ⟨by simp, by simp, by simp, by simp, ?_, by simp, by simp, rfl, by simp⟩
      exact steady_field (f := LineRec.defrostSlot) (fun _ => rfl) (congrArg Held.line (held_advance t s))
    have hexec := exec_halfBoundary hr hrun he hle
    unfold boundary at hexec
    generalize advance t s = M at hm hexec
    generalize nextLength M = len at hexec
    generalize M.now + seconds len = e' at hexec
    obtain ⟨hmfrost, hmseq, hmactive, hmcfg, hmslot, hmpeers, hmfilter, hmnow, hmpending⟩ := hm
    have hfound := found_recorded (s := M) len e' (by rw [hmfrost]; exact hd)
    obtain ⟨hxfrost, hxnow, hxplaces, hxcfg, hxactive, hxslot⟩ := hfound
    obtain ⟨hxskips, hxrefuses⟩ := recorded_state len e' M
    have hleaves := boundary_leavesClear (len := len) (e := e') (s := M)
    obtain ⟨hffrost, hfslot, hffilter, hfhold, hfsettling, hfclimate⟩ := finish_boundary M len e'
    rw [hmfrost] at hxfrost
    rw [hmseq, ← hcycles] at hxskips
    rw [hxskips, hmseq] at hxrefuses
    rw [hmfrost, hmfilter, hmnow] at hleaves
    have huntested := untested_of_record (len := len) (e := e') (s := M)
    have hunsampled := handed_unsampled (len := len) (e := e') (s := M)
    rw [hmpending] at hunsampled
    refine ⟨_, formRecord M, accountTaken (handed len e' M) (recorded len e' M), hexec, ?_, ?_, ?_⟩
    · rw [hfclimate, recorded_ring, ringWith_last]
    · rw [hffrost, frostTurn_account]
    rw [hffrost, hfslot, hffilter, hfhold, hfsettling, ← hxfrost, ← hmnow, ← hxnow, ← hmactive, ← hxactive, ← hmcfg, ← hxcfg,
      ← placesInUse_of_eq hmactive hmpeers, ← hxplaces, ← hmslot, ← hxslot]
    rw [← hmnow, ← hxnow, ← hxfrost] at hleaves
    rw [← hxfrost] at hd hb
    generalize handed len e' M = m at hleaves huntested hunsampled
    generalize recorded len e' M = x at hxskips hxrefuses hleaves huntested hd hb
    refine ⟨fun hclear hleft => hleaves hclear hleft, fun hlow he => (frostTurn_low rfl hlow).1 he,
      fun hlow hne => (frostTurn_low rfl hlow).2 hne, fun hlow hst => frostTurn_waiting rfl hlow hst,
      fun hhigh hlow hc hl hno => frostTurn_high rfl hhigh (.inl hlow) ?_,
      fun hhigh hlow hc hsettled hst => frostTurn_contends rfl hhigh hlow (hxskips.mpr hc) hsettled ?_,
      fun hhigh hc => ?_, fun hhigh hc hp => frostTurn_high rfl (by omega) (.inr ?_) (.inl ?_)⟩
    · rcases hno with h | h | ⟨-, hst, hr'⟩
      · refine .inl ?_
        rw [← Bool.not_eq_true, wantHolds_movedBy (.inl hlow)]
        exact fun hw => h (hxskips.mp hw.2.2.1)
      · refine .inl ?_
        rw [← Bool.not_eq_true, wantHolds_movedBy (.inl hlow)]
        exact fun hw => h hw.2.2.2
      · exact .inr ⟨huntested hr' x, hst⟩
    · rcases hst with h | h | ⟨h, hv, hdir, hnone⟩
      · exact .inl h
      · exact .inr (.inl h)
      · rw [hunsampled hnone]
        exact .inr (.inr ⟨h, hv, hdir⟩)
    · obtain ⟨h1, h2, h3, ⟨h4, h5, h6⟩, h7, h8⟩ := frostTurn_forced (m := m) (x := x) hhigh (hxrefuses.mpr hc) hd hb
      exact ⟨h1, h2, h3, h4, h5, h6, h7, h8⟩
    · rw [← Bool.not_eq_false, hxrefuses]
      exact not_or.mpr ⟨hc, hp⟩
    · have hrefuses : x.seq.state.refusesDefrost = true := by
        rw [← Bool.not_eq_false, hxrefuses]
        exact not_or.mpr ⟨hc, hp⟩
      rw [← Bool.not_eq_true, wantHolds_movedBy (.inr hrefuses)]
      exact fun hw => hc (hxskips.mp hw.2.2.1)

end Sys2Proof.Proofs

/-! What a record is to the frost account and to the humidity monitor (the first part of O60). -/

namespace Sys2Proof.Proofs

open Sys2Proof.Machine

/-! ## The frost account -/

theorem clampInt_eq {lo hi : Int} (h : lo ≤ hi) (x : Int) : clampInt lo hi x = max lo (min hi x) := by
  unfold clampInt
  split_ifs <;> omega

/-- R74: the account after a mean exhaust temperature `x`. -/
theorem accountByRecord_cases {r : HalfRecord} {x : Int} (hx : r.outer = some x) (a : Nat) :
    (x < 0 → accountByRecord a r = min 4000 (a
        + (max 0 (min 200 ((r.moisture.elim 100 (·.td)) - x))).toNat * r.flowPercent * r.duration / 12000))
      ∧ (0 ≤ x → x ≤ 9 → accountByRecord a r = a)
      ∧ (10 ≤ x → accountByRecord a r = a - x.toNat * r.flowPercent * r.duration / 600) := by
  have htd : (r.moisture.map (·.td)).getD 100 = r.moisture.elim 100 (·.td) := by cases r.moisture <;> rfl
  unfold accountByRecord accountAfterRecord
  rw [hx]
  dsimp only
  refine ⟨fun h => ?_, fun h0 h9 => ?_, fun h => ?_⟩
  · rw [if_pos h, frostGrowth, clampInt_eq (by decide), htd]
    rfl
  · rw [if_neg (by omega), if_pos h9]
  · rw [if_neg (by omega), if_neg (by omega)]
    rfl

/-! ## The humidity monitor -/

/-- A baseline moved by a sixteenth is what R95 says, without a turn below 0. -/
theorem baselineToward_int (b ah : Nat) : (baselineToward b ah : Int) = b + ((ah : Int) - b).tdiv 16 := by
  unfold baselineToward
  have h : 0 ≤ (b : Int) + ((ah : Int) - b).tdiv 16 := by
    rcases le_total b ah with hle | hle
    · have h' : 0 ≤ ((ah : Int) - b).tdiv 16 := Int.tdiv_nonneg (by omega) (by decide)
      omega
    · obtain ⟨k, rfl⟩ := Nat.exists_eq_add_of_le hle
      have hneg : ((ah : Int) - ((ah + k : Nat) : Int)) = -(k : Int) := by omega
      have hk : ((k : Int)).tdiv 16 ≤ k := by
        rw [Int.tdiv_eq_ediv_of_nonneg (by omega)]
        omega
      rw [hneg, Int.neg_tdiv]
      omega
  exact Int.toNat_of_nonneg h

theorem humidTakesRecord_eq {r : HalfRecord} {m : Moisture} {rh : Int} (hv : r.valid = true) (hd : r.direction = some .extract)
    (hm : r.moisture = some m) (hrh : r.rh = some rh) (s : State) : humidTakesRecord r s = humidRecord m.ah rh s := by
  unfold humidTakesRecord
  rw [if_pos ⟨hv, hd⟩, hm, hrh]

section
variable {s : State} {ah : Nat} {rh : Int}

theorem riseStep_int (s : State) : (riseStep s : Int) = 5 * (s.cfg.humidityStep : Int) := by
  unfold riseStep
  omega

theorem dryRh_iff (s : State) (rh : Int) : dryRh s rh = true ↔ rh < 10 * (s.cfg.rhCeiling : Int) - 50 := by
  exact decide_eq_true_iff

/-- WATCHING: the boost begins (R96). -/
theorem humidRecord_watching {b : Nat} (hst : s.humid.state = .watching) (hb : s.humid.baseline = some b) :
    humidRecord ah rh s = if 5 * (s.cfg.humidityStep : Int) ≤ (ah : Int) - b ∨ 10 * (s.cfg.rhCeiling : Int) ≤ rh
      then startBoost s else { s with humid := { s.humid with baseline := some (baselineToward b ah) } } := by
  unfold humidRecord
  rw [hst, hb]
  dsimp only
  rw [watchRecord, riseStep_int]
  rfl

theorem fallingAfter_eq (s : State) (ah : Nat) (rh : Int) : fallingAfter s ah rh = match s.humid.baseline with
    | some b => if 5 * (s.cfg.humidityStep : Int) ≤ (ah : Int) - b then 0
        else if (ah : Int) - b ≤ ((5 * s.cfg.humidityStep / 2 : Nat) : Int) then min 2 (s.humid.falling + 1)
        else s.humid.falling
    | none => if 10 * (s.cfg.rhCeiling : Int) ≤ rh then 0
        else if rh < 10 * (s.cfg.rhCeiling : Int) - 50 then min 2 (s.humid.falling + 1)
        else s.humid.falling := by
  unfold fallingAfter
  cases s.humid.baseline
  case none =>
    have hdry := dryRh_iff s rh
    simp only [hdry]
    rfl
  case some b =>
    simp only [riseStep_int]
    rfl

/-- BOOSTING: the count of falls, and the end of the boost (R98). -/
theorem humidRecord_boosting (hst : s.humid.state = .boosting) :
    humidRecord ah rh s = if fallingAfter s ah rh = 2 ∧ rh < 10 * (s.cfg.rhCeiling : Int) - 50
      then endBoost (if s.humid.baseline = none then .seeding else .watching) s
      else { s with humid := { s.humid with falling := fallingAfter s ah rh } } := by
  unfold humidRecord
  rw [hst]
  have hnext : restingState s = if s.humid.baseline = none then .seeding else .watching := by
    unfold restingState
    cases s.humid.baseline <;> rfl
  have hdry := dryRh_iff s rh
  dsimp only
  rw [boostRecord, hnext]
  simp only [hdry]

/-- REARMING: the way back to WATCHING (R99). -/
theorem humidRecord_rearming (hst : s.humid.state = .rearming) :
    (∀ b, s.humid.baseline = some b → humidRecord ah rh s
        = if (ah : Int) - b ≤ ((5 * s.cfg.humidityStep / 2 : Nat) : Int) then
            { s with humid := { s.humid with state := .watching, baseline := some (baselineToward b ah) } }
          else s)
      ∧ (s.humid.baseline = none → humidRecord ah rh s
        = if rh < 10 * (s.cfg.rhCeiling : Int) - 50 then
            { s with humid := { s.humid with state := .watching, baseline := some ah } }
          else s) := by
  unfold humidRecord
  rw [hst]
  dsimp only
  unfold rearmRecord
  refine ⟨fun b hb => ?_, fun hb => ?_⟩
  · rw [hb]
    rfl
  · have hdry := dryRh_iff s rh
    rw [hb]
    simp only [hdry]

end

/-- The first part of O60: what one record does. -/
theorem record_feeds (r : HalfRecord) (s : State) :
    (r.valid = false ∨ r.direction ≠ some .extract → frostTakesRecord r s = s ∧ humidTakesRecord r s = s)
    ∧ (r.valid = true → r.direction = some .extract →
      (s.frost.stage = .defrosting ∨ s.frost.stage = .blind → frostTakesRecord r s = s)
      ∧ (∀ x, r.outer = some x → s.frost.stage ≠ .defrosting → s.frost.stage ≠ .blind →
        (x < 0 → (frostTakesRecord r s).frost.account = min 4000 (s.frost.account
          + (max 0 (min 200 ((r.moisture.elim 100 (·.td)) - x))).toNat * r.flowPercent * r.duration / 12000))
        ∧ (0 ≤ x → x ≤ 9 → (frostTakesRecord r s).frost.account = s.frost.account)
        ∧ (10 ≤ x → (frostTakesRecord r s).frost.account
            = s.frost.account - x.toNat * r.flowPercent * r.duration / 600))) := by
  refine ⟨fun h => ?_, fun hv hd => ⟨fun h => ?_, fun x hx hs hb => ?_⟩⟩
  · have hnot : ¬(r.valid = true ∧ r.direction = some .extract) := by
      rintro ⟨hv, hd⟩
      rcases h with h | h
      · rw [h] at hv
        cases hv
      · exact h hd
    exact ⟨if_neg fun h' => hnot ⟨h'.1, h'.2.1⟩, if_neg hnot⟩
  · exact if_neg fun h' => h.elim h'.2.2.1 h'.2.2.2
  · have htaken : accountTaken r s = accountByRecord s.frost.account r := if_pos ⟨hv, hd, hs, hb⟩
    rw [accountTaken_frostTakesRecord, htaken]
    exact accountByRecord_cases hx s.frost.account

end Sys2Proof.Proofs

/-! What a half boundary hands on: the record to frost guard and humidity monitor, and the judgement of a probe half (O60). -/

namespace Sys2Proof.Proofs

open Sys2Proof.Machine

/-! ## The stage at the turn of the sequencer -/

theorem enterDirect_stage {st : SeqState} {s : State} (hrest : st ≠ .rest) (hstop : st ≠ .stopped) :
    (enterDirect st s).frost.stage = s.frost.stage :=
  (changeSeq_running_view (q := { s.seq with state := st }) (s := s) hrest hstop).1

theorem cycleAtBoundary_stage (d : Dir) (s : State) : (cycleAtBoundary d s).frost.stage = s.frost.stage := by
  unfold cycleAtBoundary
  split
  · split
    · exact enterDirect_stage (by decide) (by decide)
    · exact (beginReversing_view _ s).1
  · split
    · rfl
    · exact (beginReversing_view _ s).1

theorem sequencerAtBoundary_stage (s : State) : (sequencerAtBoundary s).frost.stage = s.frost.stage := by
  unfold sequencerAtBoundary
  split
  case h_1 => exact cycleAtBoundary_stage _ s
  case h_2 => exact cycleAtBoundary_stage _ s
  case h_3 hr =>
    have hkept (g : Target) : (retarget g s).frost.stage = s.frost.stage := by rw [(retarget_frost_same hr).1]
    split
    · exact hkept _
    · exact hkept _
    · split
      · exact hkept _
      · rfl
    · rfl
  case h_4 =>
    split
    · split
      · exact enterDirect_stage (dir_state_runs _).1 (dir_state_runs _).2
      · exact (beginReversing_view _ s).1
    · rfl
  case h_5 =>
    unfold rejoinAtBoundary
    split
    · rfl
    · dsimp only
      split
      · rw [show ∀ y : State, (humidOnDeepExit y).frost = y.frost by simp]
        exact (beginReversing_view _ { s with seq := { s.seq with rejoin := none, restStart := none } }).1
      · exact (beginReversing_view _ { s with seq := { s.seq with rejoin := none, restStart := none } }).1
  case h_6 => rfl

theorem recorded_stage (len : Nat) (e : Time) (s : State) :
    (recorded len e s).frost.stage = s.frost.stage ∧ (recorded len e s).frost.account = s.frost.account := by
  obtain ⟨-, -, -, -, -, hfrost, -⟩ := recorded_keeps len e s
  have hturned : (turned len e s).frost
      = (sequencerAtBoundary (settleAtBoundary (advanceClock len e s))).frost := (startTestAtBoundary_same _ _).1
  rw [hfrost, hturned, sequencerAtBoundary_stage]
  refine ⟨rfl, ?_⟩
  simp [settleAtBoundary, advanceClock]

theorem accountTaken_of_frost {m : HalfRecord} {x y : State} (hs : x.frost.stage = y.frost.stage)
    (ha : x.frost.account = y.frost.account) : accountTaken m x = accountTaken m y := by
  unfold accountTaken
  rw [hs, ha]

/-! ## The humidity monitor -/

theorem recorded_humid (len : Nat) (e : Time) {s : State} (hr : s.seq.state ≠ .rest) :
    (recorded len e s).humid = s.humid ∧ (recorded len e s).demand.stack = s.demand.stack := by
  obtain ⟨-, -, -, -, -, -, -, hhumid, hdemand⟩ := recorded_keeps len e s
  obtain ⟨-, -, -, -, hthumid, htdemand⟩ := startTestAtBoundary_same (settleAtBoundary (advanceClock len e s)).seq.state
    (sequencerAtBoundary (settleAtBoundary (advanceClock len e s)))
  have hsheds := sheds_sequencerAtBoundary (s := settleAtBoundary (advanceClock len e s)) hr
  rw [hhumid, hdemand]
  exact ⟨hthumid.trans hsheds.humid, (congrArg DemandRec.stack htdemand).trans hsheds.stack⟩

/-- What the humidity monitor makes of a record follows from its own record, the clock, the stack and the configuration. -/
theorem humidTakesRecord_congr (m : HalfRecord) {y z : State} (hh : y.humid = z.humid) (hc : y.cfg = z.cfg)
    (hn : y.now = z.now) (hs : y.demand.stack = z.demand.stack) (hi : y.stationIndex = z.stationIndex) :
    (humidTakesRecord m y).humid = (humidTakesRecord m z).humid
      ∧ (humidTakesRecord m y).demand.stack = (humidTakesRecord m z).demand.stack := by
  have hown : ownNumber y = ownNumber z := by rw [ownNumber, ownNumber, hi]
  have hstart : (startBoost y).humid = (startBoost z).humid ∧ (startBoost y).demand.stack = (startBoost z).demand.stack := by
    have h1 := held_startBoost y
    have h2 := held_startBoost z
    rw [hh, hn, hs, hown] at h1
    exact ⟨(congrArg Held.humid h1).trans (congrArg Held.humid h2).symm,
      (congrArg Held.stack h1).trans (congrArg Held.stack h2).symm⟩
  have hend (next : HumidState) : (endBoost next y).humid = (endBoost next z).humid
      ∧ (endBoost next y).demand.stack = (endBoost next z).demand.stack := by
    have h1 := held_endBoost next y
    have h2 := held_endBoost next z
    rw [hh, hs, hown] at h1
    exact ⟨(congrArg Held.humid h1).trans (congrArg Held.humid h2).symm,
      (congrArg Held.stack h1).trans (congrArg Held.stack h2).symm⟩
  have hfalling (ah : Nat) (rh : Int) : fallingAfter y ah rh = fallingAfter z ah rh := by
    rw [fallingAfter_eq, fallingAfter_eq, hh, hc]
  unfold humidTakesRecord
  split
  case isFalse => exact ⟨hh, hs⟩
  case isTrue =>
    split
    case h_2 => exact ⟨hh, hs⟩
    case h_1 mo rh _ _ =>
      cases hst : z.humid.state
      case disabled => simpa [humidRecord, hh, hst] using hs
      case seeding => simpa [humidRecord, hh, hst] using hs
      case watching =>
        cases hb : z.humid.baseline
        case none => simpa [humidRecord, hh, hst, hb] using hs
        case some b =>
          rw [humidRecord_watching (s := y) (by rw [hh, hst]) (by rw [hh, hb]), humidRecord_watching hst hb, hc]
          split
          · exact hstart
          · rw [hh]
            exact ⟨rfl, hs⟩
      case boosting =>
        rw [humidRecord_boosting (s := y) (by rw [hh, hst]), humidRecord_boosting hst, hc, hfalling, hh]
        split
        · exact hend _
        · exact ⟨rfl, hs⟩
      case rearming =>
        obtain ⟨hsome, hnone⟩ := humidRecord_rearming (ah := mo.ah) (rh := rh) (s := z) hst
        obtain ⟨hsome', hnone'⟩ := humidRecord_rearming (ah := mo.ah) (rh := rh) (s := y) (by rw [hh, hst])
        cases hb : z.humid.baseline
        case none =>
          rw [hnone hb, hnone' (by rw [hh, hb]), hc]
          split
          · rw [hh]
            exact ⟨rfl, hs⟩
          · exact ⟨hh, hs⟩
        case some b =>
          rw [hsome b hb, hsome' b (by rw [hh, hb]), hc]
          split
          · rw [hh]
            exact ⟨rfl, hs⟩
          · exact ⟨hh, hs⟩

/-- The boundary's humidity monitor and stack are those of its record taken by the state it found. -/
theorem frostTurn_humid (m : HalfRecord) {x z : State} (hh : x.humid = z.humid) (hc : x.cfg = z.cfg)
    (hn : x.now = z.now) (hs : x.demand.stack = z.demand.stack) (hi : x.stationIndex = z.stationIndex) :
    (frostTurn m x).humid = (humidTakesRecord m z).humid ∧ (frostTurn m x).demand.stack = (humidTakesRecord m z).demand.stack := by
  have htaken := sheds_frostTakesRecord m x
  have hlast := sheds_frostAtBoundary (humidTakesRecord m (frostTakesRecord m x))
  have hcongr := humidTakesRecord_congr m (y := frostTakesRecord m x) (z := z) (htaken.humid.trans hh) (by simpa using hc)
    (htaken.now.trans hn) (htaken.stack.trans hs) (by simpa using hi)
  exact ⟨hlast.humid.trans hcongr.1, hlast.stack.trans hcongr.2⟩

/-! ## The record that the monitors take -/

theorem dueNow_front {c : Instr} {rest : List Instr} {t : Time} {s : State} (hp : s.pending = c :: rest) (ht : timeOf c = some t)
    (hle : t ≤ s.now) : c ∈ dueNow s := by
  unfold dueNow
  rw [hp, List.takeWhile_cons, ht, Option.any_some, decide_eq_true hle, if_pos rfl]
  exact List.mem_cons_self

theorem handed_of_pending {len : Nat} {e : Time} {s : State} :
    ((∀ i o k t', Instr.sample i o k t' ∈ s.pending → thermistorValid i = true ∧ thermistorValid o = true) →
        handed len e s = formRecord s)
      ∧ (∀ i o k t' rest, s.pending = .sample i o k t' :: rest → t' ≤ s.now →
          (s.climate.inner.fault = false ∧ thermistorValid i = false)
            ∨ (s.climate.outer.fault = false ∧ thermistorValid o = false) → (handed len e s).valid = false) := by
  have hpending : (turned len e s).pending = s.pending ∧ (turned len e s).climate = s.climate ∧ (turned len e s).now = s.now := by
    simp [turned, advanceClock]
  obtain ⟨hp, hclimate, hnow⟩ := hpending
  refine ⟨fun h => ?_, fun i o k t' rest hfront hle hraises => ?_⟩
  · have hnone : faultThisInstant (turned len e s) = false := by
      unfold faultThisInstant dueNow
      rw [hp, List.any_eq_false]
      intro c hc
      have hmem := List.takeWhile_subset _ hc
      cases c
      case sample i o k t' =>
        obtain ⟨hi, ho⟩ := h i o k t' hmem
        simp [raisesThermistorFault, hi, ho]
      all_goals exact (nomatch ·)
    unfold handed recordToMonitors
    rw [hnone]
    simp
  · have hraised : faultThisInstant (turned len e s) = true := by
      unfold faultThisInstant
      rw [List.any_eq_true]
      refine ⟨_, dueNow_front (hp.trans hfront) rfl (hnow ▸ hle), ?_⟩
      rw [hclimate]
      rcases hraises with ⟨h1, h2⟩ | ⟨h1, h2⟩ <;> simp [raisesThermistorFault, h1, h2]
    have hform : (handed len e s).valid = ((formRecord s).valid && !faultThisInstant (turned len e s)) := rfl
    rw [hform, hraised]
    simp

end Sys2Proof.Proofs

/-! A probe half at a half boundary, and the theorem of O60. -/

namespace Sys2Proof.Proofs

open Sys2Proof.Machine

/-! ## Tests that leave a probe -/

/-- The filter record and the probe hold stand. -/
def ProbeStands (s y : State) : Prop := y.filter = s.filter ∧ y.fan.probeHold = s.fan.probeHold

theorem ProbeStands.trans {a b c : State} (hab : ProbeStands a b) (hbc : ProbeStands b c) : ProbeStands a c :=
  ⟨hbc.1.trans hab.1, hbc.2.trans hab.2⟩

/-- A want test that orders no defrost leaves a probe and the sequencer. -/
theorem wantTest_stands {y : State} (hcalm : Calm y.frost.account y) (hd : (wantTest y).frost.stage ≠ .defrosting) :
    ProbeStands y (wantTest y) ∧ ((wantTest y).frost.stage = .clear ↔ y.frost.stage = .clear) ∧ (wantTest y).seq = y.seq := by
  cases hw : wantHolds y
  · rw [wantTest_idle hw]
    exact ⟨⟨rfl, rfl⟩, Iff.rfl, rfl⟩
  · obtain ⟨-, hst, hskips, -⟩ := (wantHolds_iff y).mp hw
    have htakes := takesDefrost_of_wants hskips
    have hlow : y.frost.account < 3200 := hcalm.resolve_right (by rw [htakes]; exact nofun)
    have hclear : y.frost.stage ≠ .clear := by rcases hst with h | h <;> simp [h]
    cases hline : y.line.active
    · have hheld := held_wantTest_clear hw hlow hline
      have hparts : ∀ z : Held, held (wantTest y) = z → (wantTest y).filter = z.filter ∧ (wantTest y).fan.probeHold = z.fan.probeHold
          ∧ (wantTest y).frost = z.frost ∧ (wantTest y).seq = z.seq :=
        fun z h => ⟨congrArg Held.filter h, probeHold_of_held h, congrArg Held.frost h, congrArg Held.seq h⟩
      obtain ⟨hfilter, hhold, hfrost, hseq⟩ := hparts _ hheld
      rw [ProbeStands, hfilter, hhold, hfrost, hseq]
      split
      · exact ⟨⟨rfl, rfl⟩, iff_of_false nofun hclear, rfl⟩
      · exact ⟨⟨rfl, rfl⟩, iff_of_false nofun hclear, rfl⟩
    · rw [wantTest_line hw hline, orderDefrost_frost htakes] at hd
      exact absurd rfl hd

theorem setStage_stands {st : FrostStage} {s : State} (h : s.frost.stage = .clear → st = .clear) :
    ProbeStands s (setStage st s) := by
  have hheld := held_setStage st s
  have hleaves : leavesClear s.frost st = false := by
    unfold leavesClear
    by_cases hc : s.frost.stage = .clear
    · simp [hc, h hc]
    · simp [hc]
  rw [hleaves] at hheld
  refine ⟨congrArg Held.filter hheld, (probeHold_of_held hheld).trans ?_⟩
  simp

theorem movedBy_stands {a : Nat} {x : State} (hcalm : Calm a x) (h : x.frost.stage = .clear → stageTaken a x.frost = .clear) :
    ProbeStands x (movedBy a x) := by
  unfold movedBy
  split
  case isTrue => exact ⟨rfl, rfl⟩
  case isFalse hne =>
    rw [stageTaken, if_neg hne] at h
    unfold moveStage
    split
    · exact ⟨rfl, rfl⟩
    · have hidle : forcedHolds (setStage (stageAfterChange x.frost.stage a) (setAccount a x)) = false := by
        refine forcedHolds_calm ?_
        rw [Calm, setStage_frost]
        simpa [Calm] using hcalm
      rw [forcedTest_idle hidle]
      exact setStage_stands (s := setAccount a x) h

/-- A record that leaves the humidity monitor's state starts no boost, and leaves a probe. -/
theorem humidTakesRecord_stands {m : HalfRecord} {s : State} (h : (humidTakesRecord m s).humid.state = s.humid.state) :
    ProbeStands s (humidTakesRecord m s) := by
  rcases probeKept_humidTakesRecord m s with h' | -
  · exact h'
  · revert h
    unfold humidTakesRecord
    split
    case isFalse => exact fun _ => ⟨rfl, rfl⟩
    case isTrue =>
      split
      case h_2 => exact fun _ => ⟨rfl, rfl⟩
      case h_1 mo rh _ _ =>
        unfold humidRecord
        split
        · exact fun _ => ⟨rfl, rfl⟩
        · exact fun _ => ⟨rfl, rfl⟩
        case h_3 hst =>
          split
          · unfold watchRecord
            split
            · have hboost : (startBoost s).humid.state = .boosting := congrArg (fun y : Held => y.humid.state) (held_startBoost s)
              rw [hboost, hst]
              exact nofun
            · exact fun _ => ⟨rfl, rfl⟩
          · exact fun _ => ⟨rfl, rfl⟩
        · unfold boostRecord
          dsimp only
          split
          · have hheld := held_endBoost (restingState s) s
            exact fun _ => ⟨congrArg Held.filter hheld, probeHold_of_held hheld⟩
          · exact fun _ => ⟨rfl, rfl⟩
        · unfold rearmRecord
          split
          · split <;> exact fun _ => ⟨rfl, rfl⟩
          · split <;> exact fun _ => ⟨rfl, rfl⟩

/-- Where frost stage and humidity state come out as they were, a probe stands. -/
theorem frostTurn_stands {m : HalfRecord} {x : State} (hstage : (frostTurn m x).frost.stage = x.frost.stage)
    (hhumid : (frostTurn m x).humid.state = x.humid.state) : ProbeStands x (frostTurn m x) := by
  have htaken := sheds_frostTakesRecord m x
  have hlast := sheds_frostAtBoundary (humidTakesRecord m (frostTakesRecord m x))
  have hhumid' : (humidTakesRecord m (frostTakesRecord m x)).humid.state = (frostTakesRecord m x).humid.state := by
    rw [htaken.humid, ← hhumid]
    exact (congrArg HumidRec.state hlast.humid).symm
  have hmid := humidTakesRecord_stands hhumid'
  have hagrees := agrees_humidTakesRecord m (frostTakesRecord m x)
  unfold frostTurn at hstage ⊢
  by_cases hout : x.frost.stage = .defrosting ∨ x.frost.stage = .blind
  · have hsame : frostTakesRecord m x = x := if_neg fun h => hout.elim h.2.2.1 h.2.2.2
    rw [hsame] at hmid hagrees ⊢
    have hidle : frostAtBoundary (humidTakesRecord m x) = humidTakesRecord m x := by
      refine frostAtBoundary_idle ?_ (.inl ?_)
      · rw [hagrees.forced]
        rcases hout with h | h <;> simp [forcedHolds, h]
      · rw [hagrees.frost]
        rcases hout with h | h <;> simp [h]
    rw [hidle]
    exact hmid
  · obtain ⟨hd, hb⟩ := not_or.mp hout
    have hcalm : Calm (accountTaken m x) x := by
      by_contra hnot
      obtain ⟨hhigh, htakes⟩ := not_or.mp hnot
      have hforced := frostTurn_forced (m := m) (x := x) (by omega) (by simpa using htakes) hd hb
      exact hd (hstage.symm.trans hforced.stage)
    obtain ⟨hmfrost, hmseq, -, hmforced⟩ := movedBy_calm hcalm
    have hmcalm : Calm (movedBy (accountTaken m x) x).frost.account (movedBy (accountTaken m x) x) := by
      rw [Calm, hmfrost, hmseq]
      exact hcalm
    have hy : ProbeStands (movedBy (accountTaken m x) x) (frostTakesRecord m x)
        ∧ ((frostTakesRecord m x).frost.stage = .clear ↔ (movedBy (accountTaken m x) x).frost.stage = .clear)
        ∧ (frostTakesRecord m x).seq = x.seq := by
      by_cases ht : testedBy m x
      · have hform : frostTakesRecord m x = wantTest (movedBy (accountTaken m x) x) := by
          rw [frostTakesRecord_tested ht, hmforced]
        have hnot : (frostTakesRecord m x).frost.stage ≠ .defrosting := by
          intro hdef
          rw [frostAtBoundary_defrosting (by rw [hagrees.frost]; exact hdef), hagrees.frost, hdef] at hstage
          exact hd hstage.symm
        rw [hform] at hnot ⊢
        obtain ⟨h1, h2, h3⟩ := wantTest_stands hmcalm hnot
        exact ⟨h1, h2, h3.trans hmseq⟩
      · obtain ⟨hsame, ha⟩ := frostTakesRecord_untested ht
        have hx : movedBy (accountTaken m x) x = x := by rw [ha, movedBy, if_pos rfl]
        rw [hsame, hx]
        exact ⟨⟨rfl, rfl⟩, Iff.rfl, rfl⟩
    obtain ⟨hystands, hyclear, hyseq⟩ := hy
    have hzcalm : Calm (humidTakesRecord m (frostTakesRecord m x)).frost.account (humidTakesRecord m (frostTakesRecord m x)) := by
      rw [Calm, hagrees.frost, hagrees.seq, hyseq, accountTaken_frostTakesRecord]
      exact hcalm
    have hw : ProbeStands (humidTakesRecord m (frostTakesRecord m x)) (frostAtBoundary (humidTakesRecord m (frostTakesRecord m x)))
        ∧ ((frostAtBoundary (humidTakesRecord m (frostTakesRecord m x))).frost.stage = .clear
          ↔ (frostTakesRecord m x).frost.stage = .clear) := by
      rw [← hagrees.frost]
      have hform := hstage
      unfold frostAtBoundary at hform ⊢
      dsimp only at hform ⊢
      rw [forcedTest_idle (forcedHolds_calm hzcalm)] at hform ⊢
      split
      case isTrue hdef =>
        rw [if_pos hdef] at hform
        obtain ⟨h1, h2, -⟩ := wantTest_stands hzcalm (by rw [hform]; exact hd)
        exact ⟨h1, h2⟩
      case isFalse => exact ⟨⟨rfl, rfl⟩, Iff.rfl⟩
    obtain ⟨hwstands, hwclear⟩ := hw
    refine ((movedBy_stands hcalm fun hc => ?_).trans hystands).trans (hmid.trans hwstands)
    have hmclear := hyclear.mp (hwclear.mp (hstage.trans hc))
    rw [hmfrost] at hmclear
    exact hmclear

end Sys2Proof.Proofs

/-! The judgement of a probe half at a half boundary, and the theorem of O60. -/

namespace Sys2Proof.Proofs

open Sys2Proof.Machine

/-! ## The half in its turn of the cycle -/

theorem cycleAtBoundary_stands {d : Dir} {s : State} (he : entryTest s = false) : ProbeStands s (cycleAtBoundary d s) := by
  unfold cycleAtBoundary
  rw [he, if_neg (nomatch ·)]
  split
  · exact ⟨rfl, rfl⟩
  · have h := held_beginReversing (laneDirectionNow s).target s
    have hg : ¬((laneDirectionNow s).target = .defrost ∨ (laneDirectionNow s).target = .through) := by
      cases laneDirectionNow s <;> simp [Dir.target]
    exact ⟨(congrArg Held.filter h).trans (if_neg hg), (probeHold_of_held h).trans (by simp [hg])⟩

theorem turned_stands {len : Nat} {e : Time} {s : State} {d : Dir} (hst : s.seq.state = d.state)
    (hsummer : s.house.summer = false) (hprobing : s.filter.probing = true) : ProbeStands s (turned len e s) := by
  have hform : sequencerAtBoundary (settleAtBoundary (advanceClock len e s))
      = cycleAtBoundary d (settleAtBoundary (advanceClock len e s)) := by
    have hq : (settleAtBoundary (advanceClock len e s)).seq.state = d.state := hst
    unfold sequencerAtBoundary
    rw [hq]
    cases d <;> rfl
  have hentry : entryTest (settleAtBoundary (advanceClock len e s)) = false := by
    have hh : (settleAtBoundary (advanceClock len e s)).house.summer = false := hsummer
    rw [entryTest, hh]
    rfl
  have hcycle := cycleAtBoundary_stands (d := d) hentry
  have hfan : (turned len e s).fan = (cycleAtBoundary d (settleAtBoundary (advanceClock len e s))).fan := by
    rw [← hform]
    exact (startTestAtBoundary_same _ _).2.2.2.1
  have hstart := startTestAtBoundary_filter (settleAtBoundary (advanceClock len e s)).seq.state
    (sequencerAtBoundary (settleAtBoundary (advanceClock len e s)))
  rw [hform] at hstart
  have hkept : (cycleAtBoundary d (settleAtBoundary (advanceClock len e s))).filter = s.filter := hcycle.1
  refine ⟨?_, by rw [hfan]; exact hcycle.2⟩
  rcases hstart with h | ⟨hw, -⟩
  · refine Eq.trans ?_ (h.trans hkept)
    rw [← hform]
    rfl
  · rw [hkept] at hw
    simp [FilterRec.probing, hw] at hprobing

/-- The state in which a probe half is judged. -/
def judging (len : Nat) (e : Time) (s : State) : State :=
  liftHold (outdoorTakesRecord (formRecord s) (closeRecord (formRecord s) (turned len e s)))

/-- What the judgement finds where the turn has left the probe. -/
theorem judging_found {len : Nat} {e : Time} {s : State} (h : ProbeStands s (turned len e s)) :
    (judging len e s).filter = { s.filter with holdPlaced := false } ∧ (judging len e s).fan.probeHold = false
      ∧ (judging len e s).now = s.now ∧ (judging len e s).loader = s.loader ∧ (judging len e s).cfg = s.cfg
      ∧ (judging len e s).climate.ring = (recorded len e s).climate.ring := by
  obtain ⟨hfilter, -, hnow, hloader⟩ := outdoorTakesRecord_probe (formRecord s) (turned len e s)
  have hlift (y : State) : (liftHold y).filter = { y.filter with holdPlaced := false } ∧ (liftHold y).fan.probeHold = false
      ∧ (liftHold y).now = y.now ∧ (liftHold y).loader = y.loader ∧ (liftHold y).cfg = y.cfg
      ∧ (liftHold y).climate = y.climate := ⟨rfl, rfl, rfl, rfl, rfl, rfl⟩
  obtain ⟨h1, h2, h3, h4, h5, h6⟩ := hlift (outdoorTakesRecord (formRecord s) (closeRecord (formRecord s) (turned len e s)))
  unfold judging
  rw [h1, h2, h3, h4, h5, h6, hfilter, h.1, hnow, hloader]
  refine ⟨rfl, rfl, ?_, ?_, ?_, ?_⟩
  · simp [turned, advanceClock]
  · simp [turned, advanceClock]
  · simp [turned, advanceClock, closeRecord, openCollection]
  · unfold recorded
    simp

theorem recorded_judged {len : Nat} {e : Time} {s : State} (h : ProbeStands s (turned len e s))
    (hprobing : s.filter.probing = true) (hstart : ∀ n, s.filter.halfStart = some n → n < s.now) :
    recorded len e s = judgeHalf (formRecord s) (judging len e s) := by
  have hfilter := (outdoorTakesRecord_probe (formRecord s) (turned len e s)).1.trans h.1
  have hclose : (formRecord s).close = s.now := rfl
  unfold recorded judging filterTakesRecord
  rw [hfilter, hprobing, hclose, if_pos]
  rw [Bool.true_and, Option.all_eq_true]
  exact fun n hn => decide_eq_true (hstart n hn)

/-! ## The judgement -/

theorem formRecord_direction {s : State} {d : Dir} (h : s.seq.state = d.state) : (formRecord s).direction = some d := by
  have hform : (formRecord s).direction = directionTag s.lane s.seq.state := rfl
  rw [hform, h]
  cases d <;> rfl

theorem halfAccepted_iff (r : HalfRecord) (f : FilterRec) : halfAccepted r f = true ↔ r.valid = true
    ∧ f.expected.isSome = true ∧ r.direction = f.expected ∧ f.speeds.length = 10 := by
  simp [halfAccepted, and_assoc]

/-- R129, R130: a second half is judged with the first, or the probe is abandoned. -/
theorem judgeHalf_second {r : HalfRecord} {y : State} (h : y.filter.probe = .secondHalf) :
    judgeHalf r y = if halfAccepted r y.filter = true ∧ firstStillValid y = true ∧ 0 < probeSpeed y.filter
      then probeResult (probeSpeed y.filter) y else dropProbe y := by
  unfold judgeHalf
  rw [h]
  cases he : y.filter.expected
  · have hnot : ¬halfAccepted r y.filter = true := by
      rw [halfAccepted_iff, he]
      exact fun hc => nomatch hc.2.1
    dsimp only
    rw [if_neg fun hc => hnot hc.1]
  · dsimp only
    simp only [Bool.and_eq_true, decide_eq_true_eq, and_assoc]

theorem requestWriteBack_filter (y : State) : (requestWriteBack y).filter = y.filter
    ∧ (requestWriteBack y).fan = y.fan
    ∧ (y.loader.writeEnabled = true → y.loader.inFlight = false →
      (requestWriteBack y).loader = { y.loader with inFlight := true, writeBytes := filterRecordBytes y.filter })
    ∧ (y.loader.writeEnabled = false → (requestWriteBack y).loader = y.loader) := by
  unfold requestWriteBack startWrite
  cases hw : y.loader.writeEnabled
  · exact ⟨rfl, rfl, (nomatch ·), fun _ => rfl⟩
  · cases hi : y.loader.inFlight
    · exact ⟨rfl, rfl, fun _ _ => rfl, (nomatch ·)⟩
    · exact ⟨rfl, rfl, fun _ => (nomatch ·), (nomatch ·)⟩

/-- The filter state after a load (R131). -/
def stateByLoad (c : ConfigRecord) (load : Nat) (f : FilterState) : FilterState :=
  if c.blockedRise ≤ load then .blocked else if c.dueRise ≤ load ∧ f = .clean then .due else f

/-- A filter record and the loader's reply to it: a write where `asks`, and none otherwise. -/
structure Written (asks : Prop) (f : FilterRec) (y w : State) : Prop where
  filter : w.filter = f
  fan : w.fan = y.fan
  writes : asks → y.loader.writeEnabled = true → y.loader.inFlight = false →
    w.loader = { y.loader with inFlight := true, writeBytes := filterRecordBytes f }
  stays : y.loader.writeEnabled = false ∨ ¬asks → w.loader = y.loader

theorem written_requestWriteBack {asks : Prop} (h : asks) (y : State) : Written asks y.filter y (requestWriteBack y) := by
  obtain ⟨hfilter, hfan, hwrites, hstays⟩ := requestWriteBack_filter y
  exact ⟨hfilter, hfan, fun _ => hwrites, fun hs => hs.elim hstays fun hn => absurd h hn⟩

theorem written_refl {asks : Prop} (h : ¬asks) (y : State) : Written asks y.filter y y :=
  ⟨rfl, rfl, fun hc => absurd hc h, fun _ => rfl⟩

theorem written_raiseFilter (f : FilterState) (y : State) :
    Written (f ≠ y.filter.state) { y.filter with state := f } y (raiseFilter f y) := by
  unfold raiseFilter
  split
  case isTrue h =>
    rw [← h]
    exact written_refl (fun hc => hc rfl) y
  case isFalse h =>
    obtain ⟨h1, h2, h3, h4⟩ := written_requestWriteBack (asks := f ≠ y.filter.state) (Ne.symm h)
      { y with filter := { y.filter with state := f } }
    exact ⟨h1, h2, h3, h4⟩

theorem written_filterByLoad (y : State) :
    Written (stateByLoad y.cfg y.filter.load y.filter.state ≠ y.filter.state)
      { y.filter with state := stateByLoad y.cfg y.filter.load y.filter.state } y (filterByLoad y) := by
  unfold filterByLoad stateByLoad
  by_cases hb : y.cfg.blockedRise ≤ y.filter.load
  · rw [if_pos hb, if_pos hb]
    exact written_raiseFilter .blocked y
  · rw [if_neg hb, if_neg hb]
    by_cases hd : y.cfg.dueRise ≤ y.filter.load
    · rw [if_pos hd]
      by_cases hc : y.filter.state = .clean
      · rw [if_pos hc, if_pos ⟨hd, hc⟩]
        exact written_raiseFilter .due y
      · rw [if_neg hc, if_neg fun h => hc h.2]
        exact written_refl (fun h => h rfl) y
    · rw [if_neg hd, if_neg fun h => hd h.1]
      exact written_refl (fun h => h rfl) y

theorem loadOf_int (sp s0 : Nat) :
    (loadOf sp s0 : Int) = max 0 (min 999 ((((sp : Int) - (s0 : Int)) * 1000).tdiv (s0 : Int))) := by
  unfold loadOf
  rw [clampInt_eq (by decide)]
  omega

/-- R130, R131: the result of a probe. -/
theorem written_probeResult (sp : Nat) (y : State) :
    (y.filter.baseline = 0 → Written True { probeOver y.filter with baseline := sp, load := 0 } y (probeResult sp y))
      ∧ (y.filter.baseline ≠ 0 → Written (stateByLoad y.cfg (loadOf sp y.filter.baseline) y.filter.state ≠ y.filter.state)
          { probeOver y.filter with
            load := loadOf sp y.filter.baseline
            state := stateByLoad y.cfg (loadOf sp y.filter.baseline) y.filter.state } y (probeResult sp y)) := by
  unfold probeResult
  refine ⟨fun h => ?_, fun h => ?_⟩
  · rw [if_pos h]
    obtain ⟨h1, h2, h3, h4⟩ := written_requestWriteBack trivial
      { y with filter := { probeOver y.filter with baseline := sp, load := 0 } }
    exact ⟨h1, h2, h3, h4⟩
  · rw [if_neg h]
    obtain ⟨h1, h2, h3, h4⟩ := written_filterByLoad
      { y with filter := { probeOver y.filter with load := loadOf sp y.filter.baseline } }
    exact ⟨h1, h2, h3, h4⟩

end Sys2Proof.Proofs

/-! The theorem of O60. -/

namespace Sys2Proof.Proofs

open Sys2Proof.Machine

theorem frostTurn_loader (m : HalfRecord) (x : State) : (frostTurn m x).loader = x.loader := by simp [frostTurn]

/-- Without a probe in progress the tests at a boundary leave the filter monitor. -/
theorem frostTurn_idle (m : HalfRecord) {x : State} (h : x.filter.probing = false) : ProbeStands x (frostTurn m x) := by
  rcases (frostTurn_probe m x).1 with h' | ⟨hf, hp⟩
  · exact h'
  · refine ⟨by rw [hf, abandoned_idle h], ?_⟩
    rw [hp, h]
    simp

/-- An accepted first half (R129). -/
theorem boundary_firstHalf {len : Nat} {e : Time} {s : State} {d : Dir} (hst : s.seq.state = d.state)
    (hsummer : s.house.summer = false) (hv : (formRecord s).valid = true) (hexp : s.filter.expected = some d)
    (hspeeds : s.filter.speeds.length = 10) (hstart : ∀ n, s.filter.halfStart = some n → n < s.now)
    (hprobe : s.filter.probe = .firstHalf) :
    (recorded len e s).filter = { s.filter with
        firstSpeed := some ⟨s.filter.speeds.sum / 10, d⟩, firstClose := some s.now
        halfStart := some s.now, expected := some d.other, speeds := [], probe := .secondHalf
        holdPlaced := false }
      ∧ (recorded len e s).fan.probeHold = false := by
  have hprobing : s.filter.probing = true := by simp [FilterRec.probing, hprobe]
  have hstands := turned_stands (len := len) (e := e) hst hsummer hprobing
  obtain ⟨hfilter, hhold, -, -, -, -⟩ := judging_found hstands
  rw [recorded_judged hstands hprobing hstart]
  have haccepted : halfAccepted (formRecord s) (judging len e s).filter = true := by
    rw [halfAccepted_iff, hfilter]
    exact ⟨hv, by rw [hexp]; rfl, by rw [formRecord_direction hst]; exact hexp.symm, hspeeds⟩
  have hform : judgeHalf (formRecord s) (judging len e s) = acceptFirst (formRecord s) d (judging len e s) := by
    unfold judgeHalf
    rw [haccepted, hfilter]
    dsimp only
    rw [hprobe, hexp]
    rfl
  have haccept (y : State) : (acceptFirst (formRecord s) d y).filter = { y.filter with
      firstSpeed := some ⟨windowSpeed y.filter, d⟩, firstClose := some (formRecord s).close
      halfStart := some (formRecord s).close, expected := some d.other, speeds := [], probe := .secondHalf }
      ∧ (acceptFirst (formRecord s) d y).fan = y.fan := ⟨rfl, rfl⟩
  rw [hform, (haccept _).1, (haccept _).2, hfilter]
  exact ⟨rfl, hhold⟩

/-- An accepted second half has its result (R130, R131). -/
theorem boundary_secondHalf {len : Nat} {e : Time} {s : State} {d : Dir} {f : FirstSpeed} {sp : Nat} (hst : s.seq.state = d.state)
    (hsummer : s.house.summer = false) (hv : (formRecord s).valid = true) (hexp : s.filter.expected = some d)
    (hspeeds : s.filter.speeds.length = 10) (hstart : ∀ n, s.filter.halfStart = some n → n < s.now)
    (hprobe : s.filter.probe = .secondHalf) (hfirst : s.filter.firstSpeed = some f)
    (hring : ∃ q ∈ (recorded len e s).climate.ring, s.filter.firstClose = some q.close ∧ q.valid = true)
    (hsp : sp = (f.rpm + s.filter.speeds.sum / 10) / 2) (hpos : 0 < sp) :
    recorded len e s = probeResult sp (judging len e s) := by
  have hprobing : s.filter.probing = true := by simp [FilterRec.probing, hprobe]
  have hstands := turned_stands (len := len) (e := e) hst hsummer hprobing
  obtain ⟨hfilter, -, -, -, -, hclimate⟩ := judging_found hstands
  have haccepted : halfAccepted (formRecord s) (judging len e s).filter = true := by
    rw [halfAccepted_iff, hfilter]
    exact ⟨hv, by rw [hexp]; rfl, by rw [formRecord_direction hst]; exact hexp.symm, hspeeds⟩
  have hvalid : firstStillValid (judging len e s) = true := by
    unfold firstStillValid
    rw [hclimate, hfilter, List.any_eq_true]
    obtain ⟨q, hq, hclose, hvq⟩ := hring
    exact ⟨q, hq, by simp [hclose, hvq]⟩
  have hspeed : probeSpeed (judging len e s).filter = sp := by
    rw [hfilter, hsp]
    unfold probeSpeed windowSpeed
    dsimp only
    rw [hfirst]
    rfl
  rw [recorded_judged hstands hprobing hstart, judgeHalf_second (by rw [hfilter]; exact hprobe), hspeed,
    if_pos ⟨haccepted, hvalid, hpos⟩]

/-- Anything else abandons the probe (R129, R130). -/
theorem boundary_unaccepted {len : Nat} {e : Time} {s : State} (hprobing : s.filter.probing = true)
    (hstart : ∀ n, s.filter.halfStart = some n → n < s.now)
    (h : (formRecord s).valid = false ∨ (formRecord s).direction ≠ s.filter.expected ∨ s.filter.speeds.length ≠ 10
      ∨ (s.filter.probe = .secondHalf ∧
        ((∀ q ∈ (recorded len e s).climate.ring, s.filter.firstClose = some q.close → q.valid = false)
          ∨ ∃ f, s.filter.firstSpeed = some f ∧ (f.rpm + s.filter.speeds.sum / 10) / 2 = 0))) :
    (recorded len e s).filter = { s.filter with
        probe := .waiting, abandonTime := some s.now, holdPlaced := false, speeds := []
        firstSpeed := none, firstClose := none, halfStart := none, expected := none }
      ∧ (recorded len e s).fan.probeHold = false := by
  have habandoned : abandoned s.now s.filter = { s.filter with
      probe := .waiting, abandonTime := some s.now, holdPlaced := false, speeds := []
      firstSpeed := none, firstClose := none, halfStart := none, expected := none } := by
    unfold abandoned
    rw [if_pos hprobing]
  rw [← habandoned]
  rcases turned_probe len e s with ⟨-, hfilter, hhold⟩ | ⟨-, hfilter, hhold⟩ | ⟨hw, -⟩
  · have hstands : ProbeStands s (turned len e s) := ⟨hfilter, hhold⟩
    obtain ⟨hjfilter, hjhold, hjnow, -, -, hjclimate⟩ := judging_found hstands
    rw [recorded_judged hstands hprobing hstart]
    have hdrop : (dropProbe (judging len e s)).filter = abandoned s.now s.filter
        ∧ (dropProbe (judging len e s)).fan.probeHold = false := by
      have hform (y : State) : (dropProbe y).filter = { y.filter with
          probe := .waiting, abandonTime := some y.now, holdPlaced := false, speeds := []
          firstSpeed := none, firstClose := none, halfStart := none, expected := none }
          ∧ (dropProbe y).fan.probeHold = false := ⟨rfl, rfl⟩
      rw [(hform _).1, (hform _).2, hjfilter, hjnow, habandoned]
      exact ⟨rfl, rfl⟩
    have hnot : halfAccepted (formRecord s) (judging len e s).filter = true → s.filter.probe = .secondHalf ∧
        ((∀ q ∈ (recorded len e s).climate.ring, s.filter.firstClose = some q.close → q.valid = false)
          ∨ ∃ f, s.filter.firstSpeed = some f ∧ (f.rpm + s.filter.speeds.sum / 10) / 2 = 0) := by
      intro hacc
      rw [halfAccepted_iff, hjfilter] at hacc
      obtain ⟨hv, -, hdir, hspeeds⟩ := hacc
      rcases h with h | h | h | h
      · rw [h] at hv
        cases hv
      · exact absurd hdir h
      · exact absurd hspeeds h
      · exact h
    have hprobe : s.filter.probe = .firstHalf ∨ s.filter.probe = .secondHalf := by
      unfold FilterRec.probing at hprobing
      revert hprobing
      cases s.filter.probe <;> simp
    rcases hprobe with hp | hp
    · rcases judgeHalf_first (r := formRecord s) (y := judging len e s) (by rw [hjfilter]; exact hp) with ⟨d, ⟨-, hacc⟩, -⟩ | hj
      · rw [hp] at hnot
        exact nomatch (hnot hacc).1
      · rw [hj]
        exact hdrop
    · rw [judgeHalf_second (by rw [hjfilter]; exact hp), if_neg]
      · exact hdrop
      · rintro ⟨hacc, hvalid, hpos⟩
        rcases (hnot hacc).2 with hring | ⟨f, hf, hzero⟩
        · unfold firstStillValid at hvalid
          rw [hjclimate, hjfilter, List.any_eq_true] at hvalid
          obtain ⟨q, hq, hboth⟩ := hvalid
          simp only [Bool.and_eq_true, decide_eq_true_eq] at hboth
          rw [hring q hq hboth.1] at hboth
          exact nomatch hboth.2
        · rw [hjfilter] at hpos
          unfold probeSpeed windowSpeed at hpos
          dsimp only at hpos
          rw [hf] at hpos
          simp only [Option.map_some, Option.getD_some] at hpos
          omega
  · obtain ⟨hofilter, hofan, -⟩ := outdoorTakesRecord_probe (formRecord s) (turned len e s)
    have hidle : (outdoorTakesRecord (formRecord s) (closeRecord (formRecord s) (turned len e s))).filter.probing = false := by
      rw [hofilter, hfilter, abandoned_probing]
    unfold recorded
    rw [filterTakesRecord_idle (.inl hidle), hofilter, hofan]
    exact ⟨hfilter, hhold⟩
  · simp [FilterRec.probing, hw] at hprobing

/-- The humidity part of the first half of O60. -/
theorem record_feeds_humidity {r : HalfRecord} (hv : r.valid = true) (hd : r.direction = some .extract) {m : Moisture}
    (hm : r.moisture = some m) {rh : Int} (hrh : r.rh = some rh) (s : State) (step half ceil : Int)
    (hstep : step = 5 * (s.cfg.humidityStep : Int)) (hhalf : half = ((5 * s.cfg.humidityStep / 2 : Nat) : Int))
    (hceil : ceil = 10 * (s.cfg.rhCeiling : Int)) :
    (s.humid.state = .disabled → humidTakesRecord r s = s)
    ∧ (s.humid.state = .seeding → (humidTakesRecord r s).humid
        = { s.humid with state := .watching, baseline := some m.ah })
    ∧ (∀ b, s.humid.state = .watching → s.humid.baseline = some b →
      (step ≤ m.ah - b ∨ ceil ≤ rh →
        (humidTakesRecord r s).humid = { s.humid with
          state := .boosting, boostStart := some s.now, falling := 0 }
        ∧ (humidTakesRecord r s).demand.stack
            = ⟨.humidity, ownNumber s, 90, none⟩ :: (without .humidity (ownNumber s) s.demand.stack).take 3
        ∧ probeAbandoned s.now s (humidTakesRecord r s)
        ∧ (humidTakesRecord r s).demand.requested = 90)
      ∧ ((m.ah : Int) - b < step → rh < ceil →
        ∃ b' : Nat, (b' : Int) = b + ((m.ah : Int) - b).tdiv 16
          ∧ humidTakesRecord r s = { s with humid := { s.humid with baseline := some b' } }))
    ∧ (∀ n, s.humid.state = .boosting →
      n = (match s.humid.baseline with
        | some b => if step ≤ m.ah - b then 0 else if (m.ah : Int) - b ≤ half then min 2 (s.humid.falling + 1)
            else s.humid.falling
        | none => if ceil ≤ rh then 0 else if rh < ceil - 50 then min 2 (s.humid.falling + 1)
            else s.humid.falling) →
      (n = 2 → rh < ceil - 50 →
        (humidTakesRecord r s).humid = { s.humid with
          state := if s.humid.baseline = none then .seeding else .watching, boostStart := none, falling := 0 }
        ∧ (humidTakesRecord r s).demand.stack = without .humidity (ownNumber s) s.demand.stack)
      ∧ (n ≠ 2 ∨ ceil - 50 ≤ rh → humidTakesRecord r s = { s with humid := { s.humid with falling := n } }))
    ∧ (s.humid.state = .rearming →
      (∀ b, s.humid.baseline = some b →
        ((m.ah : Int) - b ≤ half → ∃ b' : Nat, (b' : Int) = b + ((m.ah : Int) - b).tdiv 16
          ∧ humidTakesRecord r s = { s with humid := { s.humid with state := .watching, baseline := some b' } })
        ∧ (half < (m.ah : Int) - b → humidTakesRecord r s = s))
      ∧ (s.humid.baseline = none →
        (rh < ceil - 50 → humidTakesRecord r s
          = { s with humid := { s.humid with state := .watching, baseline := some m.ah } })
        ∧ (ceil - 50 ≤ rh → humidTakesRecord r s = s))) := by
  rw [humidTakesRecord_eq hv hd hm hrh]
  refine ⟨fun hst => by simp [humidRecord, hst], fun hst => by simp [humidRecord, hst], fun b hst hb => ?_,
    fun n hst hn => ?_, fun hst => ?_⟩
  · rw [humidRecord_watching hst hb, ← hstep, ← hceil]
    refine ⟨fun h => ?_, fun h1 h2 => ⟨_, baselineToward_int b m.ah, ?_⟩⟩
    · have hheld := held_startBoost s
      rw [if_pos h]
      exact ⟨congrArg Held.humid hheld, congrArg Held.stack hheld,
        probeAbandoned_of (congrArg Held.filter hheld) (probeHold_of_held hheld), congrArg Held.requested hheld⟩
    · rw [if_neg (by omega)]
  · have hcount : fallingAfter s m.ah rh = n := by
      rw [fallingAfter_eq, ← hstep, ← hhalf, ← hceil]
      exact hn.symm
    rw [humidRecord_boosting hst, hcount, ← hceil]
    refine ⟨fun h2 hrh' => ?_, fun h => ?_⟩
    · have hheld := held_endBoost (if s.humid.baseline = none then .seeding else .watching) s
      rw [if_pos ⟨h2, hrh'⟩]
      exact ⟨congrArg Held.humid hheld, congrArg Held.stack hheld⟩
    · rw [if_neg (by omega)]
  · obtain ⟨hsome, hnone⟩ := humidRecord_rearming (ah := m.ah) (rh := rh) hst
    refine ⟨fun b hb => ?_, fun hb => ?_⟩
    · rw [hsome b hb, ← hhalf]
      exact ⟨fun h => ⟨_, baselineToward_int b m.ah, if_pos h⟩, fun h => if_neg (by omega)⟩
    · rw [hnone hb, ← hceil]
      exact ⟨fun h => if_pos h, fun h => if_neg (by omega)⟩

/-- Settles O60: the record by itself, and the boundary that hands it on. -/
theorem recordsFeedTheMonitors : Obligations.RecordsFeedTheMonitors := by
  refine ⟨fun r s => ?_, fun t e s hr hrun he hle => ?_⟩
  · obtain ⟨hout, hin⟩ := record_feeds r s
    refine ⟨hout, fun hv hd => ?_⟩
    obtain ⟨hstage, haccount⟩ := hin hv hd
    exact ⟨hstage, haccount, fun m hm rh hrh step half ceil h1 h2 h3 =>
      record_feeds_humidity hv hd hm hrh s step half ceil h1 h2 h3⟩
  · have hm : (advance t s).frost = s.frost ∧ (advance t s).seq = s.seq ∧ (advance t s).cfg = s.cfg
        ∧ (advance t s).filter = s.filter ∧ (advance t s).now = timeAfter t s ∧ (advance t s).pending = s.pending
        ∧ (advance t s).humid = s.humid ∧ (advance t s).demand = s.demand ∧ (advance t s).climate = s.climate
        ∧ (advance t s).house = s.house ∧ (advance t s).loader = s.loader := by
      simp
    have hexec := exec_halfBoundary hr hrun he hle
    unfold boundary at hexec
    generalize advance t s = M at hm hexec
    generalize nextLength M = len at hexec
    generalize M.now + seconds len = e' at hexec
    obtain ⟨hfrost, hseq, hcfg, hfilter, hnow, hpending, hhumid, hdemand, hclimate, hhouse, hloader⟩ := hm
    obtain ⟨hffrost, -, hffilter, hfhold, -, hfclimate⟩ := finish_boundary M len e'
    have hheld := held_finish M (boundaryWith len e' M)
    obtain ⟨-, -, -, -, hchumid, hcstack, -, hcloader, -⟩ := closeBoundary_parts (frostTurn (handed len e' M) (recorded len e' M))
    rw [← boundaryWith_eq] at hchumid hcstack hcloader
    have hfhumid : (finish M (boundaryWith len e' M)).humid = _ := (congrArg Held.humid hheld).trans hchumid
    have hfstack : (finish M (boundaryWith len e' M)).demand.stack = _ := (congrArg Held.stack hheld).trans hcstack
    have hfloader : (finish M (boundaryWith len e' M)).loader = _ :=
      (congrArg Held.loader hheld).trans (hcloader.trans (frostTurn_loader _ _))
    refine ⟨_, formRecord M, hexec, ?_, ?_⟩
    · rw [hfclimate, recorded_ring, ringWith_last]
    rw [hffrost, hfhumid, hfstack, hfloader, hffilter, hfhold, hfclimate, frostTurn_account]
    rw [← hnow, ← hfrost, ← hseq, ← hcfg, ← hfilter, ← hpending, ← hhumid, ← hdemand, ← hclimate, ← hhouse, ← hloader]
    obtain ⟨hxstage, hxaccount⟩ := recorded_stage len e' M
    obtain ⟨hplain, hspoilt⟩ := handed_of_pending (len := len) (e := e') (s := M)
    have hxkept : (recorded len e' M).cfg = M.cfg ∧ (recorded len e' M).now = M.now
        ∧ (recorded len e' M).stationIndex = M.stationIndex := by
      obtain ⟨h1, -, h2, -⟩ := recorded_keeps len e' M
      exact ⟨h2, h1, by simp [recorded, turned, closeRecord, openCollection, advanceClock]⟩
    obtain ⟨hxcfg, hxnow, hxstation⟩ := hxkept
    refine ⟨fun hvalid => ?_, fun i o k t' rest hfront ht' hraises => ?_, fun hprobing hstart => ⟨fun d hst hsummer hv hexp hten =>
      ⟨fun hprobe hstage hstate => ?_, fun f sp hprobe hfirst hring hsp hpos => ?_⟩, fun hnot => ?_⟩⟩
    · rw [hplain hvalid, accountTaken_frostTakesRecord]
      refine ⟨accountTaken_of_frost hxstage hxaccount, fun hrest => ?_⟩
      obtain ⟨hxhumid, hxstack⟩ := recorded_humid len e' hrest
      exact frostTurn_humid _ hxhumid hxcfg hxnow hxstack hxstation
    · have hinvalid := hspoilt i o k t' rest hfront ht' hraises
      refine ⟨(if_neg fun h => by rw [hinvalid] at h; exact nomatch h.1).trans hxaccount, fun hrest => ?_⟩
      obtain ⟨hxhumid, hxstack⟩ := recorded_humid len e' hrest
      have hturn := frostTurn_humid (handed len e' M) (z := M) hxhumid hxcfg hxnow hxstack hxstation
      rwa [((record_feeds (handed len e' M) M).1 (.inl hinvalid)).2] at hturn
    · obtain ⟨hrfilter, hrhold⟩ := boundary_firstHalf (len := len) (e := e') hst hsummer hv hexp hten hstart hprobe
      obtain ⟨hxhumid, -⟩ := recorded_humid len e' (s := M) (by rw [hst]; exact (dir_state_runs d).1)
      have hstands := frostTurn_stands (hstage.trans hxstage.symm) (hstate.trans (congrArg HumidRec.state hxhumid).symm)
      rw [hstands.1, hstands.2]
      exact ⟨hrfilter, hrhold⟩
    · have hform := boundary_secondHalf (len := len) (e := e') hst hsummer hv hexp hten hstart hprobe hfirst hring hsp hpos
      obtain ⟨hjfilter, hjhold, -, hjloader, hjcfg, -⟩ := judging_found (turned_stands (len := len) (e := e') hst hsummer hprobing)
      obtain ⟨hzero, hsome⟩ := written_probeResult sp (judging len e' M)
      rw [← hform, hjfilter] at hzero
      rw [← hform, hjfilter, hjcfg] at hsome
      generalize judging len e' M = y at hjhold hjloader hzero hsome
      have hstands : (recorded len e' M).filter.probe = .idle → ProbeStands (recorded len e' M)
          (frostTurn (handed len e' M) (recorded len e' M)) :=
        fun h => frostTurn_idle _ (by rw [FilterRec.probing, h])
      by_cases hb : M.filter.baseline = 0
      · obtain ⟨hwfilter, hwfan, hwrites, hwstays⟩ := hzero hb
        obtain ⟨hsfilter, hshold⟩ := hstands (by rw [hwfilter]; rfl)
        rw [hjloader] at hwrites hwstays
        refine ⟨0, M.filter.state, fun _ => ⟨rfl, rfl⟩, fun h => absurd hb (by omega), ?_, ?_, fun hw hi _ => ?_, fun h => ?_⟩
        · rw [hsfilter, hwfilter, if_pos hb]
          rfl
        · rw [hshold, hwfan, hjhold]
        · rw [hwrites trivial hw hi, hsfilter, hwfilter]
        · exact hwstays (.inl (h.resolve_right fun h' => h'.1 hb))
      · obtain ⟨hwfilter, hwfan, hwrites, hwstays⟩ := hsome hb
        obtain ⟨hsfilter, hshold⟩ := hstands (by rw [hwfilter]; rfl)
        rw [hjloader] at hwrites hwstays
        refine ⟨loadOf sp M.filter.baseline, stateByLoad M.cfg (loadOf sp M.filter.baseline) M.filter.state,
          fun h => absurd h hb, fun _ => ⟨loadOf_int _ _, rfl⟩, ?_, ?_, fun hw hi h => ?_, fun h => ?_⟩
        · rw [hsfilter, hwfilter, if_neg hb]
          rfl
        · rw [hshold, hwfan, hjhold]
        · rw [hwrites (h.resolve_left hb) hw hi, hsfilter, hwfilter]
        · exact hwstays (h.imp_right fun h' => not_not.mpr h'.2)
    · obtain ⟨hrfilter, hrhold⟩ := boundary_unaccepted (len := len) (e := e') hprobing hstart hnot
      have hstands := frostTurn_idle (handed len e' M) (x := recorded len e' M) (by rw [hrfilter]; rfl)
      rw [hstands.1, hstands.2]
      exact ⟨hrfilter, hrhold⟩

end Sys2Proof.Proofs

/-! The band table, the density table and the dew point (the tables of O28). -/

namespace Sys2Proof.Proofs

open Sys2Proof.Machine

/-! ## The length of the next half -/

theorem bandTable_eq (row : Nat) (m : Mode) : bandTable row m = (match m with
    | .away => [90, 80, 60, 40]
    | .normal => [70, 60, 45, 30]
    | .high => [60, 50, 40, 25]).getD (min 3 row) 0 := by
  match row with
  | 0 => cases m <;> rfl
  | 1 => cases m <;> rfl
  | 2 => cases m <;> rfl
  | n + 3 =>
    rw [show min 3 (n + 3) = 3 by omega]
    cases m <;> rfl

theorem nextLength_cases (s : State) :
    (∀ n h, s.clock.reference = some n → n ≠ ownNumber s → s.clock.heardLength = some h → nextLength s = h)
    ∧ (s.clock.reference = none ∨ s.clock.reference = some (ownNumber s) ∨ s.clock.heardLength = none →
      nextLength s = ownLength s) := by
  unfold nextLength
  refine ⟨fun n h hn hne hh => ?_, fun h => ?_⟩
  · rw [hn, hh]
    exact if_neg hne
  · rcases h with h | h | h
    · rw [h]
    · rw [h]
      cases s.clock.heardLength
      · rfl
      · exact if_pos rfl
    · rw [h]
      cases s.clock.reference <;> rfl

theorem ownLength_cases (s : State) :
    (s.cfg.policy = .fixed → ownLength s = s.cfg.fixedLength)
    ∧ (s.cfg.policy = .tracked → ownLength s = (match (if s.house.summer then Mode.normal else s.house.mode) with
        | .away => [90, 80, 60, 40]
        | .normal => [70, 60, 45, 30]
        | .high => [60, 50, 40, 25]).getD (min 3 (houseRow s)) 0) := by
  unfold ownLength
  refine ⟨fun h => by rw [h], fun h => ?_⟩
  rw [h]
  exact bandTable_eq _ _

/-! ## The density table -/

/-- The table between two of its points (R62). -/
theorem density_between {i x : Nat} (hi : i < 14) (hx : x < 50) : density (50 * (i : Int) + (x : Int) - 300)
    = densityTable.getD i 0 + (densityTable.getD (i + 1) 0 - densityTable.getD i 0) * x / 50 := by
  have hpos : (clampInt (-300) 400 (50 * (i : Int) + (x : Int) - 300) + 300).toNat = 50 * i + x := by
    rw [clampInt_eq (by decide)]
    omega
  have hdiv : (50 * i + x) / 50 = i := by omega
  have hmod : (50 * i + x) % 50 = x := by omega
  unfold density
  dsimp only
  rw [hpos, hdiv, hmod, if_neg (by omega)]

theorem density_ends (T : Int) : (T ≤ -300 → density T = 45) ∧ (400 ≤ T → density T = 5117) := by
  refine ⟨fun h => ?_, fun h => ?_⟩
  · have hpos : (clampInt (-300) 400 T + 300).toNat = 0 := by
      rw [clampInt_eq (by decide)]
      omega
    unfold density
    dsimp only
    rw [hpos]
    rfl
  · have hpos : (clampInt (-300) 400 T + 300).toNat = 700 := by
      rw [clampInt_eq (by decide)]
      omega
    unfold density
    dsimp only
    rw [hpos]
    rfl

/-- The points of the table ascend. -/
theorem densityTable_mono {i j : Nat} (hij : i ≤ j) (hj : j < 15) : densityTable.getD i 0 ≤ densityTable.getD j 0 := by
  have h : ∀ j < 15, ∀ i ≤ j, densityTable.getD i 0 ≤ densityTable.getD j 0 := by decide
  exact h j hj i hij

/-- The number of points up to a density between two points. -/
theorem densityTable_below {i a : Nat} (hi : i < 14) (hlow : densityTable.getD i 0 ≤ a) (hhigh : a < densityTable.getD (i + 1) 0) :
    (densityTable.filter (· ≤ a)).length = i + 1 := by
  have hsplit : densityTable = densityTable.take (i + 1) ++ densityTable.drop (i + 1) := (List.take_append_drop _ _).symm
  have hlen : densityTable.length = 15 := rfl
  have hlower : (densityTable.take (i + 1)).filter (· ≤ a) = densityTable.take (i + 1) := by
    rw [List.filter_eq_self]
    intro x hx
    obtain ⟨j, hj, rfl⟩ := List.mem_iff_getElem.mp hx
    rw [List.length_take, hlen] at hj
    rw [List.getElem_take]
    have hmono := densityTable_mono (i := j) (j := i) (by omega) (by omega)
    rw [List.getD_eq_getElem _ _ (by omega)] at hmono
    exact decide_eq_true (hmono.trans hlow)
  have hupper : (densityTable.drop (i + 1)).filter (· ≤ a) = [] := by
    rw [List.filter_eq_nil_iff]
    intro x hx
    obtain ⟨j, hj, rfl⟩ := List.mem_iff_getElem.mp hx
    rw [List.length_drop, hlen] at hj
    rw [List.getElem_drop]
    have hmono := densityTable_mono (i := i + 1) (j := i + 1 + j) (by omega) (by omega)
    rw [List.getD_eq_getElem _ _ (show i + 1 + j < densityTable.length by omega)] at hmono
    simpa using hhigh.trans_le hmono
  rw [hsplit, List.filter_append, hlower, hupper, List.append_nil, List.length_take, hlen]
  omega

theorem dewPoint_between {i a : Nat} (hi : i < 14) (hlow : densityTable.getD i 0 ≤ a) (hhigh : a < densityTable.getD (i + 1) 0) :
    dewPoint a = -300 + 50 * (i : Int)
      + (((a - densityTable.getD i 0) * 50 / (densityTable.getD (i + 1) 0 - densityTable.getD i 0) : Nat) : Int) := by
  have hfirst : 45 ≤ a := (densityTable_mono (i := 0) (j := i) (by omega) (by omega)).trans hlow
  have hlast : a < 5117 := hhigh.trans_le (densityTable_mono (i := i + 1) (j := 14) (by omega) (by omega))
  have hcount := densityTable_below hi hlow hhigh
  unfold dewPoint
  rw [if_neg (by omega), if_neg (by omega)]
  dsimp only
  rw [hcount, Nat.add_sub_cancel]
  omega

end Sys2Proof.Proofs

/-! The half boundary: the clock, the closed record and the outdoor value (O28). -/

namespace Sys2Proof.Proofs

open Sys2Proof.Machine

/-! ## The closed record -/

theorem countsFor_eq (d : Option Dir) : (fun x : SampleSet => x.countsFor d)
    = fun x => decide (d ≠ none ∧ x.tag = d ∧ x.innerFault = false ∧ x.outerFault = false) := by
  funext x
  unfold SampleSet.countsFor
  cases d <;> cases x.innerFault <;> cases x.outerFault <;> simp

/-- The sets of a window that count for the record (R60). -/
def counted (s : State) : List SampleSet := s.climate.window.filter (·.countsFor (directionTag s.lane s.seq.state))

theorem formRecord_means (s : State) :
    (formRecord s).counted = (counted s).length ∧ ((formRecord s).valid = true ↔ (counted s).length = 8 ∧ s.seq.settling = 0)
      ∧ (formRecord s).inner = meanOf ((counted s).filterMap (·.inner))
      ∧ (formRecord s).outer = meanOf ((counted s).filterMap (·.outer))
      ∧ (formRecord s).rh = (if (counted s).length = 8 ∧ ∀ x ∈ counted s, x.rhFault = false
        then meanOf ((counted s).filterMap (·.rh)) else none) := by
  have hvalid : (formRecord s).valid = ((counted s).length == 8 && s.seq.settling == 0) := rfl
  have hinner : (formRecord s).inner = meanInt ((counted s).filterMap (·.inner)) := rfl
  have houter : (formRecord s).outer = meanInt ((counted s).filterMap (·.outer)) := rfl
  have hrh : (formRecord s).rh = recordRh (counted s) := rfl
  rw [hvalid, hinner, houter, hrh, recordRh, meanInt_eq_meanOf, meanInt_eq_meanOf, meanInt_eq_meanOf]
  refine ⟨rfl, by simp, rfl, rfl, ?_⟩
  simp only [List.all_eq_true, Bool.not_eq_true']

theorem formRecord_moisture (s : State) :
    (∀ h T, (formRecord s).direction = some .extract → (formRecord s).rh = some h → (formRecord s).inner = some T →
        (formRecord s).moisture = some ⟨h.toNat * density T / 1000, dewPoint (h.toNat * density T / 1000)⟩)
      ∧ ((formRecord s).direction ≠ some .extract ∨ (formRecord s).rh = none → (formRecord s).moisture = none) := by
  have hform : (formRecord s).moisture = moistureOf (formRecord s).direction (formRecord s).inner (formRecord s).rh := rfl
  rw [hform]
  refine ⟨fun h T hd hr hi => ?_, fun h => ?_⟩
  · rw [hd, hr, hi]
    rfl
  · unfold moistureOf
    split
    case h_1 hd _ hr =>
      rcases h with h | h
      · exact absurd rfl (hd ▸ h)
      · exact nomatch hr.symm.trans h
    case h_2 => rfl

theorem formRecord_duration (s : State) :
    ((formRecord s).direction = none → (formRecord s).duration = 0 ∧ (formRecord s).flowPercent = 0)
      ∧ ((formRecord s).direction ≠ none →
        (∀ o, s.climate.openTime = some o →
          (formRecord s).duration = min 600 ((s.now - max o (s.climate.lastCompletion.getD o)) / 250000))
        ∧ (formRecord s).flowPercent = if s.fan.probeHold = true then 50 else s.demand.flowPercent) := by
  have hduration : (formRecord s).duration
      = if (formRecord s).direction.isSome then durationOf s.climate s.now else 0 := rfl
  have hflow : (formRecord s).flowPercent
      = if (formRecord s).direction.isSome then (if s.fan.probeHold then 50 else s.demand.flowPercent) else 0 := rfl
  rw [hduration, hflow]
  refine ⟨fun h => by rw [h]; exact ⟨rfl, rfl⟩, fun h => ?_⟩
  obtain ⟨d, hd⟩ := Option.ne_none_iff_exists'.mp h
  rw [hd]
  refine ⟨fun o ho => ?_, rfl⟩
  rw [if_pos (c := (some d).isSome = true) rfl, durationOf, ho]
  cases s.climate.lastCompletion
  · rw [Option.getD_none, max_self]
  · rfl

/-! ## The outdoor value -/

/-- What the boundary's record makes of the outdoor values and the band (R66 to R68). -/
theorem outdoorTakesRecord_values (r : HalfRecord) (y : State) (hclose : r.close = y.now) :
    (r.valid = true → r.direction = some .supply →
        (outdoorTakesRecord r y).climate.ownOutdoor = r.outer
        ∧ (outdoorTakesRecord r y).climate.ownOutdoorTime = some y.now
        ∧ (outdoorTakesRecord r y).climate.outdoor = (if y.climate.outer.fault = true then none else r.outer)
        ∧ (∀ T, (outdoorTakesRecord r y).climate.outdoor = some T → y.climate.outdoor ≠ some T → y.climate.band ≤ 3 →
            (outdoorTakesRecord r y).climate.band = rowAfter y.climate.bandFormed y.climate.band T
            ∧ (outdoorTakesRecord r y).climate.bandFormed = true))
      ∧ (r.valid = false ∨ r.direction ≠ some .supply → outdoorTakesRecord r y = y) := by
  refine ⟨fun hv hd => ?_, fun h => ?_⟩
  · have hform : outdoorTakesRecord r y
        = evaluateOutdoor { y with climate := { y.climate with ownOutdoor := r.outer, ownOutdoorTime := some r.close } } :=
      if_pos ⟨hv, hd⟩
    rw [hform, hclose]
    obtain ⟨x, hx⟩ : ∃ x, x = ({ y with climate := { y.climate with
      ownOutdoor := r.outer, ownOutdoorTime := some y.now } } : State) := ⟨_, rfl⟩
    have hnow : outdoorNow x = if y.climate.outer.fault = true then none else r.outer := by
      rw [hx]
      unfold outdoorNow
      have hle : y.now ≤ y.now + seconds 1800 := Nat.le_add_right _ _
      rw [Option.any_some, decide_eq_true hle]
      rfl
    have hparts : (evaluateOutdoor x).climate.ownOutdoor = x.climate.ownOutdoor
        ∧ (evaluateOutdoor x).climate.ownOutdoorTime = x.climate.ownOutdoorTime
        ∧ (evaluateOutdoor x).climate.outdoor = outdoorNow x := by
      rw [evaluateOutdoor_climate]
      exact ⟨rfl, rfl, rfl⟩
    have hband := (evaluateOutdoor_band x).2
    rw [← hx, hparts.1, hparts.2.1, hparts.2.2]
    have hxclimate : x.climate = { y.climate with ownOutdoor := r.outer, ownOutdoorTime := some y.now } := by rw [hx]
    rw [hxclimate] at hband ⊢
    refine ⟨rfl, rfl, hnow, fun T hT hne hb => ?_⟩
    obtain ⟨hb', hf'⟩ := hband T hT hne
    refine ⟨?_, hf'⟩
    rw [hb']
    dsimp only
    cases y.climate.bandFormed
    · exact bandDirect_eq y.climate.band T
    · exact bandMove_eq hb T
  · refine if_neg ?_
    rintro ⟨hv, hd⟩
    rcases h with h | h
    · rw [h] at hv
      cases hv
    · exact h hd

/-- The climate record that the boundary leaves. -/
theorem recorded_climate (len : Nat) (e : Time) (s : State) :
    ∃ y : State, (recorded len e s).climate = (outdoorTakesRecord (formRecord s) y).climate ∧ y.now = s.now
      ∧ y.climate = { s.climate with
          ring := ringWith (formRecord s) s.climate.ring, openTime := some s.now, window := [], lastCompletion := none } := by
  refine ⟨closeRecord (formRecord s) (turned len e s), ?_, by simp [closeRecord, openCollection, turned, advanceClock], ?_⟩
  · unfold recorded
    simp
  · have hturned : (turned len e s).climate = s.climate ∧ (turned len e s).now = s.now := by simp [turned, advanceClock]
    have hform (y : State) : (closeRecord (formRecord s) y).climate = { y.climate with
        ring := ringWith (formRecord s) y.climate.ring, openTime := some y.now, window := [], lastCompletion := none } := rfl
    rw [hform, hturned.1, hturned.2]

theorem outdoorTakesRecord_collection (r : HalfRecord) (y : State) :
    (outdoorTakesRecord r y).climate.openTime = y.climate.openTime ∧ (outdoorTakesRecord r y).climate.window = y.climate.window
      ∧ (outdoorTakesRecord r y).climate.lastCompletion = y.climate.lastCompletion := by
  unfold outdoorTakesRecord
  split
  · rw [evaluateOutdoor_climate]
    exact ⟨rfl, rfl, rfl⟩
  · exact ⟨rfl, rfl, rfl⟩

/-! ## The counts of the filter monitor -/

/-- The counts of R123 and R124. -/
def runCounts (f : FilterRec) : Nat × Nat × Nat := (f.runHours, f.runSeconds, f.countdown)

theorem filterTakesRecord_counts (r : HalfRecord) (y : State) :
    runCounts (filterTakesRecord r y).filter = runCounts y.filter := by
  unfold filterTakesRecord
  split
  case isFalse => rfl
  case isTrue =>
    have hresult (sp : Nat) (z : State) : runCounts (probeResult sp z).filter = runCounts z.filter := by
      obtain ⟨hzero, hsome⟩ := written_probeResult sp z
      by_cases hb : z.filter.baseline = 0
      · rw [(hzero hb).filter]
        rfl
      · rw [(hsome hb).filter]
        rfl
    unfold judgeHalf
    split
    · split <;> rfl
    · split
      · exact hresult _ _
      · rfl
    all_goals rfl

theorem abandoned_counts (n : Time) (f : FilterRec) : runCounts (abandoned n f) = runCounts f := by
  unfold abandoned
  split <;> rfl

theorem frostTurn_counts (len : Nat) (e : Time) (s : State) :
    runCounts (frostTurn (handed len e s) (recorded len e s)).filter = runCounts s.filter := by
  have hturned : runCounts (turned len e s).filter = runCounts s.filter := by
    rcases turned_probe len e s with ⟨-, h, -⟩ | ⟨-, h, -⟩ | ⟨-, -, h | ⟨d, h⟩⟩
    · rw [h]
    · rw [h]
      exact abandoned_counts _ _
    · rw [h]
    · rw [h]
      rfl
  have hrecorded : runCounts (recorded len e s).filter = runCounts s.filter := by
    refine (filterTakesRecord_counts (formRecord s) _).trans ?_
    rw [(outdoorTakesRecord_probe _ _).1, hturned]
  rcases (frostTurn_probe (handed len e s) (recorded len e s)).1 with ⟨h, -⟩ | ⟨h, -⟩
  · rw [h]
    exact hrecorded
  · rw [h, abandoned_counts]
    exact hrecorded

/-- Settles O28: the boundary's clock, record and outdoor value, and the tables it reads. -/
theorem halfBoundaryMovesTheClock : Obligations.HalfBoundaryMovesTheClock := by
  refine ⟨fun t e s hr hrun he hle => ?_, fun s => ?_, fun rho hrho => ?_⟩
  · have hexec := exec_halfBoundary hr hrun he hle
    have hkept : held (advance t s) = held s := held_advance t s
    have hlen : nextLength (advance t s) = nextLength s := rfl
    have hnow : (advance t s).now = timeAfter t s := rfl
    have hactive : (advance t s).demand = s.demand ∧ (advance t s).fan.probeHold = s.fan.probeHold := by simp
    unfold boundary at hexec
    rw [hlen, hnow] at hexec
    generalize advance t s = M at hkept hexec hnow hactive
    generalize nextLength s = len at hexec
    generalize he' : timeAfter t s + seconds len = e' at hexec
    have hclock : M.clock = s.clock := congrArg Held.clock hkept
    have hseq : M.seq = s.seq := congrArg Held.seq hkept
    have hclimate : M.climate = s.climate := congrArg Held.climate hkept
    have hlane : M.lane = s.lane := congrArg Held.lane hkept
    have hfilter : M.filter = s.filter := congrArg Held.filter hkept
    obtain ⟨-, -, hffilter, -, -, hfclimate⟩ := finish_boundary M len e'
    have hsettled := boundaryWith_settling len e' M
    have hheld := held_finish M (boundaryWith len e' M)
    have hclosed := held_closeBoundary (frostTurn (handed len e' M) (recorded len e' M))
    rw [← boundaryWith_eq] at hclosed
    have hfclock : (finish M (boundaryWith len e' M)).clock = { M.clock with
        c := M.clock.c + 1, startTime := some M.now, length := len, endTime := some e' } := by
      have h : (boundaryWith len e' M).clock = (recorded len e' M).clock := by
        rw [boundaryWith_eq, (closeBoundary_parts _).2.2.1]
        simp [frostTurn]
      refine (congrArg Held.clock hheld).trans (h.trans ?_)
      simp [recorded, turned, closeRecord, openCollection, advanceClock]
    have hfactive : (finish M (boundaryWith len e' M)).demand.active = (finish M (boundaryWith len e' M)).demand.requested := by
      have h1 : (finish M (boundaryWith len e' M)).demand.active = _ := (congrArg Held.active hheld).trans (congrArg Held.active hclosed)
      have h2 : (finish M (boundaryWith len e' M)).demand.requested = _ :=
        (congrArg Held.requested hheld).trans (congrArg Held.requested hclosed)
      rw [h1, h2]
      rfl
    have hcounts := frostTurn_counts len e' M
    rw [← hffilter, hfilter] at hcounts
    obtain ⟨y, hyclimate, hynow, hyparts⟩ := recorded_climate len e' M
    obtain ⟨hopen, hwindow, hcompletion⟩ := outdoorTakesRecord_collection (formRecord M) y
    obtain ⟨hvalues, hsame⟩ := outdoorTakesRecord_values (formRecord M) y hynow.symm
    have hring : (finish M (boundaryWith len e' M)).climate.ring = ringWith (formRecord M) M.climate.ring := by
      rw [hfclimate, recorded_ring]
    rw [hyclimate] at hfclimate
    refine ⟨_, hexec, ?_, ⟨formRecord M, counted M, ?_⟩, ?_⟩
    · rw [hfclock, hclock, hnow]
    · obtain ⟨h1, h2, h3, h4, h5⟩ := formRecord_means M
      obtain ⟨h6, h7⟩ := formRecord_moisture M
      obtain ⟨h8, h9⟩ := formRecord_duration M
      have hdirection : (formRecord M).direction = (match s.seq.state with
          | .supply => some .supply
          | .extract | .defrost => some .extract
          | .through => some (if s.lane = .A then .supply else .extract)
          | _ => none) := by
        rw [← hseq, ← hlane]
        have hform : (formRecord M).direction = directionTag M.lane M.seq.state := rfl
        rw [hform]
        cases M.seq.state <;> cases M.lane <;> rfl
      have hcounted : counted M = s.climate.window.filter (fun x => decide ((formRecord M).direction ≠ none
          ∧ x.tag = (formRecord M).direction ∧ x.innerFault = false ∧ x.outerFault = false)) := by
        rw [← countsFor_eq, ← hclimate]
        rfl
      rw [hclimate, hnow] at h9
      rw [hactive.1, hactive.2] at h9
      rw [hseq] at h2
      rw [hynow, hyparts, hclimate, hnow] at hvalues
      refine ⟨?_, ?_, hnow, ?_, ?_, hdirection, hcounted, h1, h2, h3, h4, h5, h6, h7, h8, h9, fun hv hd => ?_, fun h => ?_⟩
      · rw [hring, hclimate]
        rfl
      · rw [← hclock]
        rfl
      · rw [← hseq]
        rfl
      · rw [← hseq]
        exact beq_iff_eq
      · rw [hfclimate]
        exact hvalues hv hd
      · rw [hfclimate, hsame h, hyparts, hclimate]
        exact ⟨rfl, rfl, rfl, rfl⟩
    · rw [hfclimate, hopen, hwindow, hcompletion, hyparts, hnow]
      have hslot : (finish M (boundaryWith len e' M)).line.statusSlot.pending = true := by
        refine finish_statusPending ?_
        rw [boundaryWith_eq]
        rfl
      have hmark : (finish M (boundaryWith len e' M)).line.statusMark = true := by
        rw [finish_statusMark, boundaryWith_eq]
        exact Bool.or_true _
      have hfsettling : (finish M (boundaryWith len e' M)).seq.settling = (boundaryWith len e' M).seq.settling := by
        rw [finish_seq]
      unfold runCounts at hcounts
      simp only [Prod.mk.injEq] at hcounts
      obtain ⟨hhours, hseconds, hcountdown⟩ := hcounts
      rw [hfsettling, hsettled, hseq]
      refine ⟨rfl, rfl, rfl, hfactive, rfl, hslot, hmark, ?_⟩
      rw [hhours, hseconds, hcountdown]
      have hline : (finish M (boundaryWith len e' M)).line.steady = (boundaryWith len e' M).line.steady := finish_line_steady _ _
      have hfan : (finish M (boundaryWith len e' M)).fan.steady = (boundaryWith len e' M).fan.steady := finish_fan_steady _ _
      have hctl : (finish M (boundaryWith len e' M)).ctl.steady = (boundaryWith len e' M).ctl.steady := finish_ctl_steady _ _
      have hslots : (finish M (boundaryWith len e' M)).line.modeSlot = M.line.modeSlot
          ∧ (finish M (boundaryWith len e' M)).line.boostSlot = M.line.boostSlot
          ∧ (finish M (boundaryWith len e' M)).line.transmission = M.line.transmission := by
        refine ⟨(steady_field (f := LineRec.modeSlot) (fun _ => rfl) hline).trans ?_,
          (steady_field (f := LineRec.boostSlot) (fun _ => rfl) hline).trans ?_,
          (steady_field (f := LineRec.transmission) (fun _ => rfl) hline).trans ?_⟩ <;> simp
      have hspeeds : (finish M (boundaryWith len e' M)).fan.periods = M.fan.periods
          ∧ (finish M (boundaryWith len e' M)).fan.speed = M.fan.speed := by
        have hp : (finish M (boundaryWith len e' M)).fan.steady.periods = (boundaryWith len e' M).fan.steady.periods :=
          congrArg FanRec.periods hfan
        have hs : (finish M (boundaryWith len e' M)).fan.steady.speed = (boundaryWith len e' M).fan.steady.speed :=
          congrArg FanRec.speed hfan
        have hp' : (boundaryWith len e' M).fan.periods = M.fan.periods := by simp
        have hs' : (boundaryWith len e' M).fan.speed = M.fan.speed := by simp
        exact ⟨hp.trans hp', hs.trans hs'⟩
      have hmline : M.line.steady = s.line.steady := congrArg Held.line hkept
      have hmfan : M.fan.steady = s.fan.steady := congrArg Held.fan hkept
      have hmperiods : M.fan.steady.periods = s.fan.steady.periods := congrArg FanRec.periods hmfan
      have hmspeed : M.fan.steady.speed = s.fan.steady.speed := congrArg FanRec.speed hmfan
      have hframe : (finish M (boundaryWith len e' M)).peers = M.peers ∧ (finish M (boundaryWith len e' M)).house = M.house
          ∧ (finish M (boundaryWith len e' M)).cfg = M.cfg ∧ (finish M (boundaryWith len e' M)).lane = M.lane
          ∧ (finish M (boundaryWith len e' M)).roomClass = M.roomClass
          ∧ (finish M (boundaryWith len e' M)).stationIndex = M.stationIndex
          ∧ (boundaryWith len e' M).ctl.steady = M.ctl.steady
          ∧ (finish M (boundaryWith len e' M)).pending = M.pending := by simp
      obtain ⟨hfpeers, hfhouse, hfcfg, hflane, hfroom, hfstation, hfctl, hfpending⟩ := hframe
      rw [hslots.1, hslots.2.1, hslots.2.2, hspeeds.1, hspeeds.2, hctl, hfctl]
      exact ⟨hfpeers.trans (congrArg Held.peers hkept), hfhouse.trans (congrArg Held.house hkept),
        hfcfg.trans (congrArg Held.cfg hkept), hflane.trans hlane, hfroom.trans (congrArg Held.roomClass hkept),
        hfstation.trans (congrArg Held.stationIndex hkept), rfl, rfl, rfl, hmperiods, hmspeed,
        steady_field (f := LineRec.modeSlot) (fun _ => rfl) hmline, steady_field (f := LineRec.boostSlot) (fun _ => rfl) hmline,
        steady_field (f := LineRec.transmission) (fun _ => rfl) hmline, congrArg Held.ctl hkept,
        hfpending.trans (congrArg Held.pending hkept)⟩
  · obtain ⟨hheard, hown⟩ := nextLength_cases s
    refine ⟨hheard, fun h => ?_⟩
    rw [hown h]
    exact ownLength_cases s
  · have htable (i : Nat) : rho i = densityTable.getD i 0 := hrho i
    refine ⟨fun i x hi hx => ?_, density_ends, fun i a hi hlow hhigh => ?_, fun a => ⟨fun h => if_pos h, fun h => ?_⟩⟩
    · rw [htable, htable]
      exact density_between hi hx
    · rw [htable] at hlow hhigh
      rw [htable, htable]
      exact dewPoint_between hi hlow hhigh
    · unfold dewPoint
      rw [if_neg (by omega), if_pos h]

end Sys2Proof.Proofs

/-! What a boundary does with each state of the sequencer. -/

namespace Sys2Proof.Proofs

open Sys2Proof.Machine

/-! ## The summer tests -/

theorem entryTest_iff (s : State) : entryTest s = true ↔
    s.house.summer = true ∧ ∃ T, s.climate.outdoor = some T ∧ 10 * (s.cfg.summerThreshold : Int) ≤ T := by
  unfold entryTest
  simp [Option.any_eq_true]

theorem exitTest_iff (s : State) : exitTest s = true ↔
    s.house.summer = false ∨ ∀ T, s.climate.outdoor = some T → T < 10 * (s.cfg.summerThreshold : Int) - 20 := by
  unfold exitTest
  cases s.climate.outdoor <;> simp [lt_sub_iff_add_lt]

/-! ## The turn of each state -/

theorem sequencerAtBoundary_cycle {d : Dir} {y : State} (h : y.seq.state = d.state) :
    sequencerAtBoundary y = cycleAtBoundary d y := by
  unfold sequencerAtBoundary
  rw [h]
  cases d <;> rfl

theorem sequencerAtBoundary_through {y : State} (h : y.seq.state = .through) : sequencerAtBoundary y
    = if exitTest y then
        (if laneDirectionNow y = summerDirection y.lane then enterDirect (laneDirectionNow y).state y
          else beginReversing (laneDirectionNow y).target y)
      else y := by
  unfold sequencerAtBoundary
  rw [h]

/-- The target of a reversal under way after a boundary. -/
def targetAtBoundary (g : Target) (y : State) : Target :=
  match g with
  | .supply | .extract => if entryTest y then .through else (laneDirectionNow y).target
  | .through => if exitTest y then (laneDirectionNow y).target else .through
  | .defrost => .defrost

theorem sequencerAtBoundary_reversing {g : Target} {y : State} (h : y.seq.state = .reversing) (ht : y.seq.target = some g) :
    sequencerAtBoundary y = retarget (targetAtBoundary g y) y := by
  unfold sequencerAtBoundary targetAtBoundary
  rw [h, ht]
  cases g
  case through =>
    dsimp only
    split
    · rfl
    · exact (retarget_same ht).symm
  case defrost => exact (retarget_same ht).symm
  all_goals rfl

theorem sequencerAtBoundary_still {y : State} (h : turnsNow y = false) : sequencerAtBoundary y = y := by
  unfold turnsNow at h
  unfold sequencerAtBoundary
  cases hs : y.seq.state <;> rw [hs] at h
  case rest =>
    dsimp only at h ⊢
    unfold rejoinAtBoundary
    rw [Option.isSome_eq_false_iff, Option.isNone_iff_eq_none] at h
    rw [h]
  all_goals simp_all

theorem sequencerAtBoundary_rejoin {r : Rejoin} {y : State} (h : y.seq.state = .rest) (hr : y.seq.rejoin = some r) :
    sequencerAtBoundary y = (if r = .deep then humidOnDeepExit else id)
      (beginReversing (if entryTest y then .through else (laneDirectionNow y).target)
        { y with seq := { y.seq with rejoin := none, restStart := none } }) := by
  unfold sequencerAtBoundary
  rw [h]
  dsimp only
  unfold rejoinAtBoundary
  rw [hr]
  dsimp only
  split <;> rfl

theorem humidOnDeepExit_others (y : State) :
    (humidOnDeepExit y).seq = y.seq ∧ (humidOnDeepExit y).fan = y.fan ∧ (humidOnDeepExit y).filter = y.filter := by
  unfold humidOnDeepExit
  split <;> exact ⟨rfl, rfl, rfl⟩

theorem humidOnDeepExit_humid (y : State) : (humidOnDeepExit y).humid = if y.humid.state = .disabled then y.humid
    else if y.humid.state = .boosting then { y.humid with baseline := none, falling := 0 }
    else { y.humid with state := .seeding, baseline := none } := by
  unfold humidOnDeepExit
  cases y.humid.state <;> rfl

/-- A retarget in terms of the reversal under way: where the direction stays, or in RUNDOWN, only the target
moves; SWITCH turns with a new dead time, and SPINUP begins anew. -/
theorem retarget_moves {g h : Target} {y : State} (hstate : y.seq.state = .reversing) (ht : y.seq.target = some h) :
    (retarget g y).seq.state = .reversing ∧ (retarget g y).seq.target = some g
      ∧ (g.direction y.lane = h.direction y.lane ∨ y.seq.phase = some .rundown →
        (retarget g y).seq.phase = y.seq.phase ∧ (retarget g y).seq.phaseStart = y.seq.phaseStart
          ∧ (retarget g y).fan.direction = y.fan.direction)
      ∧ (g.direction y.lane ≠ h.direction y.lane → y.seq.phase = some .switch →
        (retarget g y).seq.phase = some .switch ∧ (retarget g y).seq.phaseStart = some y.now
          ∧ (retarget g y).fan.direction = g.direction y.lane)
      ∧ (g.direction y.lane ≠ h.direction y.lane → y.seq.phase = some .spinup →
        (retarget g y).seq.phase = some (firstPhase y.fan.speed) ∧ (retarget g y).seq.phaseStart = some y.now
          ∧ (retarget g y).fan.driveOutput = 0 ∧ (retarget g y).fan.holdEnd = none) := by
  have hseq := retarget_seq (g := g) ht
  have hdirection : (retarget g y).fan.direction = (if g.direction y.lane = h.direction y.lane then y.fan.steady
      else turnedToward y.seq.phase (g.direction y.lane) y.fan.steady).direction :=
    congrArg (fun x : Held => x.fan.direction) (held_retarget (g := g) hstate ht)
  refine ⟨?_, ?_, fun hd => ?_, fun hd hp => ?_, fun hd hp => ?_⟩
  · rw [hseq]
    split <;> exact hstate
  · rw [hseq]
    split <;> rfl
  · rw [hseq, hdirection, if_pos (hd.imp_right .inr)]
    refine ⟨rfl, rfl, ?_⟩
    split
    · rfl
    · rw [hd.resolve_left ‹_›]
      rfl
  · rw [hseq, hdirection, if_neg (by simp [hd, hp]), if_neg hd, hp]
    exact ⟨rfl, rfl, rfl⟩
  · rw [hseq, if_neg (by simp [hd, hp]), hp]
    exact ⟨rfl, rfl, retarget_spinup ht hp hd⟩

/-! ## A boundary that finds a small account -/

/-- Without a valid record of EXTRACT, and with an account too small for a test, the monitors leave all. -/
theorem frostTurn_still {m : HalfRecord} {x : State} (h : m.valid = false ∨ m.direction ≠ some .extract)
    (ha : x.frost.account < 1600) : frostTurn m x = x := by
  obtain ⟨hf, hh⟩ := (record_feeds m x).1 h
  unfold frostTurn
  rw [hf, hh]
  refine frostAtBoundary_idle (forcedHolds_low (by omega)) (.inr ?_)
  rw [← Bool.not_eq_true, wantHolds_iff]
  omega

/-- The drive and the sequencer of two states are the same. -/
structure SameMotion (x y : State) : Prop where
  seq : y.seq = x.seq
  direction : y.fan.direction = x.fan.direction
  output : y.fan.driveOutput = x.fan.driveOutput
  hold : y.fan.holdEnd = x.fan.holdEnd

theorem SameMotion.trans {x y z : State} (h : SameMotion x y) (h' : SameMotion y z) : SameMotion x z :=
  ⟨h'.seq.trans h.seq, h'.direction.trans h.direction, h'.output.trans h.output, h'.hold.trans h.hold⟩

theorem sameMotion_movedBy {a : Nat} {x : State} (hlow : a < 3200) : SameMotion x (movedBy a x) := by
  unfold movedBy moveStage
  split
  · exact ⟨rfl, rfl, rfl, rfl⟩
  · split
    · exact ⟨rfl, rfl, rfl, rfl⟩
    · rw [forcedTest_idle (forcedHolds_low (by simpa using hlow))]
      exact ⟨by simp, by simp, by simp, by simp⟩

/-- With an account that stays below 1600 the frost guard and the humidity monitor move no drive and no sequencer. -/
theorem sameMotion_frostTurn {m : HalfRecord} {x : State} (hlow : accountTaken m x < 1600) : SameMotion x (frostTurn m x) := by
  have hcalm : Calm (accountTaken m x) x := .inl (by omega)
  obtain ⟨-, -, -, hforced⟩ := movedBy_calm hcalm
  have hquiet : wantHolds (movedBy (accountTaken m x) x) = false := by
    rw [← Bool.not_eq_true, wantHolds_movedBy hcalm]
    omega
  have hmotion := sameMotion_movedBy (x := x) (a := accountTaken m x) (by omega)
  have htaken : frostTakesRecord m x = movedBy (accountTaken m x) x := by
    by_cases ht : testedBy m x
    · rw [frostTakesRecord_tested ht, hforced, wantTest_idle hquiet]
    · obtain ⟨hsame, ha⟩ := frostTakesRecord_untested ht
      rw [hsame, ha, movedBy, if_pos rfl]
  have haccount : (movedBy (accountTaken m x) x).frost.account = accountTaken m x := by
    rw [← htaken, accountTaken_frostTakesRecord]
  have hagrees := agrees_humidTakesRecord m (movedBy (accountTaken m x) x)
  unfold frostTurn
  rw [htaken, frostAtBoundary_idle (forcedHolds_low (by rw [hagrees.frost, haccount]; omega))
    (.inr (hagrees.wants.trans hquiet))]
  exact hmotion.trans ⟨by simp, by simp, by simp, by simp⟩

theorem durationOf_le (c : ClimateRec) (n : Time) : durationOf c n ≤ 600 := by
  unfold durationOf
  split <;> omega

/-- One record takes an account from below 600 to less than 1600 (R74). -/
theorem accountByRecord_small {a : Nat} {r : HalfRecord} (ha : a < 600) (hp : r.flowPercent ≤ 100) (hd : r.duration ≤ 600) :
    accountByRecord a r < 1600 := by
  unfold accountByRecord
  split
  case h_2 => omega
  case h_1 exh _ =>
    have hgrowth (td : Int) : frostGrowth exh td r.flowPercent r.duration ≤ 1000 := by
      have hclamp : (clampInt 0 200 (td - exh)).toNat ≤ 200 := by
        rw [clampInt_eq (by decide)]
        omega
      have hproduct : (clampInt 0 200 (td - exh)).toNat * r.flowPercent * r.duration ≤ 200 * 100 * 600 :=
        Nat.mul_le_mul (Nat.mul_le_mul hclamp hp) hd
      unfold frostGrowth
      omega
    unfold accountAfterRecord
    split
    · have h := hgrowth ((r.moisture.map (·.td)).getD 100)
      omega
    · split <;> omega

/-- The state whose sequencer takes its turn at the boundary. -/
def ready (len : Nat) (e : Time) (s : State) : State := settleAtBoundary (advanceClock len e s)

theorem turned_eq (len : Nat) (e : Time) (s : State) :
    turned len e s = startTestAtBoundary s.seq.state (sequencerAtBoundary (ready len e s)) := rfl

/-- From a small account the boundary answers the drive and the sequencer of the sequencer's turn. -/
theorem sameMotion_boundary {len : Nat} {e : Time} {M : State} (ha : M.frost.account < 600) (hp : M.demand.flowPercent ≤ 100) :
    SameMotion (sequencerAtBoundary (ready len e M)) (finish M (boundaryWith len e M)) := by
  obtain ⟨-, hseq, -, hfan, -, -⟩ := startTestAtBoundary_same M.seq.state (sequencerAtBoundary (ready len e M))
  have hturned : SameMotion (sequencerAtBoundary (ready len e M)) (turned len e M) := by
    rw [turned_eq]
    exact ⟨hseq, by rw [hfan], by rw [hfan], by rw [hfan]⟩
  have hrecorded : SameMotion (turned len e M) (recorded len e M) := by
    unfold recorded closeRecord openCollection
    exact ⟨by simp, by simp, by simp, by simp⟩
  have haccount : (recorded len e M).frost.account = M.frost.account := by
    obtain ⟨-, -, -, -, -, hfrost, -⟩ := recorded_keeps len e M
    rw [hfrost]
    simp [turned, advanceClock]
  have hsmall : accountTaken (handed len e M) (recorded len e M) < 1600 := by
    unfold accountTaken
    rw [haccount]
    split
    · refine accountByRecord_small ha ?_ ?_
      · have hflow : (handed len e M).flowPercent
            = if (formRecord M).direction.isSome then (if M.fan.probeHold then 50 else M.demand.flowPercent) else 0 := rfl
        rw [hflow]
        (repeat' split) <;> omega
      · have hduration : (handed len e M).duration
            = if (formRecord M).direction.isSome then durationOf M.climate M.now else 0 := rfl
        rw [hduration]
        split
        · exact durationOf_le _ _
        · omega
    · omega
  have hclosed (y : State) : SameMotion y (finish M (closeBoundary y)) := by
    unfold closeBoundary
    exact ⟨by simp [takeRise, requestStatus], by simp [takeRise, requestStatus], by simp [takeRise, requestStatus],
      by simp [takeRise, requestStatus]⟩
  rw [boundaryWith_eq]
  exact ((hturned.trans hrecorded).trans (sameMotion_frostTurn hsmall)).trans (hclosed _)

end Sys2Proof.Proofs

/-! The theorem of O29. -/

namespace Sys2Proof.Proofs

open Sys2Proof.Machine

/-- A reversal begun at a boundary, as it stands in the answered state. -/
theorem beginReversing_begun (g : Target) (y : State) :
    (beginReversing g y).seq.state = .reversing ∧ (beginReversing g y).seq.target = some g
      ∧ (beginReversing g y).seq.phase = some (firstPhase y.fan.speed) ∧ (beginReversing g y).seq.phaseStart = some y.now
      ∧ (beginReversing g y).fan.driveOutput = 0 := by
  rw [beginReversing_seq]
  exact ⟨rfl, rfl, rfl, rfl, beginReversing_driveOutput g y⟩

/-- The turn out of a state of the cycle. -/
theorem cycleAtBoundary_turn (d : Dir) (y : State) :
    (entryTest y = false → laneDirectionNow y = d → cycleAtBoundary d y = y)
      ∧ (entryTest y = false → laneDirectionNow y = d.other → cycleAtBoundary d y = beginReversing d.other.target y)
      ∧ (entryTest y = true → summerDirection y.lane = d → cycleAtBoundary d y = enterDirect .through y)
      ∧ (entryTest y = true → summerDirection y.lane = d.other → cycleAtBoundary d y = beginReversing .through y) := by
  have hother : d.other ≠ d := by cases d <;> exact nofun
  unfold cycleAtBoundary
  refine ⟨fun he hd => ?_, fun he hd => ?_, fun he hd => ?_, fun he hd => ?_⟩
  · rw [he, if_neg nofun, if_pos hd]
  · rw [he, if_neg nofun, hd, if_neg hother]
  · rw [if_pos he, if_pos hd]
  · rw [if_pos he, hd, if_neg hother]

/-! ## The start of a probe -/

/-- The six conditions of 8.3 but for WAITING, before the settling count has fallen. -/
def MayStart (s : State) : Prop :=
  (∀ x, s.filter.abandonTime = some x → x < s.now) ∧ s.frost.stage = .clear ∧ s.seq.settling ≤ 1
    ∧ s.demand.stack = [] ∧ s.climate.inner.fault = false ∧ s.climate.outer.fault = false

theorem startTest_iff (y : State) : startTest y = true ↔ y.filter.probe = .waiting
    ∧ (∀ x, y.filter.abandonTime = some x → x < y.now) ∧ y.frost.stage = .clear ∧ y.seq.settling = 0
    ∧ y.demand.stack = [] ∧ y.climate.inner.fault = false ∧ y.climate.outer.fault = false := by
  unfold startTest
  cases y.filter.abandonTime <;> simp [and_assoc]

/-- The filter record after a test at the boundary, where the sequencer began a reversal of the cycle. -/
theorem startTest_begun {before : SeqState} {d : Dir} {s y : State} (hbefore : before ≠ .reversing) (hfilter : y.filter = s.filter)
    (hnow : y.now = s.now) (hfrost : y.frost = s.frost) (hsettling : y.seq.settling = s.seq.settling - 1)
    (hdemand : y.demand.stack = s.demand.stack) (hclimate : y.climate = s.climate) (hw : s.filter.probe = .waiting) :
    (MayStart s → (startTestAtBoundary before (beginReversing d.target y)).filter = { s.filter with
        probe := .firstHalf, expected := some d, halfStart := some s.now, abandonTime := none, holdPlaced := false
        speeds := [] })
      ∧ (¬MayStart s → (startTestAtBoundary before (beginReversing d.target y)).filter = s.filter) := by
  have hheld := held_beginReversing d.target y
  have hcycle : ¬(d.target = .defrost ∨ d.target = .through) := by cases d <;> simp [Dir.target]
  rw [if_neg hcycle] at hheld
  have hbfilter : (beginReversing d.target y).filter = s.filter := (congrArg Held.filter hheld).trans hfilter
  have hstage : (beginReversing d.target y).frost.stage = s.frost.stage := by
    rw [← hfrost, ← frostAfterSeq_stage (new := .reversing) (old := y.seq.state) (n := y.now) (f := y.frost) nofun nofun]
    exact congrArg (fun x : Held => x.frost.stage) hheld
  have hstack : (beginReversing d.target y).demand.stack = s.demand.stack := (congrArg Held.stack hheld).trans hdemand
  have hbnow : (beginReversing d.target y).now = s.now := by simpa using hnow
  have hbclimate : (beginReversing d.target y).climate = s.climate := by simpa using hclimate
  have hbsettling : (beginReversing d.target y).seq.settling = s.seq.settling - 1 := by
    rw [beginReversing_seq]
    exact hsettling
  have htarget : (beginReversing d.target y).seq.target.bind Target.cycleDirection = some d := by
    rw [beginReversing_seq]
    cases d <;> rfl
  have htest : startTest (beginReversing d.target y) = true ↔ MayStart s := by
    rw [startTest_iff, hbfilter, hbnow, hstage, hbsettling, hstack, hbclimate, Nat.sub_eq_zero_iff_le]
    exact ⟨fun h => h.2, fun h => ⟨hw, h⟩⟩
  have hform : startTestAtBoundary before (beginReversing d.target y)
      = if startTest (beginReversing d.target y) then startProbe d (beginReversing d.target y)
        else beginReversing d.target y := by
    unfold startTestAtBoundary
    rw [if_pos ⟨hbefore, (beginReversing_begun _ y).1⟩, htarget]
  rw [hform]
  refine ⟨fun h => ?_, fun h => ?_⟩
  · rw [if_pos (htest.mpr h)]
    have hprobe (z : State) : (startProbe d z).filter = { z.filter with
        probe := .firstHalf, expected := some d, halfStart := some z.now, abandonTime := none, holdPlaced := false
        speeds := [] } := rfl
    rw [hprobe, hbfilter, hbnow]
  · rw [if_neg (mt htest.mp h), hbfilter]

/-- A filter record that waits, or that starts at the boundary, is what the boundary's record leaves. -/
theorem recorded_filter {len : Nat} {e : Time} {M : State}
    (h : (turned len e M).filter.probing = false ∨ (turned len e M).filter.halfStart = some M.now) :
    (recorded len e M).filter = (turned len e M).filter := by
  obtain ⟨hfilter, -⟩ := outdoorTakesRecord_probe (formRecord M) (turned len e M)
  have hclose : (formRecord M).close = M.now := rfl
  unfold recorded
  rw [filterTakesRecord_idle (by rw [hfilter, hclose]; exact h), hfilter]

/-- With a small account and no valid record of EXTRACT the answered state has the humidity monitor of the
sequencer's turn and the filter record of the boundary's record. -/
theorem boundary_monitors {len : Nat} {e : Time} {M : State} (ha : M.frost.account < 600)
    (h : (formRecord M).valid = false ∨ (formRecord M).direction ≠ some .extract) :
    (finish M (boundaryWith len e M)).humid = (sequencerAtBoundary (ready len e M)).humid
      ∧ (finish M (boundaryWith len e M)).filter = (recorded len e M).filter := by
  obtain ⟨-, -, -, -, -, hfrost, -, hhumid, -⟩ := recorded_keeps len e M
  obtain ⟨hdirection, hvalid⟩ := handed_direction len e M
  have hnone : (handed len e M).valid = false ∨ (handed len e M).direction ≠ some .extract := by
    rcases h with h | h
    · refine .inl (Bool.not_eq_true _ ▸ fun hv => ?_)
      rw [hvalid hv] at h
      cases h
    · exact .inr (by rw [hdirection]; exact h)
  have haccount : (recorded len e M).frost.account = M.frost.account := by
    rw [hfrost]
    simp [turned, advanceClock]
  obtain ⟨-, -, -, -, hchumid, -, hcfilter, -⟩ := closeBoundary_parts (recorded len e M)
  obtain ⟨-, -, -, -, hshumid, -⟩ := startTestAtBoundary_same M.seq.state (sequencerAtBoundary (ready len e M))
  rw [boundaryWith_eq, frostTurn_still hnone (by omega)]
  refine ⟨?_, ?_⟩
  · rw [← hshumid, ← turned_eq, ← hhumid, ← hchumid]
    simp
  · rw [← hcfilter]
    simp

/-- The start of a probe at a reversal of the cycle that the boundary begins. -/
theorem boundary_starts {len : Nat} {e : Time} {M : State} {d : Dir} {y : State} (ha : M.frost.account < 600)
    (hrecord : (formRecord M).valid = false ∨ (formRecord M).direction ≠ some .extract) (hbefore : M.seq.state ≠ .reversing)
    (hturn : sequencerAtBoundary (ready len e M) = beginReversing d.target y) (hfilter : y.filter = M.filter)
    (hnow : y.now = M.now) (hfrost : y.frost = M.frost) (hsettling : y.seq.settling = M.seq.settling - 1)
    (hdemand : y.demand.stack = M.demand.stack) (hclimate : y.climate = M.climate) (hw : M.filter.probe = .waiting) :
    (MayStart M → (finish M (boundaryWith len e M)).filter = { M.filter with
        probe := .firstHalf, expected := some d, halfStart := some M.now, abandonTime := none, holdPlaced := false
        speeds := [] })
      ∧ (¬MayStart M → (finish M (boundaryWith len e M)).filter = M.filter) := by
  obtain ⟨hstarts, hwaits⟩ := startTest_begun (d := d) hbefore hfilter hnow hfrost hsettling hdemand hclimate hw
  rw [← hturn, ← turned_eq] at hstarts hwaits
  rw [(boundary_monitors ha hrecord).2]
  refine ⟨fun h => ?_, fun h => ?_⟩
  · rw [recorded_filter (.inr (by rw [hstarts h])), hstarts h]
  · rw [recorded_filter (.inl (by rw [hwaits h, FilterRec.probing, hw])), hwaits h]

/-- Outside SUPPLY, EXTRACT, THROUGH and REST a boundary leaves a waiting probe. -/
theorem boundary_waiting {len : Nat} {e : Time} {M : State} (hw : M.filter.probe = .waiting) (hsupply : M.seq.state ≠ .supply)
    (hextract : M.seq.state ≠ .extract) (hthrough : M.seq.state ≠ .through) (hrest : M.seq.state ≠ .rest) :
    (finish M (boundaryWith len e M)).filter = M.filter := by
  have hidle : M.filter.probing = false := by rw [FilterRec.probing, hw]
  have hkept := probeKept_sequencerAtBoundary (ready len e M)
  have hfilter : (sequencerAtBoundary (ready len e M)).filter = M.filter := by
    rw [(hkept.abandoned (hkept.probing hidle)).1]
    exact abandoned_idle hidle _
  have hturned : (turned len e M).filter = M.filter := by
    rw [turned_eq, ← hfilter]
    unfold startTestAtBoundary
    rw [if_neg]
    rintro ⟨hbefore, hafter⟩
    have hstill : turnsNow (ready len e M) = false := by
      have hstate : (ready len e M).seq.state = M.seq.state := rfl
      unfold turnsNow
      rw [hstate]
      cases hs : M.seq.state <;> simp_all
    rw [sequencerAtBoundary_still hstill] at hafter
    exact hbefore hafter
  have hrecorded := recorded_filter (len := len) (e := e) (M := M) (.inl (by rw [hturned]; exact hidle))
  obtain ⟨-, -, -, -, -, -, hcfilter, -⟩ := closeBoundary_parts (frostTurn (handed len e M) (recorded len e M))
  have hturn := (frostTurn_idle (handed len e M) (x := recorded len e M) (by rw [hrecorded, hturned]; exact hidle)).1
  rw [← hturned, ← hrecorded, ← hturn, ← hcfilter, boundaryWith_eq]
  simp

/-! ## The obligation -/

section
variable {len : Nat} {e : Time} {M : State}

theorem ready_cycle {d : Dir} (hs : M.seq.state = d.state) : sequencerAtBoundary (ready len e M) = cycleAtBoundary d (ready len e M) :=
  sequencerAtBoundary_cycle (y := ready len e M) hs

theorem ready_state (hs : turnsNow M = false) : sequencerAtBoundary (ready len e M) = ready len e M :=
  sequencerAtBoundary_still (y := ready len e M) hs

/-- SUPPLY and EXTRACT. -/
theorem boundary_cycle {d : Dir} {s' : State} (hs : M.seq.state = d.state)
    (hsame : SameMotion (sequencerAtBoundary (ready len e M)) s') :
    (entryTest M = false → laneDirection M.lane (M.clock.c + 1) = d → s'.seq.state = d.state)
    ∧ (entryTest M = false → laneDirection M.lane (M.clock.c + 1) = d.other →
        s'.seq.state = .reversing ∧ s'.seq.target = some d.other.target
          ∧ s'.seq.phase = some (firstPhase M.fan.speed) ∧ s'.seq.phaseStart = some M.now ∧ s'.fan.driveOutput = 0)
    ∧ (entryTest M = true → summerDirection M.lane = d → s'.seq.state = .through)
    ∧ (entryTest M = true → summerDirection M.lane = d.other →
        s'.seq.state = .reversing ∧ s'.seq.target = some .through
          ∧ s'.seq.phase = some (firstPhase M.fan.speed) ∧ s'.fan.driveOutput = 0) := by
  obtain ⟨hstay, hturn, henter, hreverse⟩ := cycleAtBoundary_turn d (ready len e M)
  rw [hsame.seq, hsame.output, ready_cycle hs]
  refine ⟨fun he hd => ?_, fun he hd => ?_, fun he hd => ?_, fun he hd => ?_⟩
  · rw [hstay he hd]
    exact hs
  · rw [hturn he hd]
    exact beginReversing_begun _ _
  · rw [henter he hd, enterDirect_seq]
  · rw [hreverse he hd]
    obtain ⟨hstate, htarget, hphase, -, houtput⟩ := beginReversing_begun .through (ready len e M)
    exact ⟨hstate, htarget, hphase, houtput⟩

/-- THROUGH. -/
theorem boundary_through {s' : State} (hs : M.seq.state = .through)
    (hsame : SameMotion (sequencerAtBoundary (ready len e M)) s') :
    (exitTest M = false → s'.seq.state = .through)
    ∧ (exitTest M = true → laneDirection M.lane (M.clock.c + 1) = summerDirection M.lane →
        s'.seq.state = (laneDirection M.lane (M.clock.c + 1)).state)
    ∧ (exitTest M = true → laneDirection M.lane (M.clock.c + 1) ≠ summerDirection M.lane →
        s'.seq.state = .reversing ∧ s'.seq.target = some (laneDirection M.lane (M.clock.c + 1)).target
          ∧ s'.seq.phase = some (firstPhase M.fan.speed) ∧ s'.fan.driveOutput = 0) := by
  have htest : exitTest (ready len e M) = exitTest M := rfl
  have hlane : laneDirectionNow (ready len e M) = laneDirection M.lane (M.clock.c + 1) := rfl
  have hsummer : summerDirection (ready len e M).lane = summerDirection M.lane := rfl
  rw [hsame.seq, hsame.output, sequencerAtBoundary_through (y := ready len e M) hs, htest, hlane, hsummer]
  refine ⟨fun he => ?_, fun he hd => ?_, fun he hd => ?_⟩
  · rw [he, if_neg nofun]
    exact hs
  · rw [if_pos he, if_pos hd, enterDirect_seq]
  · rw [if_pos he, if_neg hd]
    obtain ⟨hstate, htarget, hphase, -, houtput⟩ :=
      beginReversing_begun (laneDirection M.lane (M.clock.c + 1)).target (ready len e M)
    exact ⟨hstate, htarget, hphase, houtput⟩

/-- REVERSING. -/
theorem boundary_reversing {g : Target} {s' : State} (hs : M.seq.state = .reversing) (ht : M.seq.target = some g)
    (hsame : SameMotion (sequencerAtBoundary (ready len e M)) s') :
    ∃ g', s'.seq.state = .reversing ∧ s'.seq.target = some g'
      ∧ (g = .supply ∨ g = .extract → (entryTest M = true → g' = .through)
        ∧ (entryTest M = false → g' = (laneDirection M.lane (M.clock.c + 1)).target))
      ∧ (g = .through → (exitTest M = true → g' = (laneDirection M.lane (M.clock.c + 1)).target)
        ∧ (exitTest M = false → g' = .through))
      ∧ (g = .defrost → g' = .defrost)
      ∧ (g'.direction M.lane = g.direction M.lane ∨ M.seq.phase = some .rundown →
          s'.seq.phase = M.seq.phase ∧ s'.seq.phaseStart = M.seq.phaseStart ∧ s'.fan.direction = M.fan.direction)
      ∧ (g'.direction M.lane ≠ g.direction M.lane → M.seq.phase = some .switch →
          s'.seq.phase = some .switch ∧ s'.seq.phaseStart = some M.now ∧ s'.fan.direction = g'.direction M.lane)
      ∧ (g'.direction M.lane ≠ g.direction M.lane → M.seq.phase = some .spinup →
          s'.seq.phase = some (firstPhase M.fan.speed) ∧ s'.seq.phaseStart = some M.now
            ∧ s'.fan.driveOutput = 0 ∧ s'.fan.holdEnd = none) := by
  have hlane : laneDirectionNow (ready len e M) = laneDirection M.lane (M.clock.c + 1) := rfl
  have henter : entryTest (ready len e M) = entryTest M := rfl
  have hleave : exitTest (ready len e M) = exitTest M := rfl
  obtain ⟨hstate, htarget, hmoves⟩ :=
    retarget_moves (g := targetAtBoundary g (ready len e M)) (y := ready len e M) hs ht
  rw [hsame.seq, hsame.direction, hsame.output, hsame.hold, sequencerAtBoundary_reversing (y := ready len e M) hs ht]
  refine ⟨targetAtBoundary g (ready len e M), hstate, htarget, fun hg => ⟨fun h => ?_, fun h => ?_⟩,
    fun hg => ⟨fun h => ?_, fun h => ?_⟩, fun hg => ?_, hmoves⟩
  · rcases hg with rfl | rfl <;> simp [targetAtBoundary, henter, h]
  · rcases hg with rfl | rfl <;> simp [targetAtBoundary, henter, h, hlane]
  · subst hg
    simp [targetAtBoundary, hleave, h, hlane]
  · subst hg
    simp [targetAtBoundary, hleave, h]
  · subst hg
    rfl

/-- REST with a rejoin. -/
theorem boundary_rejoin {r : Rejoin} {s' : State} (hs : M.seq.state = .rest) (hr : M.seq.rejoin = some r)
    (hsame : SameMotion (sequencerAtBoundary (ready len e M)) s')
    (hhumid : s'.humid = (sequencerAtBoundary (ready len e M)).humid) :
    s'.seq.state = .reversing ∧ s'.seq.rejoin = none ∧ s'.seq.restStart = none
      ∧ (entryTest M = true → s'.seq.target = some .through)
      ∧ (entryTest M = false → s'.seq.target = some (laneDirection M.lane (M.clock.c + 1)).target)
      ∧ s'.seq.phase = some (firstPhase M.fan.speed) ∧ s'.seq.phaseStart = some M.now
      ∧ s'.humid = (if M.humid.state = .disabled ∨ r = .fast then { M.humid with nextRestCheck := none }
          else if M.humid.state = .boosting then { M.humid with baseline := none, falling := 0, nextRestCheck := none }
          else { M.humid with state := .seeding, baseline := none, nextRestCheck := none }) := by
  obtain ⟨y, hy⟩ : ∃ y, y = ({ ready len e M with
    seq := { (ready len e M).seq with rejoin := none, restStart := none } } : State) := ⟨_, rfl⟩
  obtain ⟨g, hg⟩ : ∃ g, g = (if entryTest M then Target.through else (laneDirection M.lane (M.clock.c + 1)).target) := ⟨_, rfl⟩
  have hturn : sequencerAtBoundary (ready len e M) = (if r = .deep then humidOnDeepExit else id) (beginReversing g y) := by
    rw [sequencerAtBoundary_rejoin (y := ready len e M) hs hr, hy, hg]
    rfl
  have hbhumid : (beginReversing g y).humid = { M.humid with nextRestCheck := none } := by
    refine (congrArg Held.humid (held_beginReversing g y)).trans ((if_pos ?_).trans ?_)
    · rw [hy]
      exact hs
    · rw [hy]
      rfl
  have hseq : (sequencerAtBoundary (ready len e M)).seq = (beginReversing g y).seq := by
    rw [hturn]
    split
    · exact (humidOnDeepExit_others _).1
    · rfl
  obtain ⟨hstate, htarget, hphase, hphaseStart, -⟩ := beginReversing_begun g y
  have hrest : (beginReversing g y).seq.rejoin = none ∧ (beginReversing g y).seq.restStart = none := by
    rw [beginReversing_seq, hy]
    exact ⟨rfl, rfl⟩
  have hkept : y.fan = M.fan ∧ y.now = M.now := by
    rw [hy]
    exact ⟨rfl, rfl⟩
  rw [hsame.seq, hseq, hhumid, hturn, hstate, htarget, hphase, hphaseStart, hkept.1, hkept.2]
  refine ⟨rfl, hrest.1, hrest.2, fun h => ?_, fun h => ?_, rfl, rfl, ?_⟩
  · rw [hg, if_pos h]
  · rw [hg, h, if_neg nofun]
  · cases r
    case fast =>
      rw [if_neg nofun, if_pos (.inr rfl)]
      exact hbhumid
    case deep =>
      rw [if_pos rfl, humidOnDeepExit_humid, hbhumid]
      dsimp only
      cases M.humid.state <;> simp

/-- A boundary at which a waiting probe may start. -/
theorem boundary_probe (ha : M.frost.account < 600) (hw : M.filter.probe = .waiting) (henter : entryTest M = false)
    (h : (∃ d : Dir, M.seq.state = d.state ∧ laneDirection M.lane (M.clock.c + 1) = d.other
        ∧ (d = .supply ∨ M.climate.window.length < 8))
      ∨ (M.seq.state = .rest ∧ M.seq.rejoin = some .fast)) :
    (MayStart M → (finish M (boundaryWith len e M)).filter = { M.filter with
        probe := .firstHalf, expected := some (laneDirection M.lane (M.clock.c + 1)), halfStart := some M.now
        abandonTime := none, holdPlaced := false, speeds := [] })
      ∧ (¬MayStart M → (finish M (boundaryWith len e M)).filter = M.filter) := by
  rcases h with ⟨d, hs, hlane, hshort⟩ | ⟨hs, hr⟩
  · have hrecord : (formRecord M).valid = false ∨ (formRecord M).direction ≠ some .extract := by
      rcases hshort with rfl | hshort
      · exact .inr (by rw [formRecord_direction (d := .supply) hs]; exact nofun)
      · refine .inl (Bool.not_eq_true _ ▸ fun hv => ?_)
        have hcounted := List.length_filter_le (SampleSet.countsFor · (directionTag M.lane M.seq.state)) M.climate.window
        have hvalid : ((M.climate.window.filter (SampleSet.countsFor · (directionTag M.lane M.seq.state))).length == 8
            && M.seq.settling == 0) = true := hv
        simp only [Bool.and_eq_true, beq_iff_eq] at hvalid
        omega
    have hturn : sequencerAtBoundary (ready len e M) = beginReversing d.other.target (ready len e M) := by
      rw [ready_cycle hs]
      exact (cycleAtBoundary_turn d (ready len e M)).2.1 henter hlane
    have hsettling : (ready len e M).seq.settling = M.seq.settling - 1 := if_neg fun h => by
      have hrest : M.seq.state = .rest := h.1
      rw [hs] at hrest
      cases d <;> cases hrest
    rw [hlane]
    exact boundary_starts ha hrecord (by rw [hs]; cases d <;> exact nofun) hturn rfl rfl rfl hsettling rfl rfl hw
  · have hturn := sequencerAtBoundary_rejoin (y := ready len e M) hs hr
    have htest : entryTest (ready len e M) = false := henter
    rw [if_neg nofun, htest, if_neg nofun] at hturn
    have hsettling : (ready len e M).seq.settling = M.seq.settling - 1 := if_neg fun h => by
      have hdeep : M.seq.rejoin = some .deep := h.2
      rw [hr] at hdeep
      cases hdeep
    refine boundary_starts (y := { ready len e M with seq := { (ready len e M).seq with rejoin := none, restStart := none } })
      ha (.inr ?_) (by rw [hs]; exact nofun) hturn rfl rfl rfl hsettling rfl rfl hw
    have hdirection : (formRecord M).direction = directionTag M.lane M.seq.state := rfl
    rw [hdirection, hs]
    exact nofun

end

/-- Settles O29: the sequencer's turn by its state, and what a small account leaves of it. -/
theorem boundaryTurnsTheCycle : Obligations.BoundaryTurnsTheCycle := by
  intro t e s lane enter leave hr hrun he hle hlow hflow hlane henter hleave
  have hm : (advance t s).frost = s.frost ∧ (advance t s).seq = s.seq ∧ (advance t s).demand = s.demand
      ∧ (advance t s).filter = s.filter ∧ (advance t s).now = timeAfter t s ∧ (advance t s).climate = s.climate
      ∧ (advance t s).humid = s.humid ∧ (advance t s).lane = s.lane ∧ (advance t s).clock = s.clock
      ∧ (advance t s).fan.speed = s.fan.speed ∧ (advance t s).fan.direction = s.fan.direction := by
    refine ⟨by simp, by simp, rfl, by simp, rfl, by simp, by simp, by simp, by simp, by simp, by simp⟩
  have hexec := exec_halfBoundary hr hrun he hle
  rw [← entryTest_iff] at henter
  rw [← exitTest_iff] at hleave
  have htests : entryTest (advance t s) = entryTest s ∧ exitTest (advance t s) = exitTest s := ⟨rfl, rfl⟩
  rw [← htests.1] at henter
  rw [← htests.2] at hleave
  unfold boundary at hexec
  generalize advance t s = M at hm hexec henter hleave
  generalize nextLength M = len at hexec
  generalize M.now + seconds len = e' at hexec
  obtain ⟨hfrost, hseq, hdemand, hfilter, hnow, hclimate, hhumid, hmlane, hclock, hspeed, hdirection⟩ := hm
  have hnotEnter : ¬enter ↔ entryTest M = false := by rw [henter, Bool.not_eq_true]
  have hnotLeave : ¬leave ↔ exitTest M = false := by rw [hleave, Bool.not_eq_true]
  have hsame := sameMotion_boundary (len := len) (e := e') (M := M) (by rw [hfrost]; exact hlow) (by rw [hdemand]; exact hflow)
  refine ⟨_, hexec, ?_⟩
  rw [hnotEnter, hnotLeave, henter, hleave, hlane, ← hmlane, ← hclock, ← hseq, ← hspeed, ← hnow, ← hdirection, ← hhumid, ← hfilter,
    ← hfrost, ← hdemand, ← hclimate]
  refine ⟨fun d hs => boundary_cycle hs hsame, fun hs => boundary_through hs hsame,
    fun g hs ht => boundary_reversing hs ht hsame, fun hs hrejoin => ?_, fun r hs hrejoin => ?_, fun hs => ?_,
    fun h hent hw => ?_, fun hsu hex hth hre hw => boundary_waiting hw hsu hex hth hre⟩
  · rw [hsame.seq, ready_state (by simp [turnsNow, hs, hrejoin])]
    exact ⟨hs, rfl⟩
  · refine boundary_rejoin hs hrejoin hsame (boundary_monitors (by rw [hfrost]; exact hlow) (.inr ?_)).1
    have hnone : (formRecord M).direction = directionTag M.lane M.seq.state := rfl
    rw [hnone, hs]
    exact nofun
  · rw [hsame.seq, ready_state (by rcases hs with h | h <;> simp [turnsNow, h])]
    rfl
  · obtain ⟨hstarts, hwaits⟩ := boundary_probe (len := len) (e := e') (by rw [hfrost]; exact hlow) hw hent h
    refine ⟨hstarts, fun hnot => hwaits ?_⟩
    rintro ⟨h1, h2, h3, h4, h5, h6⟩
    rcases hnot with ⟨x, hx, hle'⟩ | h | h | h | h | h
    · exact absurd (h1 x hx) (Nat.not_lt.mpr hle')
    · exact h h2
    · omega
    · exact h h4
    · rw [h5] at h
      cases h
    · rw [h6] at h
      cases h

end Sys2Proof.Proofs

/-! A valid frame from another station: what it is entered into, and what the calls do (O49, O50, O51). -/

namespace Sys2Proof.Proofs

open Sys2Proof.Machine

/-! ## The state that a frame finds -/

/-- The state in which a received frame is entered. -/
def opened (bs : List Byte) (t : Time) (s : State) : State := emptyAssembly (tailAfter bs .recessive) (advance t s)

theorem exec_frame {bs : List Byte} {k : FrameKind} {arrival t : Time} {s : State} (hr : s.inReset = false)
    (hstraps : s.strapsRead = true) (hactive : s.line.active = false) (htrans : s.line.transmission = none)
    (hassembly : s.line.assembly = []) (hbusy : ∀ b, s.line.busyUntil = some b → b ≤ arrival)
    (hk : frameKind bs = some k) (hlen : bs.length = k.length) (hsum : byteSum bs = 0)
    (hindex : frameIndex bs ≠ s.stationIndex.toNat) :
    exec (.frameReceived bs .recessive arrival t) s
      = .next (finish (advance t s) (enterFrame bs (frameIndex bs + 1) arrival (opened bs t s))) := by
  have harrival : arrivalOf s.line arrival = arrival := by rw [arrivalOf_eq, if_pos hassembly]
  have heffect := effectOf_received (chars := bs) (stops := .recessive) (arrival := arrival) (t := t) hstraps hactive htrans
    (fun b hb => by rw [harrival]; exact hbusy b hb)
  have hline : (advance t s).line.assembly = [] ∧ (advance t s).stationIndex = s.stationIndex
      ∧ arrivalOf (advance t s).line arrival = arrival := ⟨hassembly, rfl, harrival⟩
  have hclosed : closeFrame bs .recessive arrival (advance t s) = enterFrame bs (frameIndex bs + 1) arrival (opened bs t s) := by
    unfold closeFrame
    dsimp only
    rw [hline.1, List.nil_append, hline.2.2]
    exact (if_pos (frameValid_eq_true hk hlen hsum)).trans (if_neg hindex)
  exact exec_eq_finish (c := .frameReceived bs .recessive arrival t) rfl hr (heffect.trans hclosed)

theorem held_opened (bs : List Byte) (t : Time) (s : State) :
    held (opened bs t s) = { held s with line := { s.line.steady with assembly := [] } } := by
  have h (y : State) : held (opened bs t y) = { held (advance t y) with
      line := { (advance t y).line.steady with assembly := [] } } := rfl
  rw [h, held_advance, show (advance t s).line.steady = s.line.steady from congrArg Held.line (held_advance t s)]

@[simp] theorem opened_now (bs : List Byte) (t : Time) (s : State) : (opened bs t s).now = timeAfter t s := rfl

@[simp] theorem opened_speed (bs : List Byte) (t : Time) (s : State) : (opened bs t s).fan.speed = s.fan.speed := by simp [opened]

@[simp] theorem opened_keeps (bs : List Byte) (t : Time) (s : State) :
    (opened bs t s).seq = s.seq ∧ (opened bs t s).clock = s.clock ∧ (opened bs t s).frost = s.frost
      ∧ (opened bs t s).climate = s.climate ∧ (opened bs t s).loader = s.loader ∧ (opened bs t s).house = s.house
      ∧ (opened bs t s).demand.stack = s.demand.stack ∧ (opened bs t s).demand.requested = s.demand.requested
      ∧ (opened bs t s).demand.active = s.demand.active ∧ (opened bs t s).filter = s.filter
      ∧ (opened bs t s).peers = s.peers ∧ (opened bs t s).cfg = s.cfg ∧ (opened bs t s).humid = s.humid
      ∧ (opened bs t s).lane = s.lane ∧ (opened bs t s).stationIndex = s.stationIndex
      ∧ (opened bs t s).roomClass = s.roomClass ∧ (opened bs t s).pending = s.pending
      ∧ (opened bs t s).line.active = s.line.active ∧ (opened bs t s).line.assembly = []
      ∧ (opened bs t s).fan.probeHold = s.fan.probeHold ∧ (opened bs t s).line.statusMark = s.line.statusMark := by
  have h := held_opened bs t s
  exact ⟨congrArg Held.seq h, congrArg Held.clock h, congrArg Held.frost h, congrArg Held.climate h, congrArg Held.loader h,
    congrArg Held.house h, congrArg Held.stack h, congrArg Held.requested h, congrArg Held.active h, congrArg Held.filter h,
    congrArg Held.peers h, congrArg Held.cfg h, congrArg Held.humid h, congrArg Held.lane h, congrArg Held.stationIndex h,
    congrArg Held.roomClass h, congrArg Held.pending h, rfl, rfl, probeHold_of_held h, rfl⟩

/-! ## The record of the sender -/

/-- The sender's record once the frame is entered. -/
def senderRecord (k : FrameKind) (bs : List Byte) (n : Nat) (arrival : Time) (ps : List PeerRec) : PeerRec :=
  match k with
  | .status => { heardPeer ps n arrival with
      status := some (statusPartOf bs arrival)
      defrost := partAfterStatus (heardPeer ps n arrival).defrost (statusPartOf bs arrival) arrival }
  | .defrost => { heardPeer ps n arrival with
      defrost := partAfterNotice (heardPeer ps n arrival).defrost (noticeOf bs) arrival }
  | .mode | .boost => heardPeer ps n arrival

/-- The record is entered and the reference formed again. -/
def heardFrom (k : FrameKind) (bs : List Byte) (n : Nat) (arrival : Time) (x : State) : State :=
  reformReference (putPeer (senderRecord k bs n arrival x.peers) x)

section
variable {bs : List Byte} {n : Nat} {arrival : Time} {x : State}

theorem enterFrame_status (h : frameKind bs = some .status) : enterFrame bs n arrival x
    = alignment n (statusPartOf bs arrival) (reportPlace (placeFreed (heardPeer x.peers n arrival).defrost
        (partAfterStatus (heardPeer x.peers n arrival).defrost (statusPartOf bs arrival) arrival))
      (weighOffer (statusOffer bs) false (heardFrom .status bs n arrival x))) := by
  unfold enterFrame
  rw [h]
  rfl

theorem enterFrame_defrost (h : frameKind bs = some .defrost) : enterFrame bs n arrival x
    = reportPlace (placeFreed (heardPeer x.peers n arrival).defrost
        (partAfterNotice (heardPeer x.peers n arrival).defrost (noticeOf bs) arrival))
      (heardFrom .defrost bs n arrival x) := by
  unfold enterFrame
  rw [h]
  rfl

theorem enterFrame_mode (h : frameKind bs = some .mode) :
    enterFrame bs n arrival x = weighOffer (modeOffer bs n) true (heardFrom .mode bs n arrival x) := by
  unfold enterFrame
  rw [h]
  rfl

theorem enterFrame_boost (h : frameKind bs = some .boost) :
    enterFrame bs n arrival x = heardBoost bs n (heardFrom .boost bs n arrival x) := by
  unfold enterFrame
  rw [h]
  rfl

end

@[simp] theorem heardFrom_keeps (k : FrameKind) (bs : List Byte) (n : Nat) (arrival : Time) (x : State) :
    (heardFrom k bs n arrival x).now = x.now ∧ (heardFrom k bs n arrival x).seq = x.seq
      ∧ (heardFrom k bs n arrival x).frost = x.frost ∧ (heardFrom k bs n arrival x).climate = x.climate
      ∧ (heardFrom k bs n arrival x).loader = x.loader ∧ (heardFrom k bs n arrival x).house = x.house
      ∧ (heardFrom k bs n arrival x).demand = x.demand ∧ (heardFrom k bs n arrival x).filter = x.filter
      ∧ (heardFrom k bs n arrival x).cfg = x.cfg ∧ (heardFrom k bs n arrival x).humid = x.humid
      ∧ (heardFrom k bs n arrival x).lane = x.lane ∧ (heardFrom k bs n arrival x).stationIndex = x.stationIndex
      ∧ (heardFrom k bs n arrival x).line = x.line ∧ (heardFrom k bs n arrival x).fan = x.fan
      ∧ (heardFrom k bs n arrival x).pending = x.pending
      ∧ (heardFrom k bs n arrival x).peers = insertPeer (senderRecord k bs n arrival x.peers) x.peers := by
  simp [heardFrom]

/-- What a frame moves of the clock as it is entered: the reference, and with it the heard length. -/
theorem heardFrom_clock (k : FrameKind) (bs : List Byte) (n : Nat) (arrival : Time) (x : State) :
    (heardFrom k bs n arrival x).clock = { x.clock with
      reference := (heardFrom k bs n arrival x).clock.reference
      heardLength := if (heardFrom k bs n arrival x).clock.reference = x.clock.reference then x.clock.heardLength else none } := by
  unfold heardFrom
  rw [reformReference_clock]
  rfl

/-! ## A BOOST call -/

/-- The entry of a boost that a call asks for. -/
def calledBoost (bs : List Byte) (n : Nat) (s : State) : Override :=
  ⟨.houseBoost, n, clampNat 40 100 (byteAt bs 2), some (s.now + minutes (clampNat 5 60 (byteAt bs 3)))⟩

theorem heardBoost_start {bs : List Byte} (n : Nat) (s : State) (h : byteAt bs 1 = 0) :
    heardBoost bs n s = (if s.cfg.wake.houseBoostCall then wake else id) (push (calledBoost bs n s) s) := by
  unfold heardBoost
  rw [h]
  have hcode : boostOfCode 0 = some .start := rfl
  rw [hcode]
  dsimp only
  split <;> rfl

theorem heardBoost_cancel {bs : List Byte} (n : Nat) (s : State) (h : byteAt bs 1 = 1) :
    heardBoost bs n s = removeEntry .houseBoost n s := by
  unfold heardBoost
  rw [h]
  rfl

theorem heardBoost_other {bs : List Byte} (n : Nat) (s : State) (h : 2 ≤ byteAt bs 1) : heardBoost bs n s = s := by
  unfold heardBoost
  obtain ⟨k, hk⟩ := Nat.exists_eq_add_of_le h
  rw [hk, Nat.add_comm]
  rfl

/-- A wake from REST leaves a rejoin, and moves nothing else. -/
theorem wake_spec (s : State) :
    held (wake s) = { held s with seq := (wake s).seq } ∧ (s.seq.state = .rest → (wake s).seq.rejoin.isSome = true) := by
  refine ⟨held_restExit s, fun hs => ?_⟩
  unfold wake restExit
  split
  case isTrue => rfl
  case isFalse h =>
    rw [Option.isSome_iff_ne_none]
    exact fun hn => h ⟨hs, hn⟩

theorem wakeIf_spec (b : Bool) (s : State) :
    held ((if b then wake else id) s) = { held s with seq := ((if b then wake else id) s).seq }
      ∧ (s.seq.state = .rest → b = true → ((if b then wake else id) s).seq.rejoin.isSome = true) := by
  cases b
  · exact ⟨rfl, fun _ => nofun⟩
  · exact ⟨(wake_spec s).1, fun hs _ => (wake_spec s).2 hs⟩

/-! ## The house mode fields -/

theorem adopts_iff {h : HouseMode} {o : Offer} {m : Mode} (hm : o.mode = some m) (hlow : 1 ≤ o.origin) (hhigh : o.origin ≤ 16) :
    adopts h o = true ↔ newer h.stamp o.stamp = true ∨ (o.stamp = h.stamp ∧ o.origin < h.origin) := by
  simp [adopts, hm, hlow, hhigh]

theorem offered_adopted {h : HouseMode} {o : Offer} {m : Mode} (hm : o.mode = some m) (ha : adopts h o = true) :
    offered h o = ⟨m, o.summer, o.stamp, o.origin⟩ := by
  simp [offered, hm, ha]

theorem offered_kept {h : HouseMode} {o : Offer} (ha : adopts h o = false) : offered h o = h := by
  unfold offered
  split <;> simp [ha]

theorem adopts_false {h : HouseMode} {o : Offer} (hn : o.mode = none ∨ o.origin = 0 ∨ 16 < o.origin
    ∨ (newer h.stamp o.stamp = false ∧ (o.stamp ≠ h.stamp ∨ h.origin ≤ o.origin))) : adopts h o = false := by
  rw [← Bool.not_eq_true]
  intro ha
  unfold adopts at ha
  simp only [Bool.and_eq_true, Bool.or_eq_true, decide_eq_true_eq, beq_iff_eq] at ha
  obtain ⟨⟨⟨hmode, hlow⟩, hhigh⟩, hnew⟩ := ha
  rcases hn with h | h | h | ⟨h1, h2⟩
  · rw [h] at hmode
    cases hmode
  · omega
  · omega
  · rcases hnew with h | ⟨he, hlt⟩
    · rw [h1] at h
      cases h
    · rcases h2 with h | h
      · exact h he
      · omega

theorem setHouse_same (s : State) : setHouse s.house s = s := by simp [setHouse]

theorem weighOffer_kept {o : Offer} {call : Bool} {s : State} (h : offered s.house o = s.house) : weighOffer o call s = s := by
  unfold weighOffer
  dsimp only
  rw [h, if_neg (by simp), setHouse_same]

theorem weighOffer_house (o : Offer) (call : Bool) (s : State) : (weighOffer o call s).house = offered s.house o := by
  unfold weighOffer
  dsimp only
  have hset : (setHouse (offered s.house o) s).house = offered s.house o := congrArg Held.house (held_setHouse _ s)
  split
  · exact (congrArg Held.house (wake_spec _).1).trans hset
  · exact hset

/-- The levels once the house mode fields have been weighed. -/
theorem weighOffer_levels (o : Offer) (call : Bool) (s : State) :
    ((weighOffer o call s).house.mode ≠ s.house.mode →
      (weighOffer o call s).demand.requested = topLevel s.demand.stack (ConfigRecord.level s.cfg (weighOffer o call s).house.mode)
        ∧ (weighOffer o call s).demand.active = min s.demand.active (weighOffer o call s).demand.requested) := by
  rw [weighOffer_house]
  intro hne
  have hset := held_setHouse (offered s.house o) s
  have hlevels : (weighOffer o call s).demand.requested = (setHouse (offered s.house o) s).demand.requested
      ∧ (weighOffer o call s).demand.active = (setHouse (offered s.house o) s).demand.active := by
    unfold weighOffer
    dsimp only
    split
    · exact ⟨congrArg Held.requested (wake_spec _).1, congrArg Held.active (wake_spec _).1⟩
    · exact ⟨rfl, rfl⟩
  have hrequested := (congrArg Held.requested hset).trans (if_neg (Ne.symm hne))
  have hactive := (congrArg Held.active hset).trans (if_neg (Ne.symm hne))
  have hread : (held (setHouse (offered s.house o) s)).requested = (setHouse (offered s.house o) s).demand.requested
      ∧ (held (setHouse (offered s.house o) s)).active = (setHouse (offered s.house o) s).demand.active := ⟨rfl, rfl⟩
  rw [hread.1] at hrequested
  rw [hread.2] at hactive
  rw [hlevels.1, hlevels.2, hrequested, hactive]
  exact ⟨rfl, rfl⟩

theorem weighOffer_wakes {o : Offer} {s : State} (hne : (weighOffer o true s).house.mode ≠ s.house.mode
    ∨ (weighOffer o true s).house.summer ≠ s.house.summer) (hs : s.seq.state = .rest) (hw : s.cfg.wake.houseModeCall = true) :
    (weighOffer o true s).seq.rejoin.isSome = true := by
  rw [weighOffer_house] at hne
  unfold weighOffer
  dsimp only
  rw [if_pos ⟨rfl, hw, hne⟩]
  exact (wake_spec _).2 (by simpa using hs)

theorem weighOffer_uncalled_seq (o : Offer) (s : State) : (weighOffer o false s).seq = s.seq := by
  unfold weighOffer
  simp

theorem bitOf_seven {b : Nat} (h : b < 256) : bitOf b 7 = decide (128 ≤ b) := by
  unfold bitOf bitsOf
  rw [Bool.eq_iff_iff, beq_iff_eq, decide_eq_true_eq]
  omega

theorem byteAt_lt (bs : List Byte) (i : Nat) : byteAt bs i < 256 := (bs.getD i 0).isLt

end Sys2Proof.Proofs

/-! The levels and the reference through an alignment, and the theorem of O50. -/

namespace Sys2Proof.Proofs

open Sys2Proof.Machine

/-! ## The requested level follows the stack -/

/-- The requested level is that of the stack and the house mode, and the active one is not above it. -/
def LevelsFollow (s : State) : Prop := s.demand.requested = wantedLevel s ∧ s.demand.active ≤ s.demand.requested

theorem levelsFollow_reformLevels (s : State) : LevelsFollow (reformLevels s) := ⟨rfl, min_le_right _ _⟩

theorem levelsFollow_of_eq {s t : State} (hd : t.demand.stack = s.demand.stack) (hr : t.demand.requested = s.demand.requested)
    (ha : t.demand.active = s.demand.active) (hc : t.cfg = s.cfg) (hh : t.house.mode = s.house.mode) (hs : LevelsFollow s) :
    LevelsFollow t := by
  unfold LevelsFollow wantedLevel houseModeLevel at *
  rw [hd, hr, ha, hc, hh]
  exact hs

theorem levelsFollow_quiet {s t : State} (h : Quiet s t) (hs : LevelsFollow s) : LevelsFollow t := by
  cases h
  case push => exact levelsFollow_reformLevels _
  case remove => exact levelsFollow_reformLevels _
  case startBoost => exact levelsFollow_reformLevels _
  case endBoost => exact levelsFollow_reformLevels _
  case stage => exact levelsFollow_of_eq (by simp) (by simp) (by simp) (by simp) (by simp) hs
  case endStage => exact levelsFollow_of_eq (by simp) (by simp) (by simp) (by simp) (by simp) hs
  all_goals exact levelsFollow_of_eq rfl rfl rfl rfl rfl hs

theorem levelsFollow_held (s t : State) (h : held s = held t) (hs : LevelsFollow s) : LevelsFollow t :=
  levelsFollow_of_eq (congrArg Held.stack h).symm (congrArg Held.requested h).symm (congrArg Held.active h).symm
    (congrArg Held.cfg h).symm (congrArg (fun x : Held => x.house.mode) h).symm hs

theorem levelsFollow_free : FreeOfMotion LevelsFollow :=
  .of_seq_free (shown_of_held levelsFollow_held) (fun _ _ => levelsFollow_quiet) (fun _ _ hs => hs)
    (fun _ _ _ _ _ hs => hs) (fun _ _ hs => hs)

theorem levelsFollow_setHouse (h : HouseMode) (s : State) (hs : LevelsFollow s) : LevelsFollow (setHouse h s) := by
  unfold setHouse
  dsimp only
  split
  case isTrue he => exact levelsFollow_of_eq (s := s) rfl rfl rfl rfl he.symm hs
  case isFalse => exact levelsFollow_reformLevels _

theorem levelsFollow_act {own : Bool} {s s' : State} (h : Act own s s') (hs : LevelsFollow s) : LevelsFollow s' :=
  levelsFollow_free.act_of_held levelsFollow_held h
    (fun _ _ _ _ _ _ => levelsFollow_free.endStarting_of_levels levelsFollow_held ⟨rfl, le_rfl⟩)
    (fun _ hs => levelsFollow_of_eq (by simp) (by simp) (by simp) (by simp) (by simp) hs) (fun _ hs => hs)
    (fun _ _ _ _ _ hs => hs) (fun _ _ _ _ hs => hs) (fun _ _ hs => hs) levelsFollow_setHouse (fun _ _ hs => hs)
    (fun _ _ hs => hs) (fun _ hs => ⟨hs.1, le_rfl⟩) hs

theorem levelsFollow_acts {own : Bool} {s s' : State} (h : Acts own s s') (hs : LevelsFollow s) : LevelsFollow s' :=
  h.keep (fun _ _ => levelsFollow_act) hs

/-- The requested and the active level. -/
def levels (s : State) : Nat × Nat := (s.demand.requested, s.demand.active)

theorem levels_of_held {s t : State} {h : Held} (hheld : held t = h) (hr : h.requested = s.demand.requested)
    (ha : h.active = s.demand.active) : levels t = levels s :=
  Prod.ext ((congrArg Held.requested hheld).trans hr) ((congrArg Held.active hheld).trans ha)

theorem takeDefrostOrder_levels (s : State) : levels (takeDefrostOrder s) = levels s := by
  have hdirect (h : s.seq.state ≠ .rest) : levels (enterDirect .defrost s) = levels s := by
    have hheld := held_enterDirect (st := .defrost) nofun nofun h
    exact levels_of_held hheld rfl rfl
  have hreverse (g : Target) : levels (beginReversing g s) = levels s := by
    have hheld := held_beginReversing g s
    exact levels_of_held hheld rfl rfl
  unfold takeDefrostOrder
  split
  case h_1 h => exact hdirect (by rw [h]; exact nofun)
  case h_2 => exact hreverse _
  case h_3 h =>
    split
    · exact hdirect (by rw [h]; exact nofun)
    · exact hreverse _
  case h_4 h =>
    cases ht : s.seq.target
    case none =>
      rw [retarget, ht]
    case some g =>
      have hheld := held_retarget (g := .defrost) h ht
      exact levels_of_held hheld rfl rfl
  case h_5 => rfl
  case h_6 => rfl

theorem setStage_levels (st : FrostStage) (s : State) : levels (setStage st s) = levels s := by simp [levels]

theorem orderDefrost_levels (s : State) : levels (orderDefrost s) = levels s := by
  cases h : s.seq.state.refusesDefrost
  · rw [orderDefrost_eq h, takeDefrostOrder_levels]
    exact levels_of_held (held_ordering s) rfl rfl
  · rw [orderDefrost_refused h, withdraw, setStage_levels]
    rfl

theorem forcedTest_levels (s : State) : levels (forcedTest s) = levels s := by
  cases h : forcedHolds s
  · rw [forcedTest_idle h]
  · rw [forcedTest_forced h, orderDefrost_levels]
    rfl

theorem moveStage_levels (st : FrostStage) (s : State) : levels (moveStage st s) = levels s := by
  unfold moveStage
  split
  · rfl
  · rw [forcedTest_levels, setStage_levels]

/-- A report of a place moves no level. -/
theorem reportPlace_levels (freed : Bool) (s : State) : levels (reportPlace freed s) = levels s := by
  unfold reportPlace wantTest
  split
  · split
    · split
      · exact orderDefrost_levels s
      · split
        · rw [contend_eq, moveStage_levels]
          rfl
        · exact moveStage_levels _ s
    · rfl
  · rfl

/-! ## The clock through an alignment -/

theorem boundaryWith_clock (len : Nat) (e : Time) (s : State) : (boundaryWith len e s).clock = (advanceClock len e s).clock := by
  have hturned : (turned len e s).clock = (advanceClock len e s).clock := by simp [turned]
  have hrecorded : (recorded len e s).clock = (turned len e s).clock := by
    unfold recorded closeRecord openCollection
    simp
  rw [boundaryWith_eq, (closeBoundary_parts _).2.2.1, ← hturned, ← hrecorded]
  simp [frostTurn]

theorem boundaryIfDue_reference (s : State) : (boundaryIfDue s).clock.reference = s.clock.reference := by
  unfold boundaryIfDue boundary
  split
  · rw [boundaryWith_clock]
    rfl
  · rfl

theorem resync_reference (p : StatusPart) (s : State) : (resync p s).clock.reference = s.clock.reference := by
  unfold resync
  dsimp only
  split
  · rw [boundaryIfDue_reference]
  · rw [boundaryIfDue_reference]
    simp

theorem alignTo_reference (p : StatusPart) (s : State) : (alignTo p s).clock.reference = s.clock.reference := by
  unfold alignTo
  dsimp only
  split
  · rw [boundaryIfDue_reference]
  · split
    · rw [boundaryIfDue_reference, boundaryWith_clock]
      rfl
    · split
      · split
        · rw [resync_reference]
        · rfl
      · rw [resync_reference]

theorem alignment_reference (n : Nat) (p : StatusPart) (s : State) :
    (alignment n p s).clock.reference = s.clock.reference := by
  unfold alignment
  split
  · exact alignTo_reference p s
  · rfl

/-- A STATUS of another station than the reference aligns nothing. -/
theorem alignment_other {n : Nat} {p : StatusPart} {s : State} (h : (alignment n p s).clock.reference ≠ some n) :
    alignment n p s = s := by
  rw [alignment_reference] at h
  exact if_neg fun hc => h hc.2

/-! ## A station that rests -/

/-- REST without a rejoin. -/
def Resting (s : State) : Prop := s.seq.state = .rest ∧ s.seq.rejoin = none

theorem resting_of_eq {s t : State} (h : t.seq = s.seq) (hs : Resting s) : Resting t := by
  rw [Resting, h]
  exact hs

theorem resting_wantTest {s : State} (hs : Resting s) : wantTest s = s :=
  wantTest_idle (by simp [wantHolds, hs.1, SeqState.skipsWant])

theorem resting_forcedTest {s : State} (hs : Resting s) : forcedTest s = s :=
  forcedTest_idle (by simp [forcedHolds, hs.1, SeqState.refusesDefrost])

theorem resting_boundaryWith (len : Nat) (e : Time) {s : State} (hs : Resting s) : Resting (boundaryWith len e s) := by
  have hturned : Resting (turned len e s) := by
    have hnot : turnsNow s = false := by simp [turnsNow, hs.1, hs.2]
    rw [Resting, (turned_state len e s).2 hnot]
    exact hs
  have hrecorded : Resting (recorded len e s) := resting_of_eq (recorded_keeps len e s).2.2.2.2.1 hturned
  have hdirection : (handed len e s).direction ≠ some .extract := by
    have hd : (handed len e s).direction = directionTag s.lane s.seq.state := rfl
    rw [hd, hs.1]
    exact nofun
  have hturn : frostTurn (handed len e s) (recorded len e s) = recorded len e s := by
    obtain ⟨hf, hh⟩ := (record_feeds (handed len e s) (recorded len e s)).1 (.inr hdirection)
    unfold frostTurn frostAtBoundary
    dsimp only
    rw [hf, hh, resting_forcedTest hrecorded, resting_wantTest hrecorded, ite_self]
  rw [boundaryWith_eq, hturn]
  exact resting_of_eq (closeBoundary_parts _).2.1 hrecorded

theorem resting_boundaryIfDue {s : State} (hs : Resting s) : Resting (boundaryIfDue s) := by
  unfold boundaryIfDue
  split
  · exact resting_boundaryWith _ _ hs
  · exact hs

theorem resting_resync (p : StatusPart) {s : State} (hs : Resting s) : Resting (resync p s) := by
  unfold resync
  dsimp only
  split
  · exact resting_boundaryIfDue hs
  · refine resting_boundaryIfDue (resting_of_eq ?_ hs)
    have hnotice (d : Dir) (y : State) (h : y.seq = s.seq) : (abandonProbe (sequencerOnNotice d y)).seq = s.seq := by
      unfold sequencerOnNotice
      rw [h, hs.1]
      simpa using h
    exact hnotice _ _ rfl

theorem resting_alignment (n : Nat) (p : StatusPart) {s : State} (hs : Resting s) : Resting (alignment n p s) := by
  unfold alignment alignTo
  dsimp only
  split
  · split
    · exact resting_boundaryIfDue hs
    · split
      · exact resting_boundaryIfDue (resting_boundaryWith _ _ hs)
      · split
        · split
          · exact resting_resync p hs
          · exact hs
        · exact resting_resync p hs
  · exact hs

theorem resting_reportPlace (freed : Bool) {s : State} (hs : Resting s) : reportPlace freed s = s := by
  unfold reportPlace
  rw [resting_wantTest hs, ite_self]

/-! ## The obligation -/

/-- A BOOST call that is entered into the state `x` and answered from there. -/
theorem finish_heardBoost {bs : List Byte} {n : Nat} {arrival : Time} {m x : State} (hk : frameKind bs = some .boost) :
    (byteAt bs 1 = 0 →
        (finish m (enterFrame bs n arrival x)).demand.stack
            = calledBoost bs n x :: (without .houseBoost n x.demand.stack).take 3
          ∧ probeAbandoned x.now x (finish m (enterFrame bs n arrival x))
          ∧ (finish m (enterFrame bs n arrival x)).demand.requested = clampNat 40 100 (byteAt bs 2)
          ∧ (x.seq.state = .rest → x.cfg.wake.houseBoostCall = true →
            (finish m (enterFrame bs n arrival x)).seq.rejoin.isSome = true))
      ∧ (byteAt bs 1 = 1 → (finish m (enterFrame bs n arrival x)).demand.stack = without .houseBoost n x.demand.stack
          ∧ (finish m (enterFrame bs n arrival x)).seq = x.seq ∧ (finish m (enterFrame bs n arrival x)).filter = x.filter)
      ∧ (2 ≤ byteAt bs 1 → (finish m (enterFrame bs n arrival x)).demand.stack = x.demand.stack
          ∧ (finish m (enterFrame bs n arrival x)).seq = x.seq ∧ (finish m (enterFrame bs n arrival x)).filter = x.filter) := by
  rw [enterFrame_boost hk]
  have hheard := heardFrom_keeps .boost bs n arrival x
  generalize heardFrom .boost bs n arrival x = y at hheard
  obtain ⟨hnow, hseq, -, -, -, -, hdemand, hfilter, hcfg, -, -, -, -, hfan, -, -⟩ := hheard
  rw [← hnow, ← hseq, ← hdemand, ← hfilter, ← hcfg]
  refine ⟨fun h => ?_, fun h => ?_, fun h => ?_⟩
  · rw [heardBoost_start n y h]
    obtain ⟨hwake, hrejoin⟩ := wakeIf_spec y.cfg.wake.houseBoostCall (push (calledBoost bs n y) y)
    have hheld := (held_finish m _).trans hwake
    rw [held_push] at hheld
    have hentry : calledBoost bs n x = calledBoost bs n y := by rw [calledBoost, calledBoost, hnow]
    refine ⟨(congrArg Held.stack hheld).trans (by rw [hentry]; rfl), ?_, congrArg Held.requested hheld, fun hs hw => ?_⟩
    · have habandoned := probeAbandoned_of (congrArg Held.filter hheld) (probeHold_of_held hheld)
      unfold probeAbandoned at habandoned ⊢
      rw [← hfilter, ← hfan]
      exact habandoned
    · rw [finish_seq]
      exact hrejoin (by simpa using hs) hw
  · rw [heardBoost_cancel n y h]
    have hheld := (held_finish m _).trans (held_removeEntry .houseBoost n y)
    exact ⟨congrArg Held.stack hheld, congrArg Held.seq hheld, congrArg Held.filter hheld⟩
  · rw [heardBoost_other n y h]
    have hheld := held_finish m y
    exact ⟨congrArg Held.stack hheld, congrArg Held.seq hheld, congrArg Held.filter hheld⟩

theorem modeOffer_eq (bs : List Byte) (n : Nat) :
    modeOffer bs n = ⟨modeOfCode (byteAt bs 1 % 4), decide (128 ≤ byteAt bs 1), bs.getD 2 0, n⟩ := by
  unfold modeOffer
  rw [bitOf_seven (byteAt_lt bs 1)]
  simp [bitsOf]

theorem statusOffer_eq (bs : List Byte) :
    statusOffer bs = ⟨modeOfCode (byteAt bs 14 % 4), decide (128 ≤ byteAt bs 14), bs.getD 15 0, byteAt bs 16⟩ := by
  unfold statusOffer
  rw [bitOf_seven (byteAt_lt bs 14)]
  simp [bitsOf]

/-- A MODE call that is entered into the state `x` and answered from there. -/
theorem finish_heardMode {bs : List Byte} {n : Nat} {arrival : Time} {m x : State} (hk : frameKind bs = some .mode)
    (hlow : 1 ≤ n) (hhigh : n ≤ 16) :
    (∀ mo, modeOfCode (byteAt bs 1 % 4) = some mo →
        newer x.house.stamp (bs.getD 2 0) = true ∨ (bs.getD 2 0 = x.house.stamp ∧ n < x.house.origin) →
        (finish m (enterFrame bs n arrival x)).house = ⟨mo, decide (128 ≤ byteAt bs 1), bs.getD 2 0, n⟩
          ∧ ((finish m (enterFrame bs n arrival x)).house.mode ≠ x.house.mode →
            (finish m (enterFrame bs n arrival x)).demand.requested
                = topLevel x.demand.stack (ConfigRecord.level x.cfg mo)
              ∧ (finish m (enterFrame bs n arrival x)).demand.active
                = min x.demand.active (finish m (enterFrame bs n arrival x)).demand.requested)
          ∧ ((finish m (enterFrame bs n arrival x)).house.mode ≠ x.house.mode
              ∨ (finish m (enterFrame bs n arrival x)).house.summer ≠ x.house.summer → x.seq.state = .rest →
            x.cfg.wake.houseModeCall = true → (finish m (enterFrame bs n arrival x)).seq.rejoin.isSome = true))
      ∧ (newer x.house.stamp (bs.getD 2 0) = false → (bs.getD 2 0 ≠ x.house.stamp ∨ x.house.origin ≤ n) →
          (finish m (enterFrame bs n arrival x)).house = x.house ∧ (finish m (enterFrame bs n arrival x)).seq = x.seq) := by
  rw [enterFrame_mode hk]
  have hheard := heardFrom_keeps .mode bs n arrival x
  generalize heardFrom .mode bs n arrival x = y at hheard
  obtain ⟨-, hseq, -, -, -, hhouse, hdemand, -, hcfg, -⟩ := hheard
  rw [← hseq, ← hdemand, ← hcfg, ← hhouse]
  have hheld := held_finish m (weighOffer (modeOffer bs n) true y)
  have hfinish : (finish m (weighOffer (modeOffer bs n) true y)).house = (weighOffer (modeOffer bs n) true y).house
      ∧ (finish m (weighOffer (modeOffer bs n) true y)).seq = (weighOffer (modeOffer bs n) true y).seq
      ∧ (finish m (weighOffer (modeOffer bs n) true y)).demand.requested = (weighOffer (modeOffer bs n) true y).demand.requested
      ∧ (finish m (weighOffer (modeOffer bs n) true y)).demand.active = (weighOffer (modeOffer bs n) true y).demand.active :=
    ⟨congrArg Held.house hheld, congrArg Held.seq hheld, congrArg Held.requested hheld, congrArg Held.active hheld⟩
  rw [hfinish.1, hfinish.2.1, hfinish.2.2.1, hfinish.2.2.2]
  have hoffer := modeOffer_eq bs n
  refine ⟨fun mo hmo hnew => ?_, fun hold hstamp => ?_⟩
  · have hadopted : (weighOffer (modeOffer bs n) true y).house = ⟨mo, decide (128 ≤ byteAt bs 1), bs.getD 2 0, n⟩ := by
      rw [weighOffer_house, offered_adopted (m := mo) (by rw [hoffer]; exact hmo), hoffer]
      rw [adopts_iff (m := mo) (by rw [hoffer]; exact hmo) (by rw [hoffer]; exact hlow) (by rw [hoffer]; exact hhigh), hoffer]
      exact hnew
    refine ⟨hadopted, fun hne => ?_, fun hne hs hw => weighOffer_wakes hne hs hw⟩
    have hlevels := weighOffer_levels (modeOffer bs n) true y hne
    rwa [show (weighOffer (modeOffer bs n) true y).house.mode = mo from by rw [hadopted]] at hlevels
  · have hkept : offered y.house (modeOffer bs n) = y.house := by
      refine offered_kept (adopts_false (.inr (.inr (.inr ?_))))
      rw [hoffer]
      exact ⟨hold, hstamp⟩
    rw [weighOffer_kept hkept]
    exact ⟨rfl, rfl⟩

/-- The house mode fields of a STATUS that is entered into the state `x` and answered from there. -/
theorem finish_heardStatus {bs : List Byte} {n : Nat} {arrival : Time} {m x : State} (hk : frameKind bs = some .status) :
    (∀ mo, modeOfCode (byteAt bs 14 % 4) = some mo → 1 ≤ byteAt bs 16 → byteAt bs 16 ≤ 16 →
        newer x.house.stamp (bs.getD 15 0) = true ∨ (bs.getD 15 0 = x.house.stamp ∧ byteAt bs 16 < x.house.origin) →
        (finish m (enterFrame bs n arrival x)).house = ⟨mo, decide (128 ≤ byteAt bs 14), bs.getD 15 0, byteAt bs 16⟩
          ∧ (mo ≠ x.house.mode →
            (finish m (enterFrame bs n arrival x)).demand.requested
                = topLevel (finish m (enterFrame bs n arrival x)).demand.stack (ConfigRecord.level x.cfg mo)
              ∧ (finish m (enterFrame bs n arrival x)).demand.active ≤ (finish m (enterFrame bs n arrival x)).demand.requested
              ∧ ((finish m (enterFrame bs n arrival x)).clock.reference ≠ some n →
                (finish m (enterFrame bs n arrival x)).demand.stack = x.demand.stack
                ∧ (finish m (enterFrame bs n arrival x)).demand.active
                  = min x.demand.active (finish m (enterFrame bs n arrival x)).demand.requested)))
      ∧ (modeOfCode (byteAt bs 14 % 4) = none ∨ byteAt bs 16 = 0 ∨ 16 < byteAt bs 16
          ∨ (newer x.house.stamp (bs.getD 15 0) = false
            ∧ (bs.getD 15 0 ≠ x.house.stamp ∨ x.house.origin ≤ byteAt bs 16)) →
          (finish m (enterFrame bs n arrival x)).house = x.house)
      ∧ (x.seq.state = .rest → x.seq.rejoin = none →
          (finish m (enterFrame bs n arrival x)).seq.state = .rest ∧ (finish m (enterFrame bs n arrival x)).seq.rejoin = none) := by
  have hheard := heardFrom_keeps .status bs n arrival x
  obtain ⟨-, hseq, -, -, -, hhouse, hdemand, -, hcfg, -⟩ := hheard
  have hoffer := statusOffer_eq bs
  have henter := enterFrame_status (n := n) (arrival := arrival) (x := x) hk
  generalize placeFreed (heardPeer x.peers n arrival).defrost
    (partAfterStatus (heardPeer x.peers n arrival).defrost (statusPartOf bs arrival) arrival) = freed at henter
  obtain ⟨w, hw⟩ : ∃ w, w = weighOffer (statusOffer bs) false (heardFrom .status bs n arrival x) := ⟨_, rfl⟩
  rw [← hw] at henter
  have hwhouse : w.house = offered x.house (statusOffer bs) := by rw [hw, weighOffer_house, hhouse]
  have hwstack : w.demand.stack = x.demand.stack := by rw [hw, ← hdemand]; simp
  have hwcfg : w.cfg = x.cfg := by rw [hw, ← hcfg]; simp
  have hlevels : w.house.mode ≠ x.house.mode →
      w.demand.requested = topLevel x.demand.stack (ConfigRecord.level x.cfg w.house.mode)
        ∧ w.demand.active = min x.demand.active w.demand.requested := by
    rw [hw, ← hhouse, ← hdemand, ← hcfg]
    exact weighOffer_levels _ _ _
  have hwseq : w.seq = x.seq := by rw [hw, weighOffer_uncalled_seq, hseq]
  obtain ⟨z, hz⟩ : ∃ z, z = reportPlace freed w := ⟨_, rfl⟩
  rw [← hz] at henter
  rw [henter]
  have hheld := held_finish m (alignment n (statusPartOf bs arrival) z)
  have hkept : (alignment n (statusPartOf bs arrival) z).house = w.house ∧ (alignment n (statusPartOf bs arrival) z).cfg = w.cfg := by
    rw [hz]
    simp
  have hfhouse : (finish m (alignment n (statusPartOf bs arrival) z)).house = w.house :=
    (congrArg Held.house hheld).trans hkept.1
  refine ⟨fun mo hmo hlow hhigh hnew => ?_, fun hno => ?_, fun hs hr => ?_⟩
  · have hadopted : w.house = ⟨mo, decide (128 ≤ byteAt bs 14), bs.getD 15 0, byteAt bs 16⟩ := by
      rw [hwhouse, offered_adopted (m := mo) (by rw [hoffer]; exact hmo), hoffer]
      rw [adopts_iff (m := mo) (by rw [hoffer]; exact hmo) (by rw [hoffer]; exact hlow) (by rw [hoffer]; exact hhigh), hoffer]
      exact hnew
    have hmode : w.house.mode = mo := by rw [hadopted]
    refine ⟨hfhouse.trans hadopted, fun hne => ?_⟩
    obtain ⟨hrequested, hactive⟩ := hlevels (by rw [hmode]; exact hne)
    have hfollow : LevelsFollow (finish m (alignment n (statusPartOf bs arrival) z)) := by
      refine levelsFollow_held _ _ hheld.symm ?_
      rw [hz]
      have hwfollow : LevelsFollow w := by
        refine ⟨?_, by rw [hactive]; exact min_le_right _ _⟩
        rw [hrequested, wantedLevel_eq, hwstack, houseModeLevel, hwcfg]
      exact levelsFollow_acts (acts_alignment n _ _ (lengthInRange_heldLength _))
        (levelsFollow_acts (own := true) (acts_reportPlace _ _) hwfollow)
    refine ⟨?_, hfollow.2, fun href => ?_⟩
    · have hfcfg : (finish m (alignment n (statusPartOf bs arrival) z)).cfg = x.cfg :=
        (congrArg Held.cfg hheld).trans (hkept.2.trans hwcfg)
      rw [hfollow.1, wantedLevel_eq, houseModeLevel, hfcfg, hfhouse, hmode]
    · have hother : alignment n (statusPartOf bs arrival) z = z := by
        refine alignment_other ?_
        rwa [show (finish m (alignment n (statusPartOf bs arrival) z)).clock
          = (alignment n (statusPartOf bs arrival) z).clock from congrArg Held.clock hheld] at href
      have hzstack : z.demand.stack = x.demand.stack := by rw [hz, reportPlace_stack, hwstack]
      have hzlevels : z.demand.requested = w.demand.requested ∧ z.demand.active = w.demand.active := by
        rw [hz]
        exact ⟨congrArg Prod.fst (reportPlace_levels freed w), congrArg Prod.snd (reportPlace_levels freed w)⟩
      rw [hother] at hheld ⊢
      refine ⟨(congrArg Held.stack hheld).trans hzstack, ?_⟩
      rw [show (finish m z).demand.active = z.demand.active from congrArg Held.active hheld,
        show (finish m z).demand.requested = z.demand.requested from congrArg Held.requested hheld, hzlevels.1, hzlevels.2]
      exact hactive
  · rw [hfhouse, hwhouse]
    refine offered_kept (adopts_false ?_)
    rw [hoffer]
    exact hno
  · have hrest : Resting w := resting_of_eq hwseq ⟨hs, hr⟩
    have hz' : z = w := hz.trans (resting_reportPlace freed hrest)
    rw [finish_seq, hz']
    exact resting_alignment n _ hrest

/-- Settles O50: the calls and the house mode fields, each by what the entered frame makes of them. -/
theorem callsAreTaken : Obligations.CallsAreTaken := by
  intro bs arrival t s hr hstraps hactive htrans hassembly hbusy hsum hindex
  have hlt := frameIndex_lt bs
  have hopened := opened_keeps bs t s
  have hnow := opened_now bs t s
  have hclock (k : FrameKind) : (heardFrom k bs (frameIndex bs + 1) arrival (opened bs t s)).clock.c = s.clock.c
      ∧ (heardFrom k bs (frameIndex bs + 1) arrival (opened bs t s)).clock.endTime = s.clock.endTime
      ∧ (heardFrom k bs (frameIndex bs + 1) arrival (opened bs t s)).clock.length = s.clock.length := by
    rw [heardFrom_clock, hopened.2.1]
    exact ⟨rfl, rfl, rfl⟩
  refine ⟨fun hk hlen => ?_, fun hk hlen => ?_, fun hk hlen => ?_⟩
  · refine ⟨_, exec_frame hr hstraps hactive htrans hassembly hbusy hk hlen hsum hindex, ?_⟩
    obtain ⟨hstart, hcancel, hother⟩ := finish_heardBoost (n := frameIndex bs + 1) (arrival := arrival) (m := advance t s)
      (x := opened bs t s) hk
    obtain ⟨hseq, -, -, -, -, -, hstack, -, -, hfilter, -, hcfg, -, -, -, -, -, -, -, hhold, -⟩ := hopened
    rw [hseq, hstack, hcfg] at hstart
    rw [hseq, hstack, hfilter] at hcancel hother
    have hentry : calledBoost bs (frameIndex bs + 1) (opened bs t s) = ⟨.houseBoost, frameIndex bs + 1,
        clampNat 40 100 (byteAt bs 2), some (timeAfter t s + minutes (clampNat 5 60 (byteAt bs 3)))⟩ := rfl
    rw [hentry] at hstart
    refine ⟨fun h => ?_, hcancel, hother, ?_⟩
    · obtain ⟨h1, h2, h3, h4⟩ := hstart h
      unfold probeAbandoned at h2 ⊢
      rw [hfilter, hhold] at h2
      exact ⟨h1, h2, h3, h4⟩
    · rw [enterFrame_boost hk]
      obtain ⟨hc, he, hl⟩ := hclock .boost
      refine ⟨by simp, by simp, by simp [hc], by simp [he], by simp [hl], by simp, by simp⟩
  · refine ⟨_, exec_frame hr hstraps hactive htrans hassembly hbusy hk hlen hsum hindex, ?_⟩
    obtain ⟨hadopts, hkeeps⟩ := finish_heardMode (n := frameIndex bs + 1) (arrival := arrival) (m := advance t s)
      (x := opened bs t s) hk (Nat.le_add_left 1 _) hlt
    obtain ⟨hseq, -, -, -, -, hhouse, hstack, -, hact, -, -, hcfg, -⟩ := hopened
    rw [hseq, hhouse, hstack, hact, hcfg] at hadopts
    rw [hseq, hhouse] at hkeeps
    refine ⟨hadopts, hkeeps, ?_⟩
    rw [enterFrame_mode hk]
    obtain ⟨hc, he, hl⟩ := hclock .mode
    refine ⟨by simp, by simp, by simp [hc], by simp [he], by simp [hl], by simp, by simp⟩
  · refine ⟨_, exec_frame hr hstraps hactive htrans hassembly hbusy hk hlen hsum hindex, ?_⟩
    have hstatus := finish_heardStatus (n := frameIndex bs + 1) (arrival := arrival) (m := advance t s) (x := opened bs t s) hk
    obtain ⟨hseq, -, -, -, -, hhouse, hstack, -, hact, -, -, hcfg, -⟩ := hopened
    rw [hseq, hhouse, hstack, hact, hcfg] at hstatus
    exact hstatus

end Sys2Proof.Proofs

/-! The sender's record in the peer table, and the theorem of O49. -/

namespace Sys2Proof.Proofs

open Sys2Proof.Machine

/-! ## The table -/

theorem mem_insertPeer_self (r : PeerRec) (ps : List PeerRec) : r ∈ insertPeer r ps := by
  induction ps with
  | nil => simp [insertPeer]
  | cons p ps ih =>
    unfold insertPeer
    split
    · simp
    · split
      · simp
      · exact List.mem_cons_of_mem _ ih

theorem mem_insertPeer_other {r p : PeerRec} {ps : List PeerRec} (hp : p ∈ ps) (hne : p.number ≠ r.number) :
    p ∈ insertPeer r ps := by
  induction ps with
  | nil => cases hp
  | cons x xs ih =>
    unfold insertPeer
    split
    · exact List.mem_cons_of_mem _ hp
    · split
      case isTrue heq =>
        rcases List.mem_cons.mp hp with rfl | hmem
        · exact absurd heq.symm hne
        · exact List.mem_cons_of_mem _ hmem
      case isFalse =>
        rcases List.mem_cons.mp hp with rfl | hmem
        · exact List.mem_cons_self
        · exact List.mem_cons_of_mem _ (ih hmem)

theorem heardPeer_spec (ps : List PeerRec) (n : Nat) (arrival : Time) :
    (heardPeer ps n arrival).fresh = true ∧ (heardPeer ps n arrival).lastHeard = arrival
      ∧ (heardPeer ps n arrival).status = (findPeer ps n).bind (·.status)
      ∧ (heardPeer ps n arrival).defrost = (findPeer ps n).bind (·.defrost) := by
  unfold heardPeer
  split
  case h_1 h => exact ⟨rfl, rfl, by rw [h]; rfl, by rw [h]; rfl⟩
  case h_2 h => exact ⟨rfl, rfl, by rw [h]; rfl, by rw [h]; rfl⟩

theorem senderRecord_spec (k : FrameKind) (bs : List Byte) (n : Nat) (arrival : Time) (ps : List PeerRec) :
    (senderRecord k bs n arrival ps).number = n ∧ (senderRecord k bs n arrival ps).fresh = true
      ∧ (senderRecord k bs n arrival ps).lastHeard = arrival
      ∧ (k ≠ .status → (senderRecord k bs n arrival ps).status = (findPeer ps n).bind (·.status))
      ∧ (k = .mode ∨ k = .boost → (senderRecord k bs n arrival ps).defrost = (findPeer ps n).bind (·.defrost)) := by
  obtain ⟨hfresh, hheard, hstatus, hdefrost⟩ := heardPeer_spec ps n arrival
  have hnumber := heardPeer_number ps n arrival
  cases k
  case status => exact ⟨hnumber, hfresh, hheard, fun h => absurd rfl h, by simp⟩
  case defrost => exact ⟨hnumber, hfresh, hheard, fun _ => hstatus, by simp⟩
  case mode => exact ⟨hnumber, hfresh, hheard, fun _ => hstatus, fun _ => hdefrost⟩
  case boost => exact ⟨hnumber, hfresh, hheard, fun _ => hstatus, fun _ => hdefrost⟩

/-! ## The standing -/

theorem statusPart_defrosting (bs : List Byte) (arrival : Time) :
    (statusPartOf bs arrival).defrosting = true ↔ byteAt bs 1 = 5 ∨ byteAt bs 8 % 8 = 4 := by
  have hstate (n : Nat) : stateOfCode n = some .defrost ↔ n = 5 := by
    unfold stateOfCode
    split <;> simp_all
  have hstage (n : Nat) : stageOfCode n = .defrosting ↔ n = 4 := by
    unfold stageOfCode
    split <;> simp_all
  have hform : (statusPartOf bs arrival).defrosting
      = (decide (stateOfCode (byteAt bs 1) = some .defrost) || decide (stageOfCode (bitsOf (byteAt bs 8) 0 3) = .defrosting)) := rfl
  rw [hform, Bool.or_eq_true, decide_eq_true_eq, decide_eq_true_eq, hstate, hstage]
  simp [bitsOf]

/-- The standing after a STATUS, by what the STATUS announces. -/
theorem partAfterStatus_spec (d : Option DefrostPart) (bs : List Byte) (arrival : Time) :
    ((byteAt bs 1 = 5 ∨ byteAt bs 8 % 8 = 4) →
      (d = none → partAfterStatus d (statusPartOf bs arrival) arrival
        = some ⟨.defrosting, min 4000 (16 * byteAt bs 11), false, arrival⟩)
      ∧ (∀ x, d = some x → partAfterStatus d (statusPartOf bs arrival) arrival = some { x with standing := .defrosting }))
    ∧ (byteAt bs 1 ≠ 5 → byteAt bs 8 % 8 ≠ 4 →
      (d = none → partAfterStatus d (statusPartOf bs arrival) arrival = none)
      ∧ (∀ x, d = some x → partAfterStatus d (statusPartOf bs arrival) arrival
          = some (if x.standing = .defrosting then { x with standing := .none } else x))) := by
  unfold partAfterStatus
  refine ⟨fun h => ?_, fun h1 h2 => ?_⟩
  · rw [if_pos ((statusPart_defrosting bs arrival).mpr h)]
    exact ⟨fun hd => by rw [hd]; rfl, fun x hd => by rw [hd]⟩
  · rw [if_neg (fun h => ((statusPart_defrosting bs arrival).mp h).elim h1 h2)]
    refine ⟨fun hd => by rw [hd], fun x hd => ?_⟩
    rw [hd]
    dsimp only
    split <;> rfl

theorem partAfterNotice_spec (d : Option DefrostPart) (h : HeardNotice) (arrival : Time) :
    (h.action = some .enter → partAfterNotice d h arrival = some ⟨.contending, h.account, h.forced, arrival⟩)
      ∧ (h.action = some .withdraw ∨ h.action = some .leave →
        partAfterNotice d h arrival = d.map (fun x => { x with standing := .none }))
      ∧ (h.action = none → partAfterNotice d h arrival = d) := by
  unfold partAfterNotice
  refine ⟨fun ha => by rw [ha], fun ha => ?_, fun ha => by rw [ha]⟩
  rcases ha with ha | ha <;> rw [ha]

theorem placeFreed_status {d : Option DefrostPart} {bs : List Byte} (arrival : Time) (hd : standingOf d = .defrosting)
    (h1 : byteAt bs 1 ≠ 5) (h2 : byteAt bs 8 % 8 ≠ 4) :
    placeFreed d (partAfterStatus d (statusPartOf bs arrival) arrival) = true := by
  cases d
  case none => cases hd
  case some x =>
    have hx : x.standing = .defrosting := hd
    rw [((partAfterStatus_spec (some x) bs arrival).2 h1 h2).2 x rfl, if_pos hx]
    simp [placeFreed, standingOf, hx]

theorem placeFreed_notice {d : Option DefrostPart} {h : HeardNotice} (arrival : Time) (hd : standingOf d ≠ .none)
    (ha : h.action = some .withdraw ∨ h.action = some .leave) : placeFreed d (partAfterNotice d h arrival) = true := by
  rw [(partAfterNotice_spec d h arrival).2.1 ha]
  cases d
  case none => exact absurd rfl hd
  case some x =>
    have hx : x.standing ≠ .none := hd
    simp [placeFreed, standingOf, hx]

/-! ## What a frame keeps -/

theorem enterFrame_peers {bs : List Byte} {k : FrameKind} (n : Nat) (arrival : Time) (x : State) (hk : frameKind bs = some k) :
    (enterFrame bs n arrival x).peers = insertPeer (senderRecord k bs n arrival x.peers) x.peers := by
  cases k
  case status => rw [enterFrame_status hk]; simp
  case defrost => rw [enterFrame_defrost hk]; simp
  case mode => rw [enterFrame_mode hk]; simp
  case boost => rw [enterFrame_boost hk]; simp

/-- A frame that is no STATUS of the reference leaves the clock but for the reference, the climate and the loader. -/
theorem enterFrame_unaligned {bs : List Byte} {k : FrameKind} {n : Nat} {arrival : Time} {x : State} (hk : frameKind bs = some k)
    (h : k ≠ .status ∨ (enterFrame bs n arrival x).clock.reference ≠ some n) :
    (enterFrame bs n arrival x).clock = (heardFrom k bs n arrival x).clock
      ∧ (enterFrame bs n arrival x).climate = x.climate ∧ (enterFrame bs n arrival x).loader = x.loader := by
  cases k
  case status =>
    have href := h.resolve_left (fun h => h rfl)
    rw [enterFrame_status hk] at href ⊢
    rw [alignment_other href]
    simp
  case defrost => rw [enterFrame_defrost hk]; simp
  case mode => rw [enterFrame_mode hk]; simp
  case boost => rw [enterFrame_boost hk]; simp

/-! ## The write-back enable -/

theorem requestWriteBack_writeEnabled (s : State) : (requestWriteBack s).loader.writeEnabled = s.loader.writeEnabled := by
  unfold requestWriteBack startWrite
  split
  · split <;> rfl
  · rfl

theorem raiseFilter_writeEnabled (f : FilterState) (s : State) :
    (raiseFilter f s).loader.writeEnabled = s.loader.writeEnabled := by
  unfold raiseFilter
  split
  · rfl
  · rw [requestWriteBack_writeEnabled]

theorem probeResult_writeEnabled (sp : Nat) (s : State) : (probeResult sp s).loader.writeEnabled = s.loader.writeEnabled := by
  unfold probeResult filterByLoad
  dsimp only
  split
  · rw [requestWriteBack_writeEnabled]
  · split
    · rw [raiseFilter_writeEnabled]
    · split
      · split
        · rw [raiseFilter_writeEnabled]
        · rfl
      · rfl

theorem filterTakesRecord_writeEnabled (r : HalfRecord) (s : State) :
    (filterTakesRecord r s).loader.writeEnabled = s.loader.writeEnabled := by
  have hlift (y : State) : (liftHold y).loader = y.loader ∧ (dropProbe y).loader = y.loader := ⟨rfl, rfl⟩
  have hjudged (y : State) : (judgeHalf r y).loader.writeEnabled = y.loader.writeEnabled := by
    unfold judgeHalf
    split
    · split
      · rfl
      · rw [(hlift y).2]
    · split
      · exact probeResult_writeEnabled _ _
      · rw [(hlift y).2]
    · rw [(hlift y).2]
    · rw [(hlift y).2]
    · rfl
  unfold filterTakesRecord
  split
  · rw [hjudged, (hlift s).1]
  · rfl

theorem boundaryWith_writeEnabled (len : Nat) (e : Time) (s : State) :
    (boundaryWith len e s).loader.writeEnabled = s.loader.writeEnabled := by
  obtain ⟨-, -, -, -, -, -, -, hloader, -⟩ := closeBoundary_parts (frostTurn (handed len e s) (recorded len e s))
  rw [boundaryWith_eq, hloader, frostTurn_loader]
  unfold recorded
  rw [filterTakesRecord_writeEnabled, (outdoorTakesRecord_probe _ _).2.2.2]
  simp [turned, advanceClock]

theorem boundaryIfDue_writeEnabled (s : State) : (boundaryIfDue s).loader.writeEnabled = s.loader.writeEnabled := by
  unfold boundaryIfDue
  split
  · exact boundaryWith_writeEnabled _ _ s
  · rfl

theorem resync_writeEnabled (p : StatusPart) (s : State) : (resync p s).loader.writeEnabled = s.loader.writeEnabled := by
  unfold resync
  dsimp only
  split
  · rw [boundaryIfDue_writeEnabled]
  · rw [boundaryIfDue_writeEnabled]
    simp

theorem alignment_writeEnabled (n : Nat) (p : StatusPart) (s : State) :
    (alignment n p s).loader.writeEnabled = s.loader.writeEnabled := by
  unfold alignment alignTo
  dsimp only
  split
  · split
    · rw [boundaryIfDue_writeEnabled]
    · split
      · rw [boundaryIfDue_writeEnabled, boundaryWith_writeEnabled]
      · split
        · split
          · rw [resync_writeEnabled]
          · rfl
        · rw [resync_writeEnabled]
  · rfl

theorem enterFrame_writeEnabled {bs : List Byte} {k : FrameKind} {n : Nat} {arrival : Time} {x : State} (hk : frameKind bs = some k) :
    (enterFrame bs n arrival x).loader.writeEnabled = x.loader.writeEnabled := by
  by_cases h : k = .status
  · subst h
    rw [enterFrame_status hk, alignment_writeEnabled]
    simp
  · rw [(enterFrame_unaligned hk (.inl h)).2.2]

/-! ## The want test -/

theorem wantTestMade_congr {t : Time} {s a b : State} (h : wantTestMade t s a) (hfrost : b.frost = a.frost)
    (hplaces : placesInUse b = placesInUse a) (hslot : b.line.defrostSlot = a.line.defrostSlot) : wantTestMade t s b := by
  unfold wantTestMade at h ⊢
  rw [hfrost, hplaces, hslot]
  exact h

/-- An alignment that crosses no boundary and needs no resync moves nothing but the clock. -/
theorem alignment_quiet {n : Nat} {p : StatusPart} {z : State}
    (h : (alignment n p z).clock.reference ≠ some n ∨ (z.clock.c = p.half ∧ z.now < p.endEstimate)) :
    ∃ k, alignment n p z = { z with clock := k } := by
  rcases h with h | ⟨hc, he⟩
  · exact ⟨z.clock, alignment_other h⟩
  · unfold alignment
    split
    · have hnot : boundaryDue { z with clock := { z.clock with
          heardLength := some p.halfLength, endTime := some p.endEstimate, length := p.halfLength } } = false := by
        have hlate : reached (some p.endEstimate) z.now = false := by
          simpa [reached] using he
        simp [boundaryDue, hlate]
      unfold alignTo boundaryIfDue
      dsimp only
      rw [if_pos hc]
      exact ⟨_, if_neg (by rw [hnot]; exact nofun)⟩
    · exact ⟨z.clock, rfl⟩

/-- Where a STATUS frees a place and brings neither a boundary nor a resync, the want test is made. -/
theorem status_wants {bs : List Byte} {n : Nat} {arrival t : Time} {m s x : State} (hk : frameKind bs = some .status)
    (hfrost : x.frost = s.frost) (hseq : x.seq = s.seq) (hcfg : x.cfg = s.cfg) (hactive : x.line.active = s.line.active)
    (hnow : x.now = timeAfter t s) (hd : standingOf (heardPeer x.peers n arrival).defrost = .defrosting)
    (h1 : byteAt bs 1 ≠ 5) (h2 : byteAt bs 8 % 8 ≠ 4)
    (h : (enterFrame bs n arrival x).clock.reference ≠ some n
      ∨ (x.clock.c = (statusPartOf bs arrival).half ∧ x.now < (statusPartOf bs arrival).endEstimate)) :
    wantTestMade t s (finish m (enterFrame bs n arrival x)) := by
  have hfreed := placeFreed_status arrival hd h1 h2
  rw [enterFrame_status hk, hfreed] at h ⊢
  obtain ⟨w, hw⟩ : ∃ w, w = weighOffer (statusOffer bs) false (heardFrom .status bs n arrival x) := ⟨_, rfl⟩
  have hclock : (heardFrom .status bs n arrival x).clock.c = x.clock.c := by rw [heardFrom_clock]
  have hkept : w.frost = s.frost ∧ w.seq = s.seq ∧ w.cfg = s.cfg ∧ w.line.active = s.line.active ∧ w.now = timeAfter t s
      ∧ w.clock.c = x.clock.c := by
    refine ⟨?_, ?_, ?_, ?_, ?_, ?_⟩ <;> rw [hw]
    · simp [hfrost]
    · rw [weighOffer_uncalled_seq]
      simp [hseq]
    · simp [hcfg]
    · simp [hactive]
    · simp [hnow]
    · simp [hclock]
  rw [← hw] at h ⊢
  obtain ⟨hwfrost, hwseq, hwcfg, hwactive, hwnow, hwc⟩ := hkept
  have hreport : reportPlace true w = wantTest w := if_pos rfl
  rw [hreport] at h ⊢
  obtain ⟨k, hquiet⟩ := alignment_quiet (n := n) (p := statusPartOf bs arrival) (z := wantTest w)
    (h.imp_right fun ⟨hc, he⟩ => ⟨by simpa [hwc] using hc, by simpa [hwnow, ← hnow] using he⟩)
  rw [hquiet]
  refine wantTestMade_congr (wantTestMade_of (t := t) m hwfrost hwseq hwcfg hwactive hwnow) (by simp) ?_ ?_
  · exact placesInUse_of_eq (by simp) (by simp)
  · have hslot (y : State) : (finish m y).line.defrostSlot = y.line.defrostSlot :=
      steady_field (f := LineRec.defrostSlot) (fun _ => rfl) (finish_line_steady m y)
    rw [hslot, hslot]

/-- Where a notice frees a place the want test is made. -/
theorem notice_wants {bs : List Byte} {n : Nat} {arrival t : Time} {m s x : State} (hk : frameKind bs = some .defrost)
    (hfrost : x.frost = s.frost) (hseq : x.seq = s.seq) (hcfg : x.cfg = s.cfg) (hactive : x.line.active = s.line.active)
    (hnow : x.now = timeAfter t s) (hd : standingOf (heardPeer x.peers n arrival).defrost ≠ .none)
    (ha : (noticeOf bs).action = some .withdraw ∨ (noticeOf bs).action = some .leave) :
    wantTestMade t s (finish m (enterFrame bs n arrival x)) := by
  rw [enterFrame_defrost hk, placeFreed_notice arrival hd ha]
  exact (reportPlace_made m (by simp [hfrost]) (by simp [hseq]) (by simp [hcfg]) (by simp [hactive]) (by simp [hnow])).2 rfl

/-! ## The obligation -/

/-- The sender's record, by the kind of the frame. -/
theorem senderRecord_parts (k : FrameKind) (bs : List Byte) (n : Nat) (arrival : Time) (ps : List PeerRec) (q : Option PeerRec)
    (hq : q = findPeer ps n) :
    (k = .status → (senderRecord k bs n arrival ps).status = some (statusPartOf bs arrival)
      ∧ (senderRecord k bs n arrival ps).defrost = partAfterStatus (q.bind (·.defrost)) (statusPartOf bs arrival) arrival)
    ∧ (k = .defrost → (senderRecord k bs n arrival ps).defrost
        = partAfterNotice (q.bind (·.defrost)) (noticeOf bs) arrival) := by
  obtain ⟨-, -, -, hdefrost⟩ := heardPeer_spec ps n arrival
  rw [hq, ← hdefrost]
  refine ⟨fun h => ?_, fun h => ?_⟩ <;> subst h
  · exact ⟨rfl, rfl⟩
  · rfl

/-- Settles O49: the record of the sender, and what the entry of its frame keeps. -/
theorem frameEntersThePeerTable : Obligations.FrameEntersThePeerTable := by
  intro bs k arrival t s hr hstraps hactive htrans hassembly hbusy hk hlen hsum hindex
  refine ⟨_, exec_frame hr hstraps hactive htrans hassembly hbusy hk hlen hsum hindex, ?_⟩
  obtain ⟨hseq, hclock, hfrost, hclimate, hloader, -, -, -, -, -, hpeers, hcfg, -, hlane, hstation, hclass, hpending, hline, hempty, -⟩ :=
    opened_keeps bs t s
  have hnow := opened_now bs t s
  generalize opened bs t s = x at *
  generalize advance t s = m
  generalize hn : frameIndex bs + 1 = n
  have hfind (ps : List PeerRec) : ps.find? (fun q => q.number = n) = findPeer ps n := rfl
  obtain ⟨hnumber, hfresh, hheard, hstatus, hdefrost⟩ := senderRecord_spec k bs n arrival s.peers
  have hspeers : (finish m (enterFrame bs n arrival x)).peers = insertPeer (senderRecord k bs n arrival s.peers) s.peers := by
    rw [← hpeers, ← enterFrame_peers n arrival x hk]
    simp
  obtain ⟨-, -, -, hheardDefrost⟩ := heardPeer_spec s.peers n arrival
  refine ⟨by simp [hempty], ⟨senderRecord k bs n arrival s.peers, ?_, hnumber, hfresh, hheard, fun h => ?_, fun h ha => ?_,
    fun h ha d hd => ?_, fun q hq => ⟨fun h => ?_, fun h => ?_, fun h ha => ?_⟩⟩, fun h => ?_, fun h hwas h1 h2 hquiet => ?_,
    fun h ha hwas => ?_, fun q hq hne => ?_, fun q hq hne => ?_, by simp [hcfg], ?_, by simp [hlane], by simp [hstation],
    by simp [hclass], by simp [hpending]⟩
  · rw [hspeers]
    exact mem_insertPeer_self _ _
  · obtain ⟨hpart, hstanding⟩ := (senderRecord_parts k bs n arrival s.peers _ rfl).1 h
    refine ⟨hpart, fun d hd => ?_⟩
    have hbind : (findPeer s.peers n).bind (·.defrost) = d := by
      rcases hd with ⟨hnone, rfl⟩ | ⟨q, hsome, rfl⟩
      · rw [← hfind, hnone]
        rfl
      · rw [← hfind, hsome]
        rfl
    rw [hstanding, hbind]
    exact partAfterStatus_spec d bs arrival
  · rw [(senderRecord_parts k bs n arrival s.peers _ rfl).2 h]
    exact (partAfterNotice_spec _ _ _).1 ha
  · rw [(senderRecord_parts k bs n arrival s.peers _ rfl).2 h, (partAfterNotice_spec _ _ _).2.1 ha] at hd
    obtain ⟨y, -, rfl⟩ := Option.mem_map.mp hd
    rfl
  · rw [hq]
    exact hstatus h
  · rcases h with h | h | ⟨h, ha⟩
    · rw [hq]
      exact hdefrost (.inl h)
    · rw [hq]
      exact hdefrost (.inr h)
    · rw [(senderRecord_parts k bs n arrival s.peers q hq).2 h]
      exact (partAfterNotice_spec _ _ _).2.2 ha
  · rw [(senderRecord_parts k bs n arrival s.peers q hq).2 h]
    exact (partAfterNotice_spec _ _ _).2.1 ha
  · have hfinish : (finish m (enterFrame bs n arrival x)).clock = (enterFrame bs n arrival x).clock
        ∧ (finish m (enterFrame bs n arrival x)).climate = (enterFrame bs n arrival x).climate
        ∧ (finish m (enterFrame bs n arrival x)).loader = (enterFrame bs n arrival x).loader := by simp
    rw [hfinish.1] at h
    obtain ⟨hc, hcl, hl⟩ := enterFrame_unaligned hk h
    rw [hfinish.1, hfinish.2.1, hfinish.2.2, hc, hcl, hl, heardFrom_clock, hclock]
    exact ⟨rfl, fun he => if_pos he, hclimate, hloader⟩
  · obtain ⟨q, -, hsome, hq⟩ := hwas
    refine status_wants (x := x) (h ▸ hk) hfrost hseq hcfg hline hnow ?_ h1 h2 ?_
    · rw [hpeers, hheardDefrost, ← hfind, hsome]
      exact hq
    · rw [hclock, hnow]
      exact hquiet.imp_left fun href => by simpa using href
  · obtain ⟨q, -, hsome, hq⟩ := hwas
    refine notice_wants (x := x) (n := n) (arrival := arrival) (h ▸ hk) hfrost hseq hcfg hline hnow ?_ ha
    rw [hpeers, hheardDefrost, ← hfind, hsome]
    exact hq
  · rw [hspeers]
    exact mem_insertPeer_other hq (by rw [hnumber]; exact hne)
  · rw [hspeers] at hq
    rcases insertPeer_numbers_mem _ _ _ hq with rfl | hmem
    · exact absurd hnumber hne
    · exact hmem
  · rw [← hloader, ← enterFrame_writeEnabled (n := n) (arrival := arrival) (x := x) hk]
    simp

end Sys2Proof.Proofs

/-! The alignment to the timing reference, and the theorem of O51. -/

namespace Sys2Proof.Proofs

open Sys2Proof.Machine

/-! ## The reference -/

/-- The running peer of the lowest number is the reference, where that is below the own number. -/
theorem timingReference_lowest {y : State} {n : Nat} (hline : y.line.active = false) (hrun : y.clock.running = true)
    (hown : n ≤ ownNumber y) (hmem : ∃ q ∈ y.peers, q.counts = true ∧ q.number = n)
    (hlow : ∀ q ∈ y.peers, q.counts = true → n ≤ q.number) : timingReference y = some n := by
  unfold timingReference
  rw [hrun, hline, if_pos rfl, if_neg nofun]
  dsimp only
  rw [List.min?_eq_some_iff]
  refine ⟨?_, fun x hx => ?_⟩
  · obtain ⟨q, hq, hcounts, rfl⟩ := hmem
    exact List.mem_append_right _ (List.mem_map_of_mem (List.mem_filter.mpr ⟨hq, hcounts⟩))
  · rcases List.mem_append.mp hx with h | h
    · rw [List.mem_singleton.mp h]
      exact hown
    · obtain ⟨q, hq, rfl⟩ := List.mem_map.mp h
      obtain ⟨hq, hcounts⟩ := List.mem_filter.mp hq
      exact hlow q hq hcounts

/-- A STATUS of a running station below all others makes its sender the reference. -/
theorem heardFrom_reference {bs : List Byte} {n : Nat} {arrival : Time} {x : State} (hstate : x.seq.state ≠ .starting)
    (hline : x.line.active = false) (hrun : x.clock.running = true) (hsender : (statusPartOf bs arrival).running = true)
    (hown : n ≤ ownNumber x) (hlow : ∀ q ∈ x.peers, q.counts = true → n ≤ q.number) :
    (heardFrom .status bs n arrival x).clock.reference = some n := by
  obtain ⟨hnumber, hfresh, -⟩ := senderRecord_spec .status bs n arrival x.peers
  have hstatus := ((senderRecord_parts .status bs n arrival x.peers _ rfl).1 rfl).1
  have hcounts : (senderRecord .status bs n arrival x.peers).counts = true := by
    unfold PeerRec.counts
    rw [hfresh, hstatus, Option.any_some, hsender]
    rfl
  unfold heardFrom
  rw [reformReference_reference (by simpa using hstate)]
  refine timingReference_lowest hline hrun hown ⟨_, mem_insertPeer_self _ _, hcounts, hnumber⟩ fun q hq hc => ?_
  rcases insertPeer_numbers_mem _ _ _ hq with rfl | hmem
  · rw [hnumber]
  · exact hlow q hmem hc

/-! ## A boundary at once -/

/-- A boundary has been crossed that left this clock: the marked STATUS is pending, the active level has risen and the
collection is open. -/
structure Crossed (k : ClockRec) (y : State) : Prop where
  clock : y.clock = k
  pending : y.line.statusSlot.pending = true
  mark : y.line.statusMark = true
  active : y.demand.active = y.demand.requested
  opened : y.climate.openTime = some y.now

theorem crossed_boundaryWith (len : Nat) (e : Time) (s : State) :
    Crossed { s.clock with c := s.clock.c + 1, startTime := some s.now, length := len, endTime := some e } (boundaryWith len e s) := by
  have hheld := held_closeBoundary (frostTurn (handed len e s) (recorded len e s))
  rw [← boundaryWith_eq] at hheld
  refine ⟨boundaryWith_clock len e s, ?_, ?_, ?_, ?_⟩
  · rw [boundaryWith_eq]
    rfl
  · rw [boundaryWith_eq]
    exact Bool.or_true _
  · exact (congrArg Held.active hheld).trans (congrArg Held.requested hheld).symm
  · obtain ⟨y, hclimate, -, hy⟩ := recorded_climate len e s
    have hkept : (boundaryWith len e s).climate = (recorded len e s).climate := by
      rw [boundaryWith_eq, (closeBoundary_parts _).2.2.2.1]
      simp [frostTurn]
    rw [hkept, hclimate, (outdoorTakesRecord_collection _ y).1, hy]
    simp

theorem crossed_finish {k : ClockRec} {y : State} (m : State) (h : Crossed k y) : Crossed k (finish m y) := by
  have hheld := held_finish m y
  have hclimate : (finish m y).climate = y.climate := congrArg Held.climate hheld
  refine ⟨(congrArg Held.clock hheld).trans h.clock, finish_statusPending h.pending, by rw [finish_statusMark, h.mark],
    (congrArg Held.active hheld).trans (h.active.trans (congrArg Held.requested hheld).symm), ?_⟩
  rw [hclimate, h.opened]
  simp

/-- An aligned clock whose end estimate is reached crosses a boundary with the heard length from now; otherwise none. -/
theorem boundaryIfDue_aligned {y : State} {n len : Nat} {e : Time} (hrun : y.clock.running = true)
    (he : y.clock.endTime = some e) (href : y.clock.reference = some n) (hown : n ≠ ownNumber y)
    (hheard : y.clock.heardLength = some len) :
    (y.now < e → boundaryIfDue y = y)
      ∧ (e ≤ y.now → boundaryIfDue y = boundaryWith len (y.now + seconds len) y) := by
  have hlen : nextLength y = len := by
    unfold nextLength
    rw [href, hheard]
    exact if_neg hown
  unfold boundaryIfDue boundaryDue
  rw [hrun, he, Bool.true_and]
  refine ⟨fun h => if_neg ?_, fun h => ?_⟩
  · rw [Bool.not_eq_true]
    simpa [reached] using h
  · have hreached : reached (some e) y.now = true := by simpa [reached] using h
    rw [if_pos hreached, boundary, hlen]

/-! ## The cases of the alignment -/

/-- The heard length has been taken. -/
def heardLengthTaken (p : StatusPart) (z : State) : State :=
  { z with clock := { z.clock with heardLength := some p.halfLength } }

/-- A station in the reference's half takes its end and length. -/
def endTaken (p : StatusPart) (z : State) : State :=
  { heardLengthTaken p z with clock := { (heardLengthTaken p z).clock with
      endTime := some p.endEstimate, length := p.halfLength } }

/-- The clock of a resync. -/
def countTaken (p : StatusPart) (z : State) : State :=
  { heardLengthTaken p z with clock := { (heardLengthTaken p z).clock with
      c := p.half, endTime := some p.endEstimate, length := p.halfLength, startTime := some z.now } }

/-- The sequencer's part of a resync. -/
def resynced (p : StatusPart) (z : State) : State :=
  if laneDirection z.lane p.half = laneDirectionNow z then countTaken p z
  else abandonProbe (sequencerOnNotice (laneDirection z.lane p.half) (countTaken p z))

theorem alignTo_eq (p : StatusPart) (z : State) : alignTo p z
    = if z.clock.c = p.half then boundaryIfDue (endTaken p z)
      else if z.clock.c + 1 = p.half then boundaryIfDue (boundaryWith p.halfLength p.endEstimate (heardLengthTaken p z))
      else if z.clock.c = p.half + 1 then
        (if aheadTooLong z then boundaryIfDue (resynced p z) else heardLengthTaken p z)
      else boundaryIfDue (resynced p z) := rfl

theorem alignTo_heardLength (p : StatusPart) (z : State) : (alignTo p z).clock.heardLength = some p.halfLength := by
  have hresynced : (resynced p z).clock.heardLength = some p.halfLength := by
    unfold resynced
    split
    · rfl
    · simp [countTaken, heardLengthTaken]
  rw [alignTo_eq]
  (repeat' split) <;> simp [hresynced, endTaken, heardLengthTaken]

theorem half_succ (h : BitVec 8) : h + 1 ≠ h ∧ h + 1 + 1 ≠ h := by
  constructor <;> bv_omega

/-- A resync leaves this clock, and of the rest only what a notice to the sequencer moves. -/
theorem resynced_keeps (p : StatusPart) (z : State) :
    (resynced p z).clock = (countTaken p z).clock ∧ (resynced p z).climate = z.climate ∧ (resynced p z).now = z.now
      ∧ (resynced p z).line.statusMark = z.line.statusMark ∧ (resynced p z).stationIndex = z.stationIndex := by
  unfold resynced
  split
  · exact ⟨rfl, rfl, rfl, rfl, rfl⟩
  · have hmark (y : State) : (abandonProbe y).line.statusMark = y.line.statusMark := by simp
    rw [hmark, (tells_sequencerOnNotice _ _).asks.mark]
    refine ⟨by simp, by simp [countTaken, heardLengthTaken], by simp [countTaken, heardLengthTaken], rfl,
      by simp [countTaken, heardLengthTaken]⟩

/-- The sequencer after a resync that turns the lane direction, and after one that does not. -/
theorem resynced_sequencer (p : StatusPart) (z : State) :
    (laneDirection z.lane p.half = laneDirectionNow z → (resynced p z).seq = z.seq)
    ∧ (laneDirection z.lane p.half ≠ laneDirectionNow z → (resynced p z).filter.probing = false
      ∧ (∀ d : Dir, z.seq.state = d.state → (resynced p z).seq = { z.seq with
            state := .reversing, target := some (laneDirection z.lane p.half).target
            phase := some (firstPhase z.fan.speed), phaseStart := some z.now }
          ∧ (resynced p z).fan.driveOutput = 0)
      ∧ (∀ d : Dir, z.seq.state = .reversing → z.seq.target = some d.target →
          (resynced p z).seq.state = .reversing ∧ (resynced p z).seq.target = some (laneDirection z.lane p.half).target)
      ∧ ((∀ d : Dir, z.seq.state ≠ d.state) → z.seq.state ≠ .reversing → (resynced p z).seq = z.seq)) := by
  unfold resynced
  refine ⟨fun h => by rw [if_pos h]; rfl, fun h => ?_⟩
  rw [if_neg h]
  obtain ⟨y, hy⟩ : ∃ y, y = countTaken p z := ⟨_, rfl⟩
  have hkept : y.seq = z.seq ∧ y.fan = z.fan ∧ y.now = z.now := by rw [hy]; exact ⟨rfl, rfl, rfl⟩
  rw [← hy, ← hkept.1, ← hkept.2.1, ← hkept.2.2]
  generalize laneDirection z.lane p.half = d
  have hprobing (w : State) : (abandonProbe w).filter.probing = false := by
    rw [abandonProbe_eq]
    exact abandoned_probing _ _
  have hseq (w : State) : (abandonProbe w).seq = w.seq ∧ (abandonProbe w).fan.driveOutput = w.fan.driveOutput := by simp
  rw [(hseq _).1, (hseq _).2]
  refine ⟨hprobing _, fun d' hs => ?_, fun d' hs ht => ?_, fun hno hnot => ?_⟩
  · have hbegun : sequencerOnNotice d y = beginReversing d.target y := by
      unfold sequencerOnNotice
      rw [hs]
      cases d' <;> rfl
    rw [hbegun, beginReversing_seq, beginReversing_driveOutput]
    exact ⟨rfl, rfl⟩
  · have hretarget : sequencerOnNotice d y = retarget d.target y := by
      unfold sequencerOnNotice
      rw [hs, ht]
      cases d' <;> rfl
    rw [hretarget]
    obtain ⟨hstate, htarget, -⟩ := retarget_moves (g := d.target) hs ht
    exact ⟨hstate, htarget⟩
  · have hnone : sequencerOnNotice d y = y := by
      unfold sequencerOnNotice
      have hsupply := hno .supply
      have hextract := hno .extract
      cases hs : y.seq.state <;> simp_all [Dir.state]
    rw [hnone]

/-! ## The state that the alignment finds -/

/-- What a STATUS of the reference has become when the alignment is made. -/
structure Heard (n : Nat) (t : Time) (s z : State) : Prop where
  clock : ∃ h, z.clock = { s.clock with reference := some n, heardLength := h }
  now : z.now = timeAfter t s
  climate : z.climate = s.climate
  mark : z.line.statusMark = s.line.statusMark
  lane : z.lane = s.lane
  station : z.stationIndex = s.stationIndex
  seq : s.frost.account < 1600 → z.seq = s.seq
  speed : z.fan.speed = s.fan.speed

theorem heard_status {bs : List Byte} {n : Nat} {arrival t : Time} {s x : State} (freed : Bool)
    (href : (heardFrom .status bs n arrival x).clock.reference = some n) (hclock : x.clock = s.clock)
    (hnow : x.now = timeAfter t s) (hclimate : x.climate = s.climate) (hmark : x.line.statusMark = s.line.statusMark)
    (hlane : x.lane = s.lane) (hstation : x.stationIndex = s.stationIndex) (hfrost : x.frost = s.frost) (hseq : x.seq = s.seq)
    (hspeed : x.fan.speed = s.fan.speed) :
    Heard n t s (reportPlace freed (weighOffer (statusOffer bs) false (heardFrom .status bs n arrival x))) := by
  obtain ⟨w, hw⟩ : ∃ w, w = weighOffer (statusOffer bs) false (heardFrom .status bs n arrival x) := ⟨_, rfl⟩
  rw [← hw]
  have hwclock : (reportPlace freed w).clock = (heardFrom .status bs n arrival x).clock := by simp [hw]
  have hform := heardFrom_clock .status bs n arrival x
  rw [href, hclock] at hform
  refine ⟨⟨_, hwclock.trans hform⟩, ?_, ?_, ?_, ?_, ?_, fun hlow => ?_, ?_⟩
  · simp [hw, hnow]
  · simp [hw, hclimate]
  · rw [(tells_reportPlace freed w).asks.mark, hw]
    simp [hmark]
  · simp [hw, hlane]
  · simp [hw, hstation]
  · have hwseq : w.seq = s.seq := by
      rw [hw, weighOffer_uncalled_seq]
      simp [hseq]
    have hidle : wantTest w = w := by
      refine wantTest_idle ?_
      rw [← Bool.not_eq_true, wantHolds_iff]
      have haccount : w.frost.account = s.frost.account := by simp [hw, hfrost]
      omega
    unfold reportPlace
    rw [hidle, ite_self, hwseq]
  · simp [hw, hspeed]

/-- The clock of an aligned station, from that of before. -/
def clockFrom (n : Nat) (p : StatusPart) (k : ClockRec) : ClockRec :=
  { k with reference := some n, heardLength := some p.halfLength }

section
variable {n : Nat} {t : Time} {s z : State} {p : StatusPart}

theorem Heard.heardClock (h : Heard n t s z) : (heardLengthTaken p z).clock = clockFrom n p s.clock := by
  obtain ⟨k, hk⟩ := h.clock
  unfold heardLengthTaken
  rw [hk]
  rfl

theorem Heard.parts (h : Heard n t s z) : z.clock.c = s.clock.c ∧ z.clock.running = s.clock.running
    ∧ z.clock.reference = some n ∧ laneDirectionNow z = laneDirection s.lane s.clock.c := by
  obtain ⟨k, hk⟩ := h.clock
  unfold laneDirectionNow
  rw [hk, h.lane]
  exact ⟨rfl, rfl, rfl, rfl⟩

/-- Whether the reference's half has been waited for too long. -/
theorem Heard.aheadTooLong_iff (h : Heard n t s z) : aheadTooLong z = true ↔
    ∃ b, s.clock.startTime = some b ∧ 10 * s.clock.length / 4 < (timeAfter t s - b) / 25000 := by
  obtain ⟨k, hk⟩ := h.clock
  unfold aheadTooLong elapsed inTenths
  rw [hk, h.now]
  dsimp only
  cases s.clock.startTime <;> simp

/-- The end estimate is ahead: the alignment takes the reference's half, or waits. -/
theorem Heard.aligned (h : Heard n t s z) (hrun : s.clock.running = true) (hown : n ≠ ownNumber s) (he : timeAfter t s < p.endEstimate) :
    (s.clock.c = p.half → alignTo p z = endTaken p z)
    ∧ (s.clock.c + 1 = p.half → Crossed { clockFrom n p s.clock with
        c := p.half, startTime := some (timeAfter t s), endTime := some p.endEstimate, length := p.halfLength } (alignTo p z))
    ∧ ((s.clock.c ≠ p.half ∧ s.clock.c + 1 ≠ p.half ∧ s.clock.c ≠ p.half + 1)
        ∨ (s.clock.c = p.half + 1 ∧ aheadTooLong z = true) → alignTo p z = resynced p z) := by
  obtain ⟨hc, hzrun, hzref, -⟩ := h.parts
  have hzown : n ≠ ownNumber z := by rwa [ownNumber, h.station]
  have hznow : z.now < p.endEstimate := by rwa [h.now]
  rw [alignTo_eq, hc]
  refine ⟨fun hcase => ?_, fun hcase => ?_, fun hcase => ?_⟩
  · rw [if_pos hcase]
    exact (boundaryIfDue_aligned (y := endTaken p z) (hzrun.trans hrun) rfl hzref hzown rfl).1 hznow
  · have hne : s.clock.c ≠ p.half := fun e => (half_succ p.half).1 (by rwa [e] at hcase)
    have hcrossed := crossed_boundaryWith p.halfLength p.endEstimate (heardLengthTaken p z)
    have hkept := hcrossed.clock
    rw [if_neg hne, if_pos hcase]
    rw [(boundaryIfDue_aligned (n := n) (len := p.halfLength) (e := p.endEstimate) ?_ (by rw [hkept]) ?_ ?_ ?_).1 ?_]
    · rw [h.heardClock] at hcrossed
      have hform : (clockFrom n p s.clock).c + 1 = p.half ∧ (heardLengthTaken p z).now = timeAfter t s := ⟨hcase, h.now⟩
      rwa [hform.1, hform.2] at hcrossed
    · rw [hkept]
      exact hzrun.trans hrun
    · rw [hkept]
      exact hzref
    · simpa [ownNumber, heardLengthTaken] using hzown
    · rw [hkept]
      rfl
    · simpa [heardLengthTaken] using hznow
  · have hdue : boundaryIfDue (resynced p z) = resynced p z := by
      obtain ⟨hclock, -, hnow, -, hstation⟩ := resynced_keeps p z
      refine (boundaryIfDue_aligned (n := n) (len := p.halfLength) (e := p.endEstimate) ?_ ?_ ?_ ?_ ?_).1 ?_
      · rw [hclock]
        exact hzrun.trans hrun
      · rw [hclock]
        rfl
      · rw [hclock]
        exact hzref
      · rwa [ownNumber, hstation]
      · rw [hclock]
        rfl
      · rwa [hnow]
    rcases hcase with ⟨h1, h2, h3⟩ | ⟨h1, h2⟩
    · rw [if_neg h1, if_neg h2, if_neg h3, hdue]
    · rw [h1, if_neg (half_succ p.half).1, if_neg (half_succ p.half).2, if_pos rfl, if_pos h2, hdue]

/-- The end estimate is reached: a boundary is crossed at once, from the reference's half. -/
theorem Heard.due (h : Heard n t s z) (hrun : s.clock.running = true) (hown : n ≠ ownNumber s) (he : p.endEstimate ≤ timeAfter t s)
    (hcase : s.clock.c = p.half ∨ s.clock.c + 1 = p.half
      ∨ (s.clock.c ≠ p.half ∧ s.clock.c + 1 ≠ p.half ∧ s.clock.c ≠ p.half + 1)
      ∨ (s.clock.c = p.half + 1 ∧ aheadTooLong z = true)) :
    Crossed { clockFrom n p s.clock with
      c := p.half + 1, startTime := some (timeAfter t s), length := p.halfLength
      endTime := some (timeAfter t s + seconds p.halfLength) } (alignTo p z) := by
  obtain ⟨hc, hzrun, hzref, -⟩ := h.parts
  have hzown : n ≠ ownNumber z := by rwa [ownNumber, h.station]
  have hznow : p.endEstimate ≤ z.now := by rwa [h.now]
  have hheard := h.heardClock (p := p)
  have hcross {y : State} {k : ClockRec} (hk : y.clock = { clockFrom n p s.clock with
        c := p.half, startTime := k.startTime, endTime := some p.endEstimate, length := k.length })
      (hynow : y.now = z.now) (hstation : y.stationIndex = z.stationIndex) :
      Crossed { clockFrom n p s.clock with
        c := p.half + 1, startTime := some (timeAfter t s), length := p.halfLength
        endTime := some (timeAfter t s + seconds p.halfLength) } (boundaryIfDue y) := by
    have hcrossed := crossed_boundaryWith p.halfLength (y.now + seconds p.halfLength) y
    rw [(boundaryIfDue_aligned (n := n) (len := p.halfLength) (e := p.endEstimate) (by rw [hk]; exact hrun) (by rw [hk])
      (by rw [hk]; rfl) (by rwa [ownNumber, hstation]) (by rw [hk]; rfl)).2 (by rwa [hynow])]
    rw [hk, hynow, h.now] at hcrossed
    rw [hynow, h.now]
    exact hcrossed
  have hresynced : Crossed { clockFrom n p s.clock with
      c := p.half + 1, startTime := some (timeAfter t s), length := p.halfLength
      endTime := some (timeAfter t s + seconds p.halfLength) } (boundaryIfDue (resynced p z)) := by
    obtain ⟨hclock, -, hnow, -, hstation⟩ := resynced_keeps p z
    refine hcross (k := (countTaken p z).clock) (hclock.trans ?_) hnow hstation
    unfold countTaken
    rw [hheard]
  rw [alignTo_eq, hc]
  rcases hcase with hcase | hcase | ⟨h1, h2, h3⟩ | ⟨h1, h2⟩
  · rw [if_pos hcase]
    refine hcross (k := (endTaken p z).clock) ?_ rfl rfl
    unfold endTaken
    rw [hheard]
    have hcount : (clockFrom n p s.clock).c = p.half := hcase
    rw [← hcount]
  · have hne : s.clock.c ≠ p.half := fun e => (half_succ p.half).1 (by rwa [e] at hcase)
    have hkept := (crossed_boundaryWith p.halfLength p.endEstimate (heardLengthTaken p z)).clock
    rw [if_neg hne, if_pos hcase]
    refine hcross (k := (boundaryWith p.halfLength p.endEstimate (heardLengthTaken p z)).clock) ?_ (by simp [heardLengthTaken])
      (by simp [heardLengthTaken])
    rw [hkept, hheard]
    have hcount : (clockFrom n p s.clock).c + 1 = p.half := hcase
    rw [hcount]
  · rw [if_neg h1, if_neg h2, if_neg h3]
    exact hresynced
  · rw [h1, if_neg (half_succ p.half).1, if_neg (half_succ p.half).2, if_pos rfl, if_pos h2]
    exact hresynced

/-- A station that is ahead, and not for too long, waits. -/
theorem Heard.waits (h : Heard n t s z) (hc : s.clock.c = p.half + 1) (hshort : aheadTooLong z = false) :
    alignTo p z = heardLengthTaken p z := by
  rw [alignTo_eq, h.parts.1, hc, if_neg (half_succ p.half).1, if_neg (half_succ p.half).2, if_pos rfl, hshort, if_neg nofun]

end

end Sys2Proof.Proofs

/-! The theorem of O51. -/

namespace Sys2Proof.Proofs

open Sys2Proof.Machine

/-- The announced fields tell the half number. -/
theorem count_of_announced {x y : State} (h : announced x = announced y) : x.clock.c = y.clock.c := by
  have hbyte (w : State) : (announced w).getD 3 0 = w.clock.c := rfl
  rw [← hbyte, ← hbyte, h]

section
variable {n : Nat} {t : Time} {s z M : State} {p : StatusPart}

theorem Heard.resynced_clock (h : Heard n t s z) : (resynced p z).clock = { clockFrom n p s.clock with
    c := p.half, startTime := some (timeAfter t s), endTime := some p.endEstimate, length := p.halfLength } := by
  rw [(resynced_keeps p z).1, ← h.heardClock, ← h.now]
  rfl

/-- What a resync that crosses no boundary answers. -/
theorem Heard.answers_resync (h : Heard n t s z) (hM : M.clock = s.clock) (hne : s.clock.c ≠ p.half) :
    (finish M (resynced p z)).clock = { clockFrom n p s.clock with
        c := p.half, startTime := some (timeAfter t s), endTime := some p.endEstimate, length := p.halfLength }
      ∧ (finish M (resynced p z)).line.statusMark = s.line.statusMark
      ∧ (finish M (resynced p z)).line.statusSlot.pending = true
      ∧ (finish M (resynced p z)).climate.openTime = s.climate.openTime
      ∧ (finish M (resynced p z)).climate.ring = s.climate.ring
      ∧ (laneDirection s.lane p.half ≠ laneDirection s.lane s.clock.c → (finish M (resynced p z)).filter.probing = false)
      ∧ (s.frost.account < 1600 →
        (laneDirection s.lane p.half = laneDirection s.lane s.clock.c → (finish M (resynced p z)).seq = s.seq)
        ∧ (laneDirection s.lane p.half ≠ laneDirection s.lane s.clock.c →
          (∀ d : Dir, s.seq.state = d.state → (finish M (resynced p z)).seq = { s.seq with
              state := .reversing, target := some (laneDirection s.lane p.half).target
              phase := some (firstPhase s.fan.speed), phaseStart := some (timeAfter t s) }
            ∧ (finish M (resynced p z)).fan.driveOutput = 0)
          ∧ (∀ d : Dir, s.seq.state = .reversing → s.seq.target = some d.target →
            (finish M (resynced p z)).seq.state = .reversing
              ∧ (finish M (resynced p z)).seq.target = some (laneDirection s.lane p.half).target)
          ∧ ((∀ d : Dir, s.seq.state ≠ d.state) → s.seq.state ≠ .reversing → (finish M (resynced p z)).seq = s.seq))) := by
  obtain ⟨-, hclimate, -, hmark, -⟩ := resynced_keeps p z
  obtain ⟨hsame, hturned⟩ := resynced_sequencer p z
  have hclock := h.resynced_clock (p := p)
  rw [h.lane, h.parts.2.2.2] at hsame hturned
  have hfinish : (finish M (resynced p z)).clock = (resynced p z).clock ∧ (finish M (resynced p z)).climate = (resynced p z).climate
      ∧ (finish M (resynced p z)).filter = (resynced p z).filter ∧ (finish M (resynced p z)).seq = (resynced p z).seq
      ∧ (finish M (resynced p z)).fan.driveOutput = (resynced p z).fan.driveOutput := by simp
  have hannounced : announced M ≠ announced (finish M (resynced p z)) := by
    intro he
    have hc := count_of_announced he
    rw [hM, hfinish.1, hclock] at hc
    exact hne hc
  rw [finish_asked hannounced, hfinish.1, hfinish.2.1, hfinish.2.2.1, hfinish.2.2.2.1, hfinish.2.2.2.2, hclimate, h.climate, finish_statusMark,
    hmark, h.mark, ← h.now, ← h.speed]
  refine ⟨hclock.trans (by rw [h.now]), rfl, rfl, rfl, rfl, fun hd => (hturned hd).1, fun hlow => ?_⟩
  rw [← h.seq hlow]
  exact ⟨hsame, fun hd => (hturned hd).2⟩

end

/-- Settles O51: the reference is formed, and the alignment takes the case that its half number names. -/
theorem alignmentFollowsTheReference : Obligations.AlignmentFollowsTheReference := by
  intro bs arrival t s p hr hstraps hactive htrans hassembly hbusy hk hlen hsum hp hstarted hrun hsender hindex hlow ahead resyncs
    hahead hresyncs
  refine ⟨_, exec_frame hr hstraps hactive htrans hassembly hbusy hk hlen hsum hindex.ne, ?_⟩
  obtain ⟨hseq, hclock, hfrost, hclimate, -, -, -, -, -, -, hpeers, -, -, hlane, hstation, -, -, hline, -, -, hmark⟩ :=
    opened_keeps bs t s
  have hnow := opened_now bs t s
  have hspeed := opened_speed bs t s
  have hM : (advance t s).clock = s.clock := by simp
  generalize opened bs t s = x at *
  generalize advance t s = M at hM
  generalize hn : frameIndex bs + 1 = n at *
  have hown : n ≠ ownNumber s := by
    rw [← hn, ownNumber]
    omega
  have href : (heardFrom .status bs n arrival x).clock.reference = some n := by
    refine heardFrom_reference (by rwa [hseq]) (hline.trans hactive) (by rwa [hclock]) (by rwa [← hp]) ?_ (by rwa [hpeers])
    rw [ownNumber, hstation, ← hn]
    omega
  have henter := enterFrame_status (n := n) (arrival := arrival) (x := x) hk
  generalize placeFreed (heardPeer x.peers n arrival).defrost
    (partAfterStatus (heardPeer x.peers n arrival).defrost (statusPartOf bs arrival) arrival) = freed at henter
  have hheard := heard_status (t := t) (s := s) freed href hclock hnow hclimate hmark hlane hstation hfrost hseq hspeed
  rw [← hp] at henter
  generalize reportPlace freed (weighOffer (statusOffer bs) false (heardFrom .status bs n arrival x)) = z at henter hheard
  obtain ⟨-, hzrun, hzref, -⟩ := hheard.parts
  have halign : enterFrame bs n arrival x = alignTo p z := henter.trans (if_pos ⟨hzrun.trans hrun, hzref⟩)
  rw [halign]
  have hlong := hheard.aheadTooLong_iff
  have hcase : resyncs ↔ (s.clock.c ≠ p.half ∧ s.clock.c + 1 ≠ p.half ∧ s.clock.c ≠ p.half + 1)
      ∨ (s.clock.c = p.half + 1 ∧ aheadTooLong z = true) := by
    rw [hresyncs, hlong]
  have hfclock (y : State) : (finish M y).clock = y.clock := by simp
  refine ⟨?_, ?_, fun h => ?_, fun he => ⟨fun hc => ?_, fun hc => ?_, fun h => ?_⟩, fun he hcases => ?_⟩
  · rw [hfclock, alignTo_reference, hzref]
  · rw [hfclock, alignTo_heardLength]
  · obtain ⟨hc, hshort⟩ := hahead.mp h
    have hnot : aheadTooLong z = false := by
      rw [← Bool.not_eq_true, hlong]
      rintro ⟨b, hb, hlt⟩
      exact absurd (hshort b hb) (Nat.not_le.mpr hlt)
    rw [hheard.waits hc hnot, hfclock, finish_statusMark, hheard.heardClock, ← hheard.mark]
    exact ⟨rfl, rfl⟩
  · have hclock' : (endTaken p z).clock = { clockFrom n p s.clock with
        endTime := some p.endEstimate, length := p.halfLength } := by
      unfold endTaken
      rw [hheard.heardClock]
    rw [(hheard.aligned hrun hown he).1 hc, hfclock, finish_statusMark, hclock', ← hheard.mark]
    exact ⟨rfl, rfl⟩
  · have hcrossed := crossed_finish M ((hheard.aligned hrun hown he).2.1 hc)
    have hopen := hcrossed.opened
    have htime : (finish M (alignTo p z)).now = timeAfter t s := by simp [hheard.now]
    rw [htime] at hopen
    exact ⟨hcrossed.clock, hcrossed.pending, hcrossed.mark, hcrossed.active, hopen⟩
  · have hne : s.clock.c ≠ p.half := by
      rcases hcase.mp h with ⟨hne, -⟩ | ⟨hc, -⟩
      · exact hne
      · rw [hc]
        exact (half_succ p.half).1
    rw [(hheard.aligned hrun hown he).2.2 (hcase.mp h)]
    exact hheard.answers_resync hM hne
  · have hcrossed := crossed_finish M (hheard.due hrun hown he (hcases.imp_right (Or.imp_right hcase.mp)))
    have hopen := hcrossed.opened
    have htime : (finish M (alignTo p z)).now = timeAfter t s := by simp [hheard.now]
    rw [htime] at hopen
    exact ⟨hcrossed.clock, hcrossed.pending, hcrossed.mark, hopen⟩

end Sys2Proof.Proofs
